-- ==== Sys2Proof/Word.lean ====
section
/-! DEFINITION. The words of the part: link bytes, 16-bit and 32-bit numbers (98_reader.md, 00_scope.md
"Numbers"; 11_record_and_frame_layouts.md R189). -/

namespace Sys2Proof

/-- One byte of a link frame, a sensor line, a page header or a slot image. -/
abbrev Byte := BitVec 8

/-- A 16-bit number of a payload (R189). -/
abbrev Half := BitVec 16

/-- A 32-bit number: sensor frame numbers, output frame counts and stamps wrap at 2^32 (00_scope.md
"Frame numbers"). -/
abbrev Word := BitVec 32

end Sys2Proof
end

