-- ==== Sys2Proof/Machine/Bytes.lean ====
section
/-! DEFINITION. How numbers are carried in bytes (R189) and the link's CRC (R165, R194). -/

namespace Sys2Proof.Machine

/-- The low byte of a number. -/
def lowByte (n : Nat) : Byte := BitVec.ofNat 8 n

/-- A number in two bytes, least significant first (R189). -/
def le16 (n : Nat) : List Byte := [lowByte n, lowByte (n / 256)]

/-- A number in four bytes, least significant first (R189). -/
def le32 (n : Nat) : List Byte := [lowByte n, lowByte (n / 256), lowByte (n / 65536), lowByte (n / 16777216)]

/-- A flag in one byte, 0 or 1 (R189, R192). -/
def flagByte (b : Bool) : Byte := if b then 1 else 0

/-- The number whose two bytes, least significant first, are given (R189). -/
def half (lo hi : Byte) : Half := hi ++ lo

/-- The number whose four bytes, least significant first, are given (R189). -/
def word (b0 b1 b2 b3 : Byte) : Word := ((b3 ++ b2) ++ (b1 ++ b0) : BitVec 32)

/-- The low byte of a 16-bit number. -/
def halfLow (h : Half) : Byte := h.extractLsb' 0 8

/-- The high byte of a 16-bit number. -/
def halfHigh (h : Half) : Byte := h.extractLsb' 8 8

/-- One of the four bytes of a 32-bit number, byte 0 the least significant. -/
def wordByte (w : Word) (i : Nat) : Byte := w.extractLsb' (8 * i) 8

/-- One shift of the CRC register: polynomial 0x1021, most significant bit first (R165). -/
def crcShift (crc : Half) : Half :=
  if crc.msb then (crc <<< 1) ^^^ 0x1021#16 else crc <<< 1

/-- The CRC register after one byte (R165). -/
def crcByte (crc : Half) (b : Byte) : Half :=
  crcShift (crcShift (crcShift (crcShift (crcShift (crcShift (crcShift (crcShift
    (crc ^^^ ((b.setWidth 16) <<< 8)))))))))

/-- The CRC of a run of bytes: initial value 0xFFFF, no reflection, no final inversion (R165, R194). -/
def crc16 (bytes : List Byte) : Half := bytes.foldl crcByte 0xFFFF#16

/-- The CRC's two bytes as carried, most significant first (R189). -/
def crcBytes (bytes : List Byte) : List Byte := [halfHigh (crc16 bytes), halfLow (crc16 bytes)]

/-- The bytes of a link frame (R190). -/
def frameBytes (type code tag : Byte) (payload : List Byte) : List Byte :=
  let covered := [type, code, tag] ++ le16 payload.length ++ payload
  [0xC3#8] ++ covered ++ crcBytes covered

end Sys2Proof.Machine
end

