-- ==== Sys2Proof/Syntax.lean ====
section
/-! DEFINITION. The commands of the WX5260: one constructor per row of spec/opcode_table.json. Port and
timer events carry what the port delivers; a request carries the tag of its frame (R190) and its payload fields
in the order and width of R191. -/

namespace Sys2Proof

/-- The pixel bytes of a frame, one list of bytes per row, top row first (R24, R133). -/
abbrev Image := List (List Byte)

/-- A character on the link receive line, as `readCharacter` reads it from the line's levels: good, with its byte, or
faulty, its stop bit low (R161, R162). -/
inductive Character where
  | good (b : Byte)
  | faulty
  deriving DecidableEq, Repr

/-- What the flash device delivers at the end of a recall read that reports no error: the cell's header area and
its image (R158). -/
structure CellRead where
  header : List Byte
  image : Image
  deriving DecidableEq, Repr

/-- A received request: code, tag and payload (R190). -/
structure Request where
  code : Byte
  tag : Byte
  payload : List Byte
  deriving DecidableEq, Repr

/-- A capture whose frame is chosen before a good frame end completes its frame and whose joint step is taken after
(R122, R124; 01_frame_slots.md 1.4): of the key, of the interval timer, or of a CAPTURE NOW with its tag. -/
inductive EarlyCapture where
  | key
  | interval
  | request (tag : Byte)
  deriving DecidableEq, Repr

/-- A step that moves a tag, taken between two pin requests of one output frame start (R18, R109): LIVE and SETTLED
at a frame end, RECALL at a recall's end, a freeze by its request. -/
inductive TagMove where
  | frameEnd
  | recallReadEnd (read : Option CellRead)
  | freeze (tag which source : Byte)
  | unfreeze (tag which : Byte)
  deriving DecidableEq, Repr

/-- What is taken during one output frame start in RUN: the tag moves after the turn of pane 0, of pane 1 and of pane 2
(R109). -/
structure Between where
  after0 : List TagMove
  after1 : List TagMove
  after2 : List TagMove
  deriving DecidableEq, Repr

/-- Nothing is taken during the output frame start. -/
def Between.none : Between := ⟨[], [], []⟩

/-- What the world outside takes during the commands to come, where the rules let a step fall inside another: for each
coming good frame end in turn the capture it overtakes, if any (R124; notes/assumptions/7.md), and for each coming
composed output frame start what is taken during it (R109; notes/assumptions/10.md). Beyond the ends of the lists
nothing is taken. -/
structure Schedule where
  overtaken : List (Option EarlyCapture)
  between : List Between
  deriving DecidableEq, Repr

/-- The commands the part takes, one constructor per row of the operation table. -/
inductive Instr where
  /-- POWER_ON_RESET (R175). -/
  | powerOnReset
  /-- FRAME_START: frame valid becomes active (R27, R28). -/
  | frameStart
  /-- LINE_ARRIVAL: line valid becomes inactive; the bytes the line carried (R24, R29). -/
  | lineArrival (line : List Byte)
  /-- FRAME_END: frame valid becomes inactive (R30 to R32). -/
  | frameEnd
  /-- LOSS_TIMEOUT: the loss timer reaches 250 ms (R33). -/
  | lossTimeout
  /-- OUTPUT_FRAME_START (R99, R100). -/
  | outputFrameStart
  /-- OUTPUT_FRAME_END (R101). -/
  | outputFrameEnd
  /-- INTERVAL_EXPIRY: an expiry of the interval timer, judged as a trigger (R118, R121). -/
  | intervalExpiry
  /-- KEY_SAMPLE: the 1 ms sample of the capture key (R120). -/
  | keySample (pressed : Bool)
  /-- INTER_BYTE_TIMEOUT (R164). -/
  | interByteTimeout
  /-- FRAME_COMPLETION: the second CRC byte of the frame being received arrives (R165). -/
  | frameCompletion (crcLow : Byte)
  /-- TRANSMITTER_FREE: the last character of the frame being sent ends (R166, R170). -/
  | transmitterFree
  /-- IDENTITY_READ_END: the device's size in bytes, or no answer (R136, R139). -/
  | identityReadEnd (size : Option Nat)
  /-- HEADER_READ_END: the header area read, or a failed read (R137). -/
  | headerReadEnd (header : Option (List Byte))
  /-- FORMAT_ERASE_END (R139). -/
  | formatEraseEnd (success : Bool)
  /-- SAVE_ERASE_END (R149, R151). -/
  | saveEraseEnd (success : Bool)
  /-- PROGRAM_END (R149, R151). -/
  | programEnd (success : Bool)
  /-- COMMIT_END (R150, R151). -/
  | commitEnd (success : Bool)
  /-- RECLAIM_ERASE_END (R152). -/
  | reclaimEraseEnd (success : Bool)
  /-- TOMBSTONE_END (R155, R156). -/
  | tombstoneEnd (success : Bool)
  /-- RECALL_READ_END: the cell read, or a device read error (R158). -/
  | recallReadEnd (read : Option CellRead)
  /-- EXPORT_READ_END: the bytes read, or a device read error (R159). -/
  | exportReadEnd (data : Option (List Byte))
  /-- PING (R171). -/
  | ping (tag : Byte)
  /-- STATUS (R172). -/
  | status (tag : Byte)
  /-- LINK RATE (R173). -/
  | linkRate (tag rateIndex : Byte)
  /-- RESTART (R174). -/
  | restart (tag : Byte)
  /-- FREEZE (R20). -/
  | freeze (tag which source : Byte)
  /-- UNFREEZE (R21). -/
  | unfreeze (tag which : Byte)
  /-- SLOT LIST (R22). -/
  | slotList (tag : Byte)
  /-- INTAKE ENABLE (R39). -/
  | intakeEnable (tag : Byte)
  /-- INTAKE DISABLE (R40). -/
  | intakeDisable (tag : Byte)
  /-- STATS READ (R40). -/
  | statsRead (tag : Byte)
  /-- FOCUS AREA SET (R38). -/
  | focusAreaSet (tag : Byte) (x y w h : Half)
  /-- WATCH SET (R55, R56). -/
  | watchSet (tag enable threshold rise length quorum : Byte)
  /-- WATCH READ (R57). -/
  | watchRead (tag : Byte)
  /-- VIEW SET (R69). -/
  | viewSet (tag window : Byte) (zoom cx cy rate : Half)
  /-- VIEW NUDGE (R71); the offsets are signed. -/
  | viewNudge (tag window : Byte) (dx dy : Half)
  /-- VIEW READ (R72). -/
  | viewRead (tag window : Byte)
  /-- PROFILE SET (R88). -/
  | profileSet (tag profile gain threshold limit : Byte)
  /-- PROFILE READ (R89). -/
  | profileRead (tag profile : Byte)
  /-- OUTPUT START (R97). -/
  | outputStart (tag mode : Byte)
  /-- OUTPUT STOP (R98). -/
  | outputStop (tag : Byte)
  /-- PANE SET (R103). -/
  | paneSet (tag pane enabled : Byte) (x y w h : Half)
      (source hold window profile absentY absentCb absentCr : Byte)
  /-- PANE COMMIT (R104). -/
  | paneCommit (tag : Byte)
  /-- PANE READ (R106). -/
  | paneRead (tag pane : Byte)
  /-- BACKGROUND SET (R112). -/
  | backgroundSet (tag luma cb cr : Byte)
  /-- CAPTURE SET (R127). -/
  | captureSet (tag mode mask : Byte) (floor : Half) (holdoff restart : Byte)
  /-- CAPTURE ARM (R128). -/
  | captureArm (tag : Byte)
  /-- CAPTURE NOW (R129). -/
  | captureNow (tag : Byte)
  /-- INTERVAL SET (R130). -/
  | intervalSet (tag prescale postscale : Byte)
  /-- CAPTURE READ (R131). -/
  | captureRead (tag : Byte)
  /-- STORE MOUNT (R136). -/
  | storeMount (tag : Byte)
  /-- STORE FORMAT (R139). -/
  | storeFormat (tag : Byte)
  /-- STORE UNMOUNT (R140). -/
  | storeUnmount (tag : Byte)
  /-- STORE STATUS (R141). -/
  | storeStatus (tag : Byte)
  /-- LESSON OPEN (R143); the whole payload is the title. -/
  | lessonOpen (tag : Byte) (title : List Byte)
  /-- LESSON RESUME (R144). -/
  | lessonResume (tag lesson : Byte)
  /-- LESSON CLOSE (R145). -/
  | lessonClose (tag : Byte)
  /-- LESSON LIST (R146). -/
  | lessonList (tag first : Byte)
  /-- LESSON PAGES (R146). -/
  | lessonPages (tag lesson first : Byte)
  /-- LESSON DELETE (R155). -/
  | lessonDelete (tag lesson : Byte)
  /-- PAGE DELETE (R156). -/
  | pageDelete (tag lesson ordinal : Byte)
  /-- PAGE RECALL (R157). -/
  | pageRecall (tag lesson ordinal restoreView : Byte)
  /-- PAGE READ (R159). -/
  | pageRead (tag lesson ordinal : Byte) (offset : Word) (length : Half)
  /-- NOTICE LEVELS SET (R182): the fourteen levels in code order. -/
  | noticeLevelsSet (tag l1 l2 l3 l4 l5 l6 l7 l8 l9 l10 l11 l12 l13 l14 : Byte)
  /-- NOTICE LEVELS READ (R183). -/
  | noticeLevelsRead (tag : Byte)
  /-- ERROR READ (R186). -/
  | errorRead (tag : Byte)
  /-- ERROR CLEAR (R187). -/
  | errorClear (tag record : Byte)
  /-- CHARACTER_ARRIVAL (R162). -/
  | characterArrival (c : Character)
  deriving DecidableEq, Repr

end Sys2Proof
end

