-- ==== Sys2Proof/Decode.lean ====
section
/-! DEFINITION. Reading commands from words and from received requests. The operation table gives no row any
bits, so no word spells a command. A received request is read by its code and payload length (R167, section 9.8, R191),
and the encoder writes the request that a request command stands for. -/

namespace Sys2Proof

/-- The command a table word spells: none, since spec/opcode_table.json gives bits to no row. -/
def decodeTableWord (_nbits _w : Nat) : Option Instr := none

namespace Machine

/-- What dispatch finds in a request (R167). -/
inductive Dispatched where
  | unknown
  | badLength
  | command (i : Instr)
  deriving DecidableEq, Repr

/-- A request without payload (section 9.8). -/
def payload0 (p : List Byte) (i : Instr) : Dispatched :=
  match p with
  | [] => .command i
  | _ => .badLength

/-- A request of one payload byte (section 9.8). -/
def payload1 (p : List Byte) (f : Byte → Instr) : Dispatched :=
  match p with
  | [a] => .command (f a)
  | _ => .badLength

/-- A request of two payload bytes (section 9.8). -/
def payload2 (p : List Byte) (f : Byte → Byte → Instr) : Dispatched :=
  match p with
  | [a, b] => .command (f a b)
  | _ => .badLength

/-- A request of three payload bytes (section 9.8). -/
def payload3 (p : List Byte) (f : Byte → Byte → Byte → Instr) : Dispatched :=
  match p with
  | [a, b, c] => .command (f a b c)
  | _ => .badLength

/-- A request of four payload bytes (section 9.8). -/
def payload4 (p : List Byte) (f : Byte → Byte → Byte → Byte → Instr) : Dispatched :=
  match p with
  | [a, b, c, d] => .command (f a b c d)
  | _ => .badLength

/-- A request of five payload bytes (section 9.8). -/
def payload5 (p : List Byte) (f : Byte → Byte → Byte → Byte → Byte → Instr) : Dispatched :=
  match p with
  | [a, b, c, d, e] => .command (f a b c d e)
  | _ => .badLength

/-- A request of six payload bytes (section 9.8). -/
def payload6 (p : List Byte) (f : Byte → Byte → Byte → Byte → Byte → Byte → Instr) : Dispatched :=
  match p with
  | [a, b, c, d, e, g] => .command (f a b c d e g)
  | _ => .badLength

/-- FOCUS AREA SET's payload (R191). -/
def decodeFocusArea (tag : Byte) : List Byte → Dispatched
  | [x0, x1, y0, y1, w0, w1, h0, h1] => .command (.focusAreaSet tag (half x0 x1) (half y0 y1) (half w0 w1) (half h0 h1))
  | _ => .badLength

/-- VIEW SET's payload (R191). -/
def decodeViewSet (tag : Byte) : List Byte → Dispatched
  | [w, z0, z1, x0, x1, y0, y1, r0, r1] =>
    .command (.viewSet tag w (half z0 z1) (half x0 x1) (half y0 y1) (half r0 r1))
  | _ => .badLength

/-- PANE SET's payload (R191). -/
def decodePaneSet (tag : Byte) : List Byte → Dispatched
  | [n, e, x0, x1, y0, y1, w0, w1, h0, h1, s, hold, v, p, cy, cb, cr] =>
    .command (.paneSet tag n e (half x0 x1) (half y0 y1) (half w0 w1) (half h0 h1) s hold v p cy cb cr)
  | _ => .badLength

/-- PAGE READ's payload (R191). -/
def decodePageRead (tag : Byte) : List Byte → Dispatched
  | [l, o, a, b, c, d, n0, n1] => .command (.pageRead tag l o (word a b c d) (half n0 n1))
  | _ => .badLength

/-- NOTICE LEVELS SET's payload (R191). -/
def decodeLevels (tag : Byte) : List Byte → Dispatched
  | [a, b, c, d, e, f, g, h, i, j, k, l, m, n] => .command (.noticeLevelsSet tag a b c d e f g h i j k l m n)
  | _ => .badLength

/-- LESSON OPEN's payload: the title, 0..255 bytes (section 9.8). -/
def decodeLessonOpen (tag : Byte) (p : List Byte) : Dispatched :=
  if p.length ≤ 255 then .command (.lessonOpen tag p) else .badLength

/-- Dispatch's reading of a request: its code in the index of section 9.8, its payload length, its fields (R167,
R191). -/
def decodeRequest (r : Request) : Dispatched :=
  let t := r.tag
  let p := r.payload
  match r.code.toNat with
  | 0x01 => payload0 p (.ping t)
  | 0x02 => payload0 p (.status t)
  | 0x03 => payload1 p (.linkRate t)
  | 0x04 => payload0 p (.restart t)
  | 0x10 => payload2 p (.freeze t)
  | 0x11 => payload1 p (.unfreeze t)
  | 0x12 => payload0 p (.slotList t)
  | 0x18 => payload0 p (.intakeEnable t)
  | 0x19 => payload0 p (.intakeDisable t)
  | 0x1A => payload0 p (.statsRead t)
  | 0x1B => decodeFocusArea t p
  | 0x20 => payload5 p (.watchSet t)
  | 0x21 => payload0 p (.watchRead t)
  | 0x28 => decodeViewSet t p
  | 0x29 => payload5 p fun w x0 x1 y0 y1 => .viewNudge t w (half x0 x1) (half y0 y1)
  | 0x2A => payload1 p (.viewRead t)
  | 0x30 => payload4 p (.profileSet t)
  | 0x31 => payload1 p (.profileRead t)
  | 0x38 => payload1 p (.outputStart t)
  | 0x39 => payload0 p (.outputStop t)
  | 0x3A => decodePaneSet t p
  | 0x3B => payload0 p (.paneCommit t)
  | 0x3C => payload1 p (.paneRead t)
  | 0x3D => payload3 p (.backgroundSet t)
  | 0x48 => payload6 p fun m k f0 f1 h r => .captureSet t m k (half f0 f1) h r
  | 0x49 => payload0 p (.captureArm t)
  | 0x4A => payload0 p (.captureNow t)
  | 0x4B => payload2 p (.intervalSet t)
  | 0x4C => payload0 p (.captureRead t)
  | 0x50 => payload0 p (.storeMount t)
  | 0x51 => payload0 p (.storeFormat t)
  | 0x52 => payload0 p (.storeUnmount t)
  | 0x53 => payload0 p (.storeStatus t)
  | 0x58 => decodeLessonOpen t p
  | 0x59 => payload1 p (.lessonResume t)
  | 0x5A => payload0 p (.lessonClose t)
  | 0x5B => payload1 p (.lessonList t)
  | 0x5C => payload2 p (.lessonPages t)
  | 0x5D => payload1 p (.lessonDelete t)
  | 0x60 => payload2 p (.pageDelete t)
  | 0x61 => payload3 p (.pageRecall t)
  | 0x62 => decodePageRead t p
  | 0x70 => decodeLevels t p
  | 0x71 => payload0 p (.noticeLevelsRead t)
  | 0x72 => payload0 p (.errorRead t)
  | 0x73 => payload1 p (.errorClear t)
  | _ => .unknown

/-- A 16-bit number in two bytes (R189). -/
def halfBytes (h : Half) : List Byte := [halfLow h, halfHigh h]

/-- A 32-bit number in four bytes (R189). -/
def wordBytes (w : Word) : List Byte := [wordByte w 0, wordByte w 1, wordByte w 2, wordByte w 3]

/-- The request a request command stands for; none for an event (section 9.8, R191). -/
def encodeRequest : Instr → Option Request
  | .powerOnReset | .frameStart | .lineArrival _ | .frameEnd | .lossTimeout | .outputFrameStart | .outputFrameEnd
  | .intervalExpiry | .keySample _ | .interByteTimeout | .frameCompletion _ | .transmitterFree | .identityReadEnd _
  | .headerReadEnd _ | .formatEraseEnd _ | .saveEraseEnd _ | .programEnd _ | .commitEnd _ | .reclaimEraseEnd _
  | .tombstoneEnd _ | .recallReadEnd _ | .exportReadEnd _ | .characterArrival _ => none
  | .ping t => some ⟨0x01, t, []⟩
  | .status t => some ⟨0x02, t, []⟩
  | .linkRate t i => some ⟨0x03, t, [i]⟩
  | .restart t => some ⟨0x04, t, []⟩
  | .freeze t f s => some ⟨0x10, t, [f, s]⟩
  | .unfreeze t f => some ⟨0x11, t, [f]⟩
  | .slotList t => some ⟨0x12, t, []⟩
  | .intakeEnable t => some ⟨0x18, t, []⟩
  | .intakeDisable t => some ⟨0x19, t, []⟩
  | .statsRead t => some ⟨0x1A, t, []⟩
  | .focusAreaSet t x y w h => some ⟨0x1B, t, halfBytes x ++ halfBytes y ++ halfBytes w ++ halfBytes h⟩
  | .watchSet t e m r l q => some ⟨0x20, t, [e, m, r, l, q]⟩
  | .watchRead t => some ⟨0x21, t, []⟩
  | .viewSet t w z x y r => some ⟨0x28, t, [w] ++ halfBytes z ++ halfBytes x ++ halfBytes y ++ halfBytes r⟩
  | .viewNudge t w x y => some ⟨0x29, t, [w] ++ halfBytes x ++ halfBytes y⟩
  | .viewRead t w => some ⟨0x2A, t, [w]⟩
  | .profileSet t p g h l => some ⟨0x30, t, [p, g, h, l]⟩
  | .profileRead t p => some ⟨0x31, t, [p]⟩
  | .outputStart t m => some ⟨0x38, t, [m]⟩
  | .outputStop t => some ⟨0x39, t, []⟩
  | .paneSet t n e x y w h s hold v p cy cb cr =>
    some ⟨0x3A, t, [n, e] ++ halfBytes x ++ halfBytes y ++ halfBytes w ++ halfBytes h ++ [s, hold, v, p, cy, cb, cr]⟩
  | .paneCommit t => some ⟨0x3B, t, []⟩
  | .paneRead t n => some ⟨0x3C, t, [n]⟩
  | .backgroundSet t y cb cr => some ⟨0x3D, t, [y, cb, cr]⟩
  | .captureSet t m k f h r => some ⟨0x48, t, [m, k] ++ halfBytes f ++ [h, r]⟩
  | .captureArm t => some ⟨0x49, t, []⟩
  | .captureNow t => some ⟨0x4A, t, []⟩
  | .intervalSet t p q => some ⟨0x4B, t, [p, q]⟩
  | .captureRead t => some ⟨0x4C, t, []⟩
  | .storeMount t => some ⟨0x50, t, []⟩
  | .storeFormat t => some ⟨0x51, t, []⟩
  | .storeUnmount t => some ⟨0x52, t, []⟩
  | .storeStatus t => some ⟨0x53, t, []⟩
  | .lessonOpen t title => some ⟨0x58, t, title⟩
  | .lessonResume t l => some ⟨0x59, t, [l]⟩
  | .lessonClose t => some ⟨0x5A, t, []⟩
  | .lessonList t f => some ⟨0x5B, t, [f]⟩
  | .lessonPages t l f => some ⟨0x5C, t, [l, f]⟩
  | .lessonDelete t l => some ⟨0x5D, t, [l]⟩
  | .pageDelete t l o => some ⟨0x60, t, [l, o]⟩
  | .pageRecall t l o r => some ⟨0x61, t, [l, o, r]⟩
  | .pageRead t l o f n => some ⟨0x62, t, [l, o] ++ wordBytes f ++ halfBytes n⟩
  | .noticeLevelsSet t a b c d e f g h i j k l m n => some ⟨0x70, t, [a, b, c, d, e, f, g, h, i, j, k, l, m, n]⟩
  | .noticeLevelsRead t => some ⟨0x71, t, []⟩
  | .errorRead t => some ⟨0x72, t, []⟩
  | .errorClear t r => some ⟨0x73, t, [r]⟩

/-- The request frame the host sends for a request (R190). -/
def requestFrame (r : Request) : List Byte := frameBytes 0x01 r.code r.tag r.payload

end Machine

end Sys2Proof
end

