-- ==== Sys2Proof/Config.lean ====
section
/-! DEFINITION. What the WX5260 fixes (00_scope.md "Fixed numbers", R24, R35, R96, R136, R161) and the
values the spec leaves open (opaque constants without a body). -/

namespace Sys2Proof.Config

/-- Width of the sensor frame in pixels (R24). -/
def frameWidth : Nat := 2592

/-- Height of the sensor frame in lines (R24). -/
def frameHeight : Nat := 1944

/-- Bytes of a whole sensor line, two per pixel (R24). -/
def lineBytes : Nat := 5184

/-- Pixels of a sensor frame (R34). -/
def framePixels : Nat := 5038848

/-- Bytes of a page image (01_frame_slots.md; R159). -/
def imageBytes : Nat := 10077696

/-- Columns of tiles (R35). -/
def tileColumns : Nat := 16

/-- Side of a tile in pixels (R35). -/
def tileSide : Nat := 162

/-- Pixels of a tile (R35). -/
def tilePixels : Nat := 26244

/-- Bytes of one flash cell (R133, R136). -/
def cellBytes : Nat := 16777216

/-- The smallest usable cell count (R136). -/
def minCells : Nat := 64

/-- The most cells the store uses (R136). -/
def maxCells : Nat := 1024

/-- The byte of a cell at which its image starts (R133). -/
def imageOffset : Nat := 4096

/-- The longest link payload (R163). -/
def maxPayload : Nat := 1100

/-- The most save-queue entries (R147). -/
def queueCapacity : Nat := 4

/-- The most error records (R184). -/
def errorCapacity : Nat := 8

/-- The longest export chunk (R159). -/
def maxExport : Nat := 1024

/-- The most cells tried for one save-queue entry (R151). -/
def maxTries : Nat := 3

/-- The start byte of a link frame (R190). -/
def startByte : Byte := 0xC3#8

/-- Active width of each raster mode (R96). -/
def activeWidth : Fin 4 → Nat
  | 0 => 1920
  | 1 => 1280
  | 2 => 1024
  | 3 => 1920

/-- Active height of each raster mode (R96). -/
def activeHeight : Fin 4 → Nat
  | 0 => 1080
  | 1 => 800
  | 2 => 768
  | 3 => 1200

/-- Total raster of each mode, columns and lines (R96). -/
def totalRaster : Fin 4 → Nat × Nat
  | 0 => (2200, 1125)
  | 1 => (1680, 831)
  | 2 => (1344, 806)
  | 3 => (2080, 1235)

/-- Divisor of the 48 MHz clock at each link rate index (R161). -/
def rateDivisor : Fin 4 → Nat
  | 0 => 16
  | 1 => 32
  | 2 => 128
  | 3 => 416

/-- OPEN VALUE (notes/assumptions/5.md). Which of several windows that reach their targets at one output
frame start raises VIEW_REACHED last: R177 says "the payload left is that of the raise taken second" and gives
no order. Applied to the state's counter of open choices, reduced to a position by the caller. -/
opaque raisedLast : Nat → Nat

/-- OPEN VALUE (notes/assumptions/6.md). Which title a lesson takes at mount when several of its pages share
the highest stamp: R138 names "its highest-stamp page" and no tie-break. Applied to the tied titles. -/
opaque titleTie : List (List Byte) → Nat

/-- OPEN VALUE (notes/assumptions/3.md). A byte of external memory that no frame has written: slot, row, byte
within the row. -/
opaque unwrittenByte : Nat → Nat → Nat → Byte

/-- OPEN VALUE (notes/assumptions/25.md). The size of the flash device's erase blocks, as a power of two: R135 gives
their order and no size; blocks that tile a cell of 2^24 bytes are of 2^0 to 2^24 bytes. -/
opaque eraseBlockLog : Fin 25

/-- Bytes of an erase block of the flash device (R135). -/
def eraseBlockBytes : Nat := 2 ^ eraseBlockLog.val

/-- OPEN VALUE (notes/assumptions/24.md). The two sync outputs of the projector port, horizontal and vertical, at a
position of the total raster while the raster runs: R96 gives the sizes of the raster and no sync timing. -/
opaque syncLevels : Fin 4 → Nat → Nat → Bool × Bool

/-- OPEN VALUE (notes/assumptions/24.md). The three components on the data lines outside the active pixels of a frame
while the raster runs. -/
opaque blankingData : Fin 4 → Nat → Nat → Byte × Byte × Byte

end Sys2Proof.Config
end

