-- ==== Sys2Proof/Machine/Table.lean ====
section
/-! DEFINITION. Tables of a fixed number of like records (the slot table, the panes, the windows, the tiles,
the notice records): a list paired once with the proof of its length. -/

namespace Sys2Proof.Machine

/-- `n` records in fixed index order. -/
structure Table (α : Type) (n : Nat) where
  toList : List α
  length_eq : toList.length = n
  deriving DecidableEq, Repr

/-- The record at an index. -/
def Table.get {α : Type} {n : Nat} (t : Table α n) (i : Fin n) : α :=
  t.toList[i.val]'(by rw [t.length_eq]; exact i.isLt)

/-- The table with one record replaced. -/
def Table.set {α : Type} {n : Nat} (t : Table α n) (i : Fin n) (a : α) : Table α n :=
  ⟨t.toList.set i.val a, by rw [List.length_set, t.length_eq]⟩

/-- A table of equal records. -/
def Table.fill {α : Type} (n : Nat) (a : α) : Table α n :=
  ⟨List.replicate n a, List.length_replicate⟩

/-- Every record changed by one function. -/
def Table.map {α β : Type} {n : Nat} (f : α → β) (t : Table α n) : Table β n :=
  ⟨t.toList.map f, by rw [List.length_map, t.length_eq]⟩

/-- Every record changed by a function that also sees its index. -/
def Table.mapIdx {α β : Type} {n : Nat} (f : Fin n → α → β) (t : Table α n) : Table β n :=
  ⟨List.zipWith f (List.finRange n) t.toList, by simp [t.length_eq]⟩

/-- The lowest index whose record satisfies a test. -/
def Table.lowest {α : Type} {n : Nat} (p : α → Bool) (t : Table α n) : Option (Fin n) :=
  (List.finRange n).find? fun i => p (t.get i)

/-- The number of records that satisfy a test. -/
def Table.count {α : Type} {n : Nat} (p : α → Bool) (t : Table α n) : Nat :=
  t.toList.countP p

end Sys2Proof.Machine
end

