-- ==== Sys2Proof/Machine/State.lean ====
section
/-! DEFINITION. The state of the WX5260 as plain data, block by block in the order of 00_scope.md's block
diagram, and its value after reset (R23, R41, R58, R75, R87, R93, R114, R132, R160, R174, R175, R188). -/

namespace Sys2Proof.Machine

/-! ### Frame slot store (R1 to R5) -/

/-- What is happening to a slot's image (R1, R2). -/
inductive Phase where
  | free | filling | loading | ready
  deriving DecidableEq, Repr

/-- The roles a slot's image plays (R4). -/
inductive Tag where
  | live | settled | freezeA | freezeB | recalled | capture
  deriving DecidableEq, Repr

/-- A set of tags (R1). -/
structure TagSet where
  live : Bool
  settled : Bool
  freezeA : Bool
  freezeB : Bool
  recalled : Bool
  capture : Bool
  deriving DecidableEq, Repr

/-- The empty tag set. -/
def TagSet.empty : TagSet := ⟨false, false, false, false, false, false⟩

/-- Where a slot's image came from (R3). -/
inductive Origin where
  | sensor (frame : Word)
  | store (lesson ordinal : Nat)
  deriving DecidableEq, Repr

/-- A slot record (R1) with the image bytes at the slot's place in external memory (notes/assumptions/3.md). -/
structure Slot where
  phase : Phase
  origin : Option Origin
  focus : Option Nat
  tags : TagSet
  pins : Nat
  image : Image
  deriving DecidableEq, Repr

/-- The slot table (R1). -/
abbrev Slots := Table Slot 12

/-! ### Sensor intake (R25) -/

/-- The intake states (R26). -/
inductive IntakeState where
  | disabled | waiting | filling | dropping | lost
  deriving DecidableEq, Repr

/-- A timer whose expiry arrives as a command: stopped, or running toward its limit (R25, R161;
notes/assumptions/8.md). -/
inductive Timer where
  | stopped | running
  deriving DecidableEq, Repr

/-- A rectangle: top-left pixel and size (R38, R67, R105). -/
structure Rect where
  x : Nat
  y : Nat
  w : Nat
  h : Nat
  deriving DecidableEq, Repr

/-- The running sums of the frame now arriving (R25, R29): luma of all pixels, luma of each tile, and the sum of
R36's differences over the focus area. -/
structure Sums where
  luma : Nat
  tiles : Table Nat 192
  focus : Nat
  deriving DecidableEq, Repr

/-- The record of the frame now arriving (R25). -/
structure CurrentFrame where
  number : Word
  slot : Option (Fin 12)
  lines : Nat
  damaged : Bool
  area : Rect
  sums : Sums
  deriving DecidableEq, Repr

/-- The statistics record (R37). -/
structure Statistics where
  frame : Word
  meanLuma : Nat
  focus : Nat
  movingTiles : Nat
  fresh : Bool
  deriving DecidableEq, Repr

/-- Intake's state (R25). -/
structure Intake where
  state : IntakeState
  counter : Word
  drops : Nat
  current : Option CurrentFrame
  lossTimer : Timer
  area : Rect
  stats : Statistics
  deriving DecidableEq, Repr

/-! ### Page watch (R42, R43, R55) -/

/-- A tile's judged state (R43). -/
inductive TileState where
  | still | moving
  deriving DecidableEq, Repr

/-- A tile record (R43). -/
structure Tile where
  mean : Option Nat
  counter : Nat
  state : TileState
  deriving DecidableEq, Repr

/-- The page state (R48). -/
inductive PageState where
  | off | still | motion
  deriving DecidableEq, Repr

/-- The watch settings (R55). -/
structure WatchSettings where
  enable : Bool
  threshold : Nat
  rise : Nat
  length : Nat
  quorum : Nat
  deriving DecidableEq, Repr

/-- The watch's state (R42). -/
structure Watch where
  tiles : Table Tile 192
  meansPresent : Bool
  page : PageState
  movingTiles : Nat
  settings : WatchSettings
  deriving DecidableEq, Repr

/-! ### View windows (R59) -/

/-- A window record (R59). -/
structure Window where
  zoom : Nat
  target : Nat
  rate : Nat
  cx : Nat
  cy : Nat
  deriving DecidableEq, Repr

/-! ### Pixel pipe (R76) -/

/-- A sharpening profile (R76). -/
structure Profile where
  gain : Nat
  threshold : Nat
  limit : Nat
  deriving DecidableEq, Repr

/-- A pane job (R76). -/
structure PaneJob where
  pane : Fin 4
  slot : Fin 12
  width : Nat
  height : Nat
  rect : Rect
  profile : Fin 4
  values : Profile
  stepX : Nat
  stepY : Nat
  deriving DecidableEq, Repr

/-- The pipe's state (R76). -/
structure Pipe where
  profiles : Table Profile 4
  jobs : List PaneJob
  deriving DecidableEq, Repr

/-! ### Projector output (R94, R102) -/

/-- The output states (R95). -/
inductive OutputState where
  | off | starting | run
  deriving DecidableEq, Repr

/-- A colour: luma and the two chroma components (R94). -/
structure Colour where
  luma : Byte
  cb : Byte
  cr : Byte
  deriving DecidableEq, Repr

/-- A pane's source (R102). -/
inductive PaneSource where
  | live | settled | freezeA | freezeB | recalled | test
  deriving DecidableEq, Repr

/-- A pane record (R102). -/
structure Pane where
  enabled : Bool
  rect : Rect
  source : PaneSource
  hold : Bool
  window : Fin 4
  profile : Fin 4
  absent : Colour
  deriving DecidableEq, Repr

/-- What a pane shows for one output frame (R94, R100). -/
inductive PaneShows where
  | nothing
  | slot (i : Fin 12)
  | testCard
  | absent (c : Colour)
  deriving DecidableEq, Repr

/-- One pane of the frame latch: its clipped rectangle and what it shows (R94). -/
structure PaneLatch where
  rect : Rect
  shows : PaneShows
  deriving DecidableEq, Repr

/-- The frame latch (R94). The page state is read at frame starts in RUN alone (R99, R100). -/
structure FrameLatch where
  page : Option PageState
  background : Colour
  panes : Table PaneLatch 4
  deriving DecidableEq, Repr

/-- Output's state (R94). -/
structure Output where
  state : OutputState
  mode : Fin 4
  startCount : Nat
  frameCounter : Word
  staged : Table Pane 4
  active : Table Pane 4
  commitPending : Bool
  background : Colour
  latch : Option FrameLatch
  deriving DecidableEq, Repr

/-! ### Capture unit (R115) -/

/-- The capture modes (R116). -/
inductive CaptureMode where
  | off | single | continuous
  deriving DecidableEq, Repr

/-- The sources of a trigger (R121). -/
inductive Trigger where
  | settle | interval | key | request
  deriving DecidableEq, Repr

/-- Which gated sources are selected (R115). -/
structure SourceMask where
  settle : Bool
  interval : Bool
  key : Bool
  deriving DecidableEq, Repr

/-- The five capture settings (R115). -/
structure CaptureSettings where
  mode : CaptureMode
  mask : SourceMask
  floor : Nat
  holdoff : Nat
  restartInterval : Bool
  deriving DecidableEq, Repr

/-- Capture's state (R115), and the expiries of the interval timer that wait for their INTERVAL_EXPIRY (R118; DEDUCED,
notes/assumptions/18.md). -/
structure Capture where
  settings : CaptureSettings
  armed : Bool
  holdoffCounter : Nat
  prescale : Nat
  postscale : Nat
  frameCount : Nat
  postCount : Nat
  keyCounter : Nat
  keyPressed : Bool
  expiries : Nat
  deriving DecidableEq, Repr

/-! ### Lesson store (R133, R135, R142, R147) -/

/-- The store states (R134). -/
inductive StoreState where
  | unmounted | mounting | formatting | ready | fault
  deriving DecidableEq, Repr

/-- Why the store is in FAULT (R133). -/
inductive FaultReason where
  | none | noDevice | tooSmall
  deriving DecidableEq, Repr

/-- The cell states (R135). -/
inductive CellState where
  | erased | used | dead | bad | erasing | writing
  deriving DecidableEq, Repr

/-- A page record of a lesson (R142). -/
structure PageRecord where
  cell : Nat
  ordinal : Nat
  stamp : Word
  deriving DecidableEq, Repr

/-- A lesson entry of the directory (R142). -/
structure Lesson where
  id : Nat
  title : List Byte
  isOpen : Bool
  next : Nat
  deleting : Bool
  pages : List PageRecord
  deriving DecidableEq, Repr

/-- A save-queue entry (R124). -/
structure SaveEntry where
  slot : Fin 12
  frame : Word
  lesson : Nat
  ordinal : Nat
  source : Trigger
  focus : Nat
  zoom : Nat
  cx : Nat
  cy : Nat
  outputCount : Word
  deriving DecidableEq, Repr

/-- The writer states (R147). -/
inductive WriterState where
  | idle | erase | program | commit | reclaim
  deriving DecidableEq, Repr

/-- The writer's attempt record (R147): the cell, the cells tried, the stamp once a program was granted, and the
header bytes that the granted program writes (R149). -/
structure Attempt where
  cell : Nat
  tries : Nat
  stamp : Option Word
  header : List Byte
  deriving DecidableEq, Repr

/-- The recall accepted and not yet completed (R133). -/
structure RecallLoad where
  lesson : Nat
  ordinal : Nat
  cell : Nat
  slot : Fin 12
  restoreView : Bool
  deriving DecidableEq, Repr

/-- The lesson whose pages are being tombstoned, with the two numbers its notice will carry (R155, R181; DEDUCED,
notes/assumptions/13.md). -/
structure DeleteWork where
  lesson : Nat
  tombstoned : Nat
  failed : Nat
  deriving DecidableEq, Repr

/-- The steps of the store port (R154). A deferred request's step carries the tag its reply will echo (R168,
R169); a tombstone without one belongs to a lesson delete. -/
inductive PortStep where
  | identityRead
  | headerRead (cell : Nat)
  | formatErase (cell : Nat)
  | exportRead (tag : Byte) (cell offset length : Nat) (adjusted : Bool)
  | recallRead (cell : Nat)
  | tombstone (lesson ordinal cell : Nat) (replyTag : Option Byte)
  | saveErase (cell : Nat)
  | saveProgram (cell : Nat)
  | saveCommit (cell : Nat)
  | reclaimErase (cell : Nat)
  deriving DecidableEq, Repr

/-- The store port: the step in flight and the steps waiting, in the order they were asked for (R133, R154). -/
structure Port where
  inFlight : Option PortStep
  waiting : List PortStep
  deriving DecidableEq, Repr

/-- A header that passed the third row of R137 during the mount in progress; `candidate` when its cell is USED as
a candidate page. -/
structure ScannedHeader where
  cell : Nat
  lesson : Nat
  ordinal : Nat
  stamp : Word
  title : List Byte
  candidate : Bool
  deriving DecidableEq, Repr

/-- The lesson store's state (R133). -/
structure Store where
  state : StoreState
  cellCount : Nat
  fault : FaultReason
  cells : List CellState
  directory : List Lesson
  queue : List SaveEntry
  writer : WriterState
  attempt : Option Attempt
  stamp : Word
  recallLoad : Option RecallLoad
  deleteWork : Option DeleteWork
  port : Port
  scan : List ScannedHeader
  deriving DecidableEq, Repr

/-! ### Notice and error unit (R176, R184) -/

/-- The sources of error records (R184). -/
inductive ErrorSource where
  | intake | store | link
  deriving DecidableEq, Repr

/-- The error kinds (R184). -/
inductive ErrorKind where
  | lineLength | shortFrame | longFrame | frameDropped
  | programFail | eraseFail | readFail | storeHeaderBad
  | linkCrc | linkFraming | linkOverrun
  deriving DecidableEq, Repr

/-- An error record (R184). -/
structure ErrorRecord where
  source : ErrorSource
  kind : ErrorKind
  detail : Nat
  count : Nat
  frame : Word
  deriving DecidableEq, Repr

/-- The error table (R184). -/
structure ErrorTable where
  records : List ErrorRecord
  overflow : Bool
  deriving DecidableEq, Repr

/-- Why a capture was missed (R122, R123). -/
inductive MissReason where
  | noFrame | blurred | noLesson | lessonFull | queueFull | stale
  deriving DecidableEq, Repr

/-- A notice's payload after the coalesced count, by kind (R193). -/
inductive NoticePayload where
  | errorPending (records : Nat) (overflow : Bool) (source : ErrorSource) (kind : ErrorKind)
  | intakeLost (counter : Word)
  | intakeBack (frame : Word)
  | pageDisturbed (frame : Word) (movingTiles : Nat)
  | pageSettled (frame : Word) (focus : Nat)
  | captureTaken (source : Trigger) (frame : Word) (slot : Fin 12) (lesson ordinal : Nat) (merged single : Bool)
  | captureMissed (source : Trigger) (reason : MissReason) (frame : Word)
  | saveDone (lesson ordinal cell : Nat) (stamp frame outputCount : Word)
  | saveFailed (lesson ordinal : Nat) (frame : Word) (cell : Nat)
  | storeFull (lesson ordinal : Nat) (frame outputCount : Word)
  | storeState (state : StoreState) (cells : Nat) (fault : FaultReason) (lesson tombstoned failed : Nat)
  | recallDone (lesson ordinal : Nat) (slot : Fin 12) (failed restoreView : Bool)
  | viewReached (window : Fin 4) (zoom : Nat)
  | outputState (state : OutputState) (mode : Fin 4) (frameCounter : Word)
  deriving DecidableEq, Repr

/-- The record of one notice kind (R176). -/
structure NoticeRecord where
  level : Nat
  pending : Bool
  payload : Option NoticePayload
  count : Nat
  deriving DecidableEq, Repr

/-- The fourteen notice records in code order (R176). -/
abbrev Notices := Table NoticeRecord 14

/-! ### Message link (R161) -/

/-- The receiver states (R162). -/
inductive Receiver where
  | hunt | head | body | check
  deriving DecidableEq, Repr

/-- The reply statuses (R168). -/
inductive Status where
  | ok | accepted | adjusted | busy | refused | unknownRequest | badLength
  deriving DecidableEq, Repr

/-- What happens when the last character of a reply has been sent (R173, R174). -/
inductive AfterReply where
  | nothing
  | setRate (index : Fin 4)
  | restart
  deriving DecidableEq, Repr

/-- A reply frame: echoed code and tag, status, the payload after the status (R168). -/
structure Reply where
  code : Byte
  tag : Byte
  status : Status
  results : List Byte
  after : AfterReply
  deriving DecidableEq, Repr

/-- A notice frame as formed at its choice: kind code, coalesced count and payload (R179). -/
structure NoticeFrame where
  count : Nat
  payload : NoticePayload
  deriving DecidableEq, Repr

/-- The frame now on the part's transmit wire (R161). -/
inductive Transmitter where
  | idle
  | reply (r : Reply)
  | notice (n : NoticeFrame)
  deriving DecidableEq, Repr

/-- The link's state (R161). -/
structure Link where
  rateIndex : Fin 4
  receiver : Receiver
  partialFrame : Option (List Byte)
  interByteTimer : Timer
  hand : Option Request
  waitingPlace : Option Request
  waitingReply : Option Reply
  transmitter : Transmitter
  deriving DecidableEq, Repr

/-! ### The whole part -/

/-- The whole part, the model's own counter of open choices (`openChoice`, notes/assumptions/5.md) and schedule of what
falls inside coming commands (`schedule`, notes/assumptions/7.md and notes/assumptions/10.md), and the
queue of commands that wait. -/
structure State where
  slots : Slots
  intake : Intake
  watch : Watch
  views : Table Window 4
  pipe : Pipe
  output : Output
  capture : Capture
  store : Store
  link : Link
  notices : Notices
  errors : ErrorTable
  openChoice : Nat
  schedule : Schedule
  pending : List Instr
  deriving DecidableEq, Repr

/-- Why the machine may stop with a fault: never. The spec gives every command an effect, so this type has no
constructor. -/
inductive Fault where
  deriving DecidableEq, Repr

/-- Why the machine may refuse a command. -/
inductive Refusal where
  /-- Raised by `exec` for a command without a meaning; no arm of `exec` raises it (safe). -/
  | notModelled (mnemonic : String)
  deriving DecidableEq, Repr

/-! ### Block updates -/

/-- The state with another slot table. -/
def State.withSlots (s : State) (x : Slots) : State := { s with slots := x }
/-- The state with another intake. -/
def State.withIntake (s : State) (x : Intake) : State := { s with intake := x }
/-- The state with another watch. -/
def State.withWatch (s : State) (x : Watch) : State := { s with watch := x }
/-- The state with other windows. -/
def State.withViews (s : State) (x : Table Window 4) : State := { s with views := x }
/-- The state with another pipe. -/
def State.withPipe (s : State) (x : Pipe) : State := { s with pipe := x }
/-- The state with another output. -/
def State.withOutput (s : State) (x : Output) : State := { s with output := x }
/-- The state with another capture unit. -/
def State.withCapture (s : State) (x : Capture) : State := { s with capture := x }
/-- The state with another store. -/
def State.withStore (s : State) (x : Store) : State := { s with store := x }
/-- The state with another link. -/
def State.withLink (s : State) (x : Link) : State := { s with link := x }
/-- The state with other notice records. -/
def State.withNotices (s : State) (x : Notices) : State := { s with notices := x }
/-- The state with another error table. -/
def State.withErrors (s : State) (x : ErrorTable) : State := { s with errors := x }
/-- The state with another count of open choices. -/
def State.withOpenChoice (s : State) (x : Nat) : State := { s with openChoice := x }
/-- The state with another queue of waiting commands. -/
def State.withSchedule (s : State) (x : Schedule) : State := { s with schedule := x }

def State.withPending (s : State) (x : List Instr) : State := { s with pending := x }

/-! ### Reset values -/

/-- A slot after reset whose image bytes are as given: reset does not clear them (R23). -/
def Slot.freeWith (image : Image) : Slot := ⟨.free, none, none, TagSet.empty, 0, image⟩

/-- The default focus area (R38). -/
def defaultArea : Rect := ⟨648, 486, 1296, 972⟩

/-- Intake after reset (R41). -/
def Intake.reset : Intake := ⟨.disabled, 0, 0, none, .stopped, defaultArea, ⟨0, 0, 0, 0, false⟩⟩

/-- The default watch settings (R55, R58). -/
def WatchSettings.default : WatchSettings := ⟨true, 6, 4, 8, 6⟩

/-- The watch restarted with the settings given (R56). -/
def Watch.restarted (w : WatchSettings) : Watch :=
  ⟨Table.fill 192 ⟨none, 0, .still⟩, false, if w.enable then .still else .off, 0, w⟩

/-- The default window record (R59, R75). -/
def Window.default : Window := ⟨256, 256, 16, 1296, 972⟩

/-- The four profiles after reset (R87). -/
def defaultProfiles : Table Profile 4 := ⟨[⟨0, 0, 0⟩, ⟨12, 4, 24⟩, ⟨24, 4, 40⟩, ⟨40, 8, 64⟩], rfl⟩

/-- Black (R102, R114). -/
def black : Colour := ⟨0, 128, 128⟩

/-- The default record of pane 0 (R102). -/
def Pane.defaultMain : Pane := ⟨true, ⟨0, 0, 1920, 1200⟩, .live, false, 0, 2, black⟩

/-- The default record of panes 1 to 3 (R102). -/
def Pane.defaultOther : Pane := ⟨false, ⟨0, 0, 0, 0⟩, .live, false, 0, 2, black⟩

/-- The default pane table (R102). -/
def defaultPanes : Table Pane 4 :=
  ⟨[Pane.defaultMain, Pane.defaultOther, Pane.defaultOther, Pane.defaultOther], rfl⟩

/-- Output after reset (R114). -/
def Output.reset : Output := ⟨.off, 0, 0, 0, defaultPanes, defaultPanes, false, black, none⟩

/-- Capture after reset (R132). -/
def Capture.reset : Capture := ⟨⟨.off, ⟨false, false, false⟩, 0, 30, true⟩, false, 0, 60, 10, 0, 0, 0, false, 0⟩

/-- The store after reset (R160). -/
def Store.reset : Store :=
  ⟨.unmounted, 0, .none, [], [], [], .idle, none, 0, none, none, ⟨none, []⟩, []⟩

/-- The link after reset, at the rate index given (R174, R175). -/
def Link.resetAt (rate : Fin 4) : Link := ⟨rate, .hunt, none, .stopped, none, none, none, .idle⟩

/-- The default notice levels in code order (R176). -/
def defaultLevels : List Nat := [7, 6, 4, 2, 2, 5, 5, 4, 6, 6, 4, 4, 0, 3]

/-- The notice records after reset (R188). -/
def defaultNotices : Notices := ⟨defaultLevels.map fun l => ⟨l, false, none, 0⟩, rfl⟩

/-- The part after power-on reset: the rate index is 3 (R175); external memory holds no written byte; no command
waits. -/
def State.reset : State :=
  { slots := Table.fill 12 (Slot.freeWith [])
    intake := Intake.reset
    watch := Watch.restarted WatchSettings.default
    views := Table.fill 4 Window.default
    pipe := ⟨defaultProfiles, []⟩
    output := Output.reset
    capture := Capture.reset
    store := Store.reset
    link := Link.resetAt 3
    notices := defaultNotices
    errors := ⟨[], false⟩
    openChoice := 0
    schedule := ⟨[], []⟩
    pending := [] }

end Sys2Proof.Machine
end

