-- ==== Sys2Proof/Machine/Flags.lean ====
section
/-! DEFINITION. The coded bytes of the layouts: the code of every named value and the packed flag bytes (R189,
R192, R193). -/

namespace Sys2Proof.Machine

/-- Reply status codes (R189). -/
def Status.code : Status → Byte
  | .ok => 0 | .accepted => 1 | .adjusted => 2 | .busy => 3 | .refused => 4 | .unknownRequest => 5 | .badLength => 6

/-- OK if nothing was brought into range, ADJUSTED otherwise (R168). -/
def Status.ofUnchanged (unchanged : Bool) : Status := if unchanged then .ok else .adjusted

/-- The refusal reasons (R189). -/
inductive Reason where
  | noSuchTag | noFrame | noSlot | noSuchWindow | noSuchProfile | noSuchMode | noSuchPane | noSuchSource
  | notSingle | notMounted | alreadyOpen | directoryFull | noSuchLesson | lessonOpen | savesPending | deleting
  | noSuchPage | readFailed | noSuchRecord
  deriving DecidableEq, Repr

/-- Refusal reason codes (R189). -/
def Reason.code : Reason → Byte
  | .noSuchTag => 1 | .noFrame => 2 | .noSlot => 3 | .noSuchWindow => 4 | .noSuchProfile => 5 | .noSuchMode => 6
  | .noSuchPane => 7 | .noSuchSource => 8 | .notSingle => 9 | .notMounted => 10 | .alreadyOpen => 11
  | .directoryFull => 12 | .noSuchLesson => 13 | .lessonOpen => 14 | .savesPending => 15 | .deleting => 16
  | .noSuchPage => 17 | .readFailed => 18 | .noSuchRecord => 19

/-- Pane source codes (R189). -/
def PaneSource.code : PaneSource → Byte
  | .live => 0 | .settled => 1 | .freezeA => 2 | .freezeB => 3 | .recalled => 4 | .test => 5

/-- Trigger source codes (R189). -/
def Trigger.code : Trigger → Byte
  | .settle => 0 | .interval => 1 | .key => 2 | .request => 3

/-- Capture mode codes (R189). -/
def CaptureMode.code : CaptureMode → Byte
  | .off => 0 | .single => 1 | .continuous => 2

/-- Miss reason codes (R189). -/
def MissReason.code : MissReason → Byte
  | .noFrame => 1 | .blurred => 2 | .noLesson => 3 | .lessonFull => 4 | .queueFull => 5 | .stale => 6

/-- Slot phase codes (R189). -/
def Phase.code : Phase → Byte
  | .free => 0 | .filling => 1 | .loading => 2 | .ready => 3

/-- Intake state codes (R189). -/
def IntakeState.code : IntakeState → Byte
  | .disabled => 0 | .waiting => 1 | .filling => 2 | .dropping => 3 | .lost => 4

/-- Page state codes (R189). -/
def PageState.code : PageState → Byte
  | .off => 0 | .still => 1 | .motion => 2

/-- Output state codes (R189). -/
def OutputState.code : OutputState → Byte
  | .off => 0 | .starting => 1 | .run => 2

/-- Store state codes (R189). -/
def StoreState.code : StoreState → Byte
  | .unmounted => 0 | .mounting => 1 | .formatting => 2 | .ready => 3 | .fault => 4

/-- Fault reason codes (R189). -/
def FaultReason.code : FaultReason → Byte
  | .none => 0 | .noDevice => 1 | .tooSmall => 2

/-- Writer state codes (R189). -/
def WriterState.code : WriterState → Byte
  | .idle => 0 | .erase => 1 | .program => 2 | .commit => 3 | .reclaim => 4

/-- Error source codes (R189). -/
def ErrorSource.code : ErrorSource → Byte
  | .intake => 1 | .store => 4 | .link => 5

/-- Error kind codes (R189). -/
def ErrorKind.code : ErrorKind → Byte
  | .lineLength => 1 | .shortFrame => 2 | .longFrame => 3 | .frameDropped => 4 | .programFail => 5
  | .eraseFail => 6 | .readFail => 7 | .storeHeaderBad => 8 | .linkCrc => 9 | .linkFraming => 10 | .linkOverrun => 11

/-- A bit of a packed byte. -/
def bitValue (b : Bool) (place : Nat) : Nat := if b then 2 ^ place else 0

/-- The tag set byte (R189). -/
def TagSet.byte (t : TagSet) : Byte :=
  lowByte (bitValue t.live 0 + bitValue t.settled 1 + bitValue t.freezeA 2 + bitValue t.freezeB 3 +
    bitValue t.recalled 4 + bitValue t.capture 5)

/-- The source mask byte (R189). -/
def SourceMask.byte (m : SourceMask) : Byte :=
  lowByte (bitValue m.settle 0 + bitValue m.interval 1 + bitValue m.key 2)

/-- The flags of a capture taken: bit 0 merged, bit 1 single done (R192). -/
def captureFlags (merged single : Bool) : Byte := lowByte (bitValue merged 0 + bitValue single 1)

/-- The flags of a lesson entry: bit 0 open, bit 1 deleting (R192). -/
def Lesson.flags (l : Lesson) : Byte := lowByte (bitValue l.isOpen 0 + bitValue l.deleting 1)

/-- A WATCH READ tile byte: counter in bits 0..3, state in bit 7 (R192). -/
def Tile.byte (t : Tile) : Byte := lowByte (t.counter % 16 + bitValue (t.state == .moving) 7)

end Sys2Proof.Machine
end

