-- ==== Sys2Proof/Machine/Operands.lean ====
section
/-! DEFINITION. Operands of the requests: how the numbers and named values of a request are read and brought into
range, and whether that changed any of them (R38, R55, R69, R71, R74, R88, R103, R127, R130, R159, R173, R182,
R189). -/

namespace Sys2Proof.Machine

/-- `clamp(x, lo, hi)` (00_scope.md "Arithmetic"). -/
def clamp (lo hi x : Nat) : Nat := if x < lo then lo else if hi < x then hi else x

/-- `clamp(x, lo, hi)` on signed numbers. -/
def clampInt (lo hi x : Int) : Int := if x < lo then lo else if hi < x then hi else x

/-- A number rounded down to an even number (R38, R103). -/
def evenDown (n : Nat) : Nat := n - n % 2

/-- An on/off byte: a value above 1 is taken as 1 (R189). -/
def onOff (b : Byte) : Bool := b != 0

/-- An on/off byte within its range. -/
def onOffInRange (b : Byte) : Bool := decide (b.toNat ≤ 1)

/-- A window, profile, mode or pane number 0..3; none above 3 (R69, R88, R97, R103). -/
def index4 (b : Byte) : Option (Fin 4) :=
  if h : b.toNat < 4 then some ⟨b.toNat, h⟩ else none

/-- The rate index of LINK RATE: above 3 is taken as 3 (R173). -/
def rateOf (b : Byte) : Fin 4 := (index4 b).getD 3

/-- The freeze a byte names (R189: 0 A, 1 B). -/
def freezeTag (b : Byte) : Option Tag :=
  if b = 0 then some .freezeA else if b = 1 then some .freezeB else none

/-- The freeze source a byte names (R189: 0 LIVE, 1 SETTLED). -/
def freezeSource (b : Byte) : Option Tag :=
  if b = 0 then some .live else if b = 1 then some .settled else none

/-- The pane source a byte names (R189). -/
def paneSource (b : Byte) : Option PaneSource :=
  match b.toNat with
  | 0 => some .live
  | 1 => some .settled
  | 2 => some .freezeA
  | 3 => some .freezeB
  | 4 => some .recalled
  | 5 => some .test
  | _ => none

/-- The capture mode a byte names (R189). -/
def captureMode (b : Byte) : Option CaptureMode :=
  match b.toNat with
  | 0 => some .off
  | 1 => some .single
  | 2 => some .continuous
  | _ => none

/-- FOCUS AREA SET: even, then the size clamped, then the position clamped (R38). -/
def areaInRange (a : Rect) : Rect :=
  let w := clamp 64 2592 (evenDown a.w)
  let h := clamp 64 1944 (evenDown a.h)
  ⟨clamp 0 (2592 - w) (evenDown a.x), clamp 0 (1944 - h) (evenDown a.y), w, h⟩

/-- WATCH SET's settings brought into range (R55). -/
def watchInRange (enable threshold rise length quorum : Byte) : WatchSettings :=
  ⟨onOff enable, clamp 1 63 threshold.toNat, clamp 1 15 rise.toNat, clamp 1 15 length.toNat,
    clamp 1 192 quorum.toNat⟩

/-- WATCH SET's values were all in range (R55). -/
def watchUnchanged (enable threshold rise length quorum : Byte) : Bool :=
  let w := watchInRange enable threshold rise length quorum
  onOffInRange enable && w.threshold == threshold.toNat && w.rise == rise.toNat && w.length == length.toNat &&
    w.quorum == quorum.toNat

/-- A zoom brought into range (R69, R74). -/
def zoomInRange (z : Nat) : Nat := clamp 256 2048 z

/-- A centre column brought into range (R69, R74). -/
def columnInRange (x : Nat) : Nat := clamp 0 2591 x

/-- A centre row brought into range (R69, R74). -/
def rowInRange (y : Nat) : Nat := clamp 0 1943 y

/-- An offset of VIEW NUDGE brought into range (R71). -/
def offsetInRange (d : Half) : Int := clampInt (-1024) 1023 d.toInt

/-- A centre coordinate moved by an offset and kept within 0..limit (R71). -/
def nudged (limit c : Nat) (d : Int) : Nat := (clampInt 0 limit ((c : Int) + d)).toNat

/-- Neither the offset nor the sum of one nudged coordinate was clamped (R71). -/
def nudgeUnchanged (limit c : Nat) (d : Half) : Bool :=
  decide (offsetInRange d = d.toInt) && decide ((nudged limit c (offsetInRange d) : Int) = (c : Int) + d.toInt)

/-- PROFILE SET's values brought into range (R88). -/
def profileInRange (gain threshold limit : Byte) : Profile :=
  ⟨clamp 0 63 gain.toNat, clamp 0 63 threshold.toNat, clamp 0 127 limit.toNat⟩

/-- A pane rectangle rounded down to even (R103). -/
def paneRect (x y w h : Half) : Rect :=
  ⟨evenDown x.toNat, evenDown y.toNat, evenDown w.toNat, evenDown h.toNat⟩

/-- PANE SET's values were all in range (R103). -/
def paneUnchanged (enabled : Byte) (x y w h : Half) (hold : Byte) : Bool :=
  onOffInRange enabled && onOffInRange hold && decide (paneRect x y w h = ⟨x.toNat, y.toNat, w.toNat, h.toNat⟩)

/-- The source mask a byte names; bits beyond the three sources are dropped (R127, R189). -/
def maskOf (b : Byte) : SourceMask := ⟨b.getLsbD 0, b.getLsbD 1, b.getLsbD 2⟩

/-- CAPTURE SET's values were all in range (R127). -/
def captureUnchanged (mask : Byte) (floor : Half) (restart : Byte) : Bool :=
  decide (mask.toNat < 8) && decide (floor.toNat ≤ 65280) && onOffInRange restart

/-- A notice level: above 7 is taken as 7 (R182). -/
def levelInRange (b : Byte) : Nat := min b.toNat 7

/-- A title cut to its first 24 bytes (R143, R195). -/
def titleInForce (t : List Byte) : List Byte := t.take 24

end Sys2Proof.Machine
end

