-- ==== Sys2Proof/Machine/SlotStore.lean ====
section
/-! DEFINITION. The slot store's operations on the slot table: allocation, completion, abandon, tag moves,
reclaim and pins (R6, R8, R10 to R21). Each takes the whole table and is one step (R1). -/

namespace Sys2Proof.Machine

/-- Whether a tag is in a set. -/
def TagSet.has (t : TagSet) : Tag → Bool
  | .live => t.live
  | .settled => t.settled
  | .freezeA => t.freezeA
  | .freezeB => t.freezeB
  | .recalled => t.recalled
  | .capture => t.capture

/-- A set with one tag put in or taken out. -/
def TagSet.put (t : TagSet) (tag : Tag) (b : Bool) : TagSet :=
  match tag with
  | .live => { t with live := b }
  | .settled => { t with settled := b }
  | .freezeA => { t with freezeA := b }
  | .freezeB => { t with freezeB := b }
  | .recalled => { t with recalled := b }
  | .capture => { t with capture := b }

/-- Whether a slot carries a tag. -/
def Slot.carries (x : Slot) (tag : Tag) : Bool := x.tags.has tag

/-- The slot back in FREE: origin and focus measure absent, the image bytes left in memory (R8, R11, R17). -/
def Slot.freed (x : Slot) : Slot := { x with phase := .free, origin := none, focus := none }

/-- Reclaim: a READY slot with no tag and pin count 0 becomes FREE (R8). -/
def Slot.reclaimed (x : Slot) : Slot :=
  if x.phase = .ready ∧ x.tags = TagSet.empty ∧ x.pins = 0 then x.freed else x

/-- The slot with a tag added. -/
def Slot.withTag (x : Slot) (tag : Tag) : Slot := { x with tags := x.tags.put tag true }

/-- The slot after a tag is taken off it; a slot that loses the tag is reclaimed if R8 applies (R4, R8). -/
def Slot.withoutTag (x : Slot) (tag : Tag) : Slot :=
  if x.carries tag then Slot.reclaimed { x with tags := x.tags.put tag false } else x

/-- The slot that carries a tag, the lowest-numbered if there were several. -/
def Slots.carrier (t : Slots) (tag : Tag) : Option (Fin 12) := t.lowest fun x => x.carries tag

/-- A move of a tag onto slot `i`, off every other slot, in one step (R4, R8). -/
def Slots.moveTag (t : Slots) (tag : Tag) (i : Fin 12) : Slots :=
  t.mapIdx fun j x => if j = i then x.withTag tag else x.withoutTag tag

/-- Removal of a tag from every slot that carries it (R21). -/
def Slots.dropTag (t : Slots) (tag : Tag) : Slots := t.map fun x => x.withoutTag tag

/-- Removal of CAPTURE from one slot (R15). -/
def Slots.untagCapture (t : Slots) (i : Fin 12) : Slots := t.set i ((t.get i).withoutTag .capture)

/-- The number of FREE slots (R2). -/
def Slots.freeCount (t : Slots) : Nat := t.count fun x => x.phase == .free

/-- The lowest-numbered FREE slot (R6). -/
def Slots.lowestFree (t : Slots) : Option (Fin 12) := t.lowest fun x => x.phase == .free

/-- The slot entering a filling or loading phase with its origin; the focus measure is absent (R3, R6). -/
def Slot.allocated (x : Slot) (phase : Phase) (origin : Origin) : Slot :=
  { x with phase := phase, origin := some origin, focus := none }

/-- Any FILLING slot back in FREE (R6, R11). -/
def Slots.abandonFilling (t : Slots) : Slots := t.map fun x => if x.phase = .filling then x.freed else x

/-- Any LOADING slot back in FREE (R17). -/
def Slots.abandonLoading (t : Slots) : Slots := t.map fun x => if x.phase = .loading then x.freed else x

/-- Intake's allocation: a FILLING slot is first returned to FREE, then the lowest-numbered FREE slot enters FILLING
(R6). The answer is the slot's index, or none for NONE. -/
def Slots.allocateFilling (t : Slots) (frame : Word) : Slots × Option (Fin 12) :=
  let t' := t.abandonFilling
  match t'.lowestFree with
  | some i => (t'.set i ((t'.get i).allocated .filling (.sensor frame)), some i)
  | none => (t', none)

/-- The answers to a recall's allocation (R6). -/
inductive LoadAnswer where
  | slot (i : Fin 12)
  | none
  | busy
  deriving DecidableEq, Repr

/-- Recall's allocation (R6). -/
def Slots.allocateLoading (t : Slots) (lesson ordinal : Nat) : Slots × LoadAnswer :=
  if (t.lowest fun x => x.phase == .loading).isSome then (t, .busy)
  else match t.lowestFree with
    | some i => (t.set i ((t.get i).allocated .loading (.store lesson ordinal)), .slot i)
    | none => (t, .none)

/-- Completion of slot `i` at good frame end: READY with its focus measure, and LIVE moves to it (R10). -/
def Slots.completeFilling (t : Slots) (i : Fin 12) (focus : Nat) : Slots :=
  Slots.moveTag (t.set i { t.get i with phase := .ready, focus := some focus }) .live i

/-- Completion of slot `i` at the end of a recall load with its image: READY, and RECALL moves to it (R16). -/
def Slots.completeLoading (t : Slots) (i : Fin 12) (image : Image) : Slots :=
  Slots.moveTag (t.set i { t.get i with phase := .ready, image := image }) .recalled i

/-- The lowest-numbered READY slot whose origin is SENSOR with a frame number (R12). -/
def Slots.findFrame (t : Slots) (frame : Word) : Option (Fin 12) :=
  t.lowest fun x => x.phase == .ready && x.origin == some (.sensor frame)

/-- The watch's move of SETTLED to the slot of a frame (R13). -/
def Slots.moveSettled (t : Slots) (frame : Word) : Slots :=
  match t.findFrame frame with
  | some i => t.moveTag .settled i
  | none => t

/-- Capture's tag of a frame: the slot found, or none for GONE (R14). -/
def Slots.tagCapture (t : Slots) (frame : Word) : Slots × Option (Fin 12) :=
  match t.findFrame frame with
  | some i => (t.set i ((t.get i).withTag .capture), some i)
  | none => (t, none)

/-- One pin request: the slot carrying the first named tag that is on a slot, with its pin count raised (R18). -/
def Slots.pin (t : Slots) : List Tag → Slots × Option (Fin 12)
  | [] => (t, none)
  | tag :: more =>
    match t.carrier tag with
    | some i => (t.set i { t.get i with pins := (t.get i).pins + 1 }, some i)
    | none => t.pin more

/-- Release of every pin; a slot whose count falls to 0 is reclaimed if R8 applies (R19). -/
def Slots.releasePins (t : Slots) : Slots :=
  t.map fun x => if x.pins = 0 then x else Slot.reclaimed { x with pins := 0 }

/-- The slot table after a reset: every slot FREE, the image bytes left in memory (R23). -/
def Slots.afterReset (t : Slots) : Slots := t.map fun x => Slot.freeWith x.image

end Sys2Proof.Machine
end

