-- ==== Sys2Proof/Machine/Layouts.lean ====
section
/-! DEFINITION. The byte layouts of replies, notices and the page header (R189 to R195). -/

namespace Sys2Proof.Machine

/-- Origin kind and origin of a slot record (R192). -/
def originBytes : Option Origin → List Byte
  | none => [0, 0, 0, 0, 0]
  | some (.sensor n) => [1] ++ le32 n.toNat
  | some (.store l o) => [2, lowByte l, lowByte o, 0, 0]

/-- A slot record in 12 bytes (R192). -/
def slotRecordBytes (i : Fin 12) (x : Slot) : List Byte :=
  [lowByte i.val, x.phase.code] ++ originBytes x.origin ++
    [flagByte x.focus.isSome] ++ le16 (x.focus.getD 0) ++ [x.tags.byte, lowByte x.pins]

/-- The SLOT LIST results (R22, R192). -/
def slotListBytes (t : Slots) : List Byte :=
  [lowByte t.freeCount] ++ ((List.finRange 12).map fun i => slotRecordBytes i (t.get i)).flatten

/-- A rectangle in eight bytes (R192). -/
def rectBytes (r : Rect) : List Byte := le16 r.x ++ le16 r.y ++ le16 r.w ++ le16 r.h

/-- The STATS READ results: the record, fresh as before the read, the focus area in force (R40, R192). -/
def statsBytes (i : Intake) : List Byte :=
  le32 i.stats.frame.toNat ++ [lowByte i.stats.meanLuma] ++ le16 i.stats.focus ++
    [lowByte i.stats.movingTiles, flagByte i.stats.fresh] ++ rectBytes i.area

/-- The five watch settings (R56, R57). -/
def watchSettingsBytes (w : WatchSettings) : List Byte :=
  [flagByte w.enable, lowByte w.threshold, lowByte w.rise, lowByte w.length, lowByte w.quorum]

/-- The WATCH READ results (R57, R192). -/
def watchBytes (w : Watch) : List Byte :=
  watchSettingsBytes w.settings ++ [w.page.code, flagByte w.meansPresent, lowByte w.movingTiles] ++
    w.tiles.toList.map Tile.byte

/-- A window record as VIEW SET and VIEW NUDGE reply with it (R192). -/
def windowBytes (w : Window) : List Byte :=
  le16 w.zoom ++ le16 w.target ++ [lowByte w.rate] ++ le16 w.cx ++ le16 w.cy

/-- A profile's three values (R88, R89). -/
def profileBytes (p : Profile) : List Byte := [lowByte p.gain, lowByte p.threshold, lowByte p.limit]

/-- A pane record from enabled onward (R192). -/
def paneBytes (p : Pane) : List Byte :=
  [flagByte p.enabled] ++ rectBytes p.rect ++
    [p.source.code, flagByte p.hold, lowByte p.window.val, lowByte p.profile.val,
      p.absent.luma, p.absent.cb, p.absent.cr]

/-- The five capture settings (R192). -/
def captureSettingsBytes (c : CaptureSettings) : List Byte :=
  [c.mode.code, c.mask.byte] ++ le16 c.floor ++ [lowByte c.holdoff, flagByte c.restartInterval]

/-- The CAPTURE READ results (R131, R192). -/
def captureBytes (c : Capture) : List Byte :=
  captureSettingsBytes c.settings ++
    [flagByte c.armed, lowByte c.holdoffCounter, lowByte c.prescale, lowByte c.postscale, lowByte c.frameCount,
      lowByte c.postCount, lowByte c.keyCounter, flagByte c.keyPressed]

/-- The number of cells in a state (R141). -/
def cellsIn (s : Store) (c : CellState) : Nat := s.cells.countP (· == c)

/-- The id of the open lesson, 0 if none (R141, R145). -/
def openLessonId (s : Store) : Nat := ((s.directory.find? (·.isOpen)).map (·.id)).getD 0

/-- The STORE STATUS results (R141, R192). -/
def storeStatusBytes (s : Store) : List Byte :=
  [s.state.code, s.fault.code] ++ le16 s.cellCount ++ le16 (cellsIn s .erased) ++ le16 (cellsIn s .used) ++
    le16 (cellsIn s .dead) ++ le16 (cellsIn s .bad) ++ le16 (cellsIn s .erasing) ++ le16 (cellsIn s .writing) ++
    [lowByte s.directory.length, lowByte (openLessonId s), lowByte s.queue.length, s.writer.code] ++
    le32 s.stamp.toNat ++ [lowByte ((s.deleteWork.map (·.lesson)).getD 0)]

/-- A title as a length byte and its bytes (R189). -/
def titleBytes (t : List Byte) : List Byte := [lowByte t.length] ++ t

/-- A title in a fixed field of 24 bytes (R189). -/
def titleField (t : List Byte) : List Byte := t.take 24 ++ List.replicate (24 - t.length) 0

/-- A lesson entry in 30 bytes (R192). -/
def lessonEntryBytes (l : Lesson) : List Byte :=
  [lowByte l.id, lowByte l.title.length] ++ titleField l.title ++ [lowByte l.pages.length] ++ le16 l.next ++ [l.flags]

/-- A page record in seven bytes (R192). -/
def pageRecordBytes (p : PageRecord) : List Byte := [lowByte p.ordinal] ++ le16 p.cell ++ le32 p.stamp.toNat

/-- The LESSON LIST results from a first position, at most 32 entries (R146, R192). -/
def lessonListBytes (dir : List Lesson) (first : Nat) : List Byte :=
  let shown := (dir.drop first).take 32
  [lowByte dir.length, lowByte shown.length] ++ (shown.map lessonEntryBytes).flatten

/-- The LESSON PAGES results from a first index, at most 40 records (R146, R192). -/
def lessonPagesBytes (pages : List PageRecord) (first : Nat) : List Byte :=
  let shown := (pages.drop first).take 40
  [lowByte pages.length, lowByte shown.length] ++ (shown.map pageRecordBytes).flatten

/-- The NOTICE LEVELS READ results (R183, R192). -/
def noticeLevelsBytes (n : Notices) : List Byte :=
  (n.toList.map fun r => [lowByte r.level, flagByte r.pending, lowByte r.count]).flatten

/-- An error record in eleven bytes (R192). -/
def errorRecordBytes (e : ErrorRecord) : List Byte :=
  [e.source.code, e.kind.code] ++ le32 e.detail ++ [lowByte e.count] ++ le32 e.frame.toNat

/-- The ERROR READ results (R186, R192). -/
def errorTableBytes (t : ErrorTable) : List Byte :=
  [lowByte t.records.length, flagByte t.overflow] ++ (t.records.map errorRecordBytes).flatten

/-- The STATUS results (R172, R192). -/
def statusBytes (s : State) : List Byte :=
  le32 s.intake.counter.toNat ++ le16 s.intake.drops ++
    [s.intake.state.code, s.watch.page.code, lowByte s.watch.movingTiles, s.output.state.code, lowByte s.output.mode.val] ++
    le32 s.output.frameCounter.toNat ++
    [flagByte s.output.commitPending, s.store.state.code, lowByte s.store.queue.length, s.store.writer.code,
      lowByte s.slots.freeCount, lowByte s.errors.records.length, flagByte s.errors.overflow]

/-- The PING results: part code, revision, slot count, cell count (R171, R192). -/
def pingBytes (s : State) : List Byte := le16 0x5260 ++ [1, 12] ++ le16 s.store.cellCount

/-- A notice payload after its count (R193). -/
def NoticePayload.bytes : NoticePayload → List Byte
  | .errorPending n o src k => [lowByte n, flagByte o, src.code, k.code]
  | .intakeLost c => le32 c.toNat
  | .intakeBack n => le32 n.toNat
  | .pageDisturbed n m => le32 n.toNat ++ [lowByte m]
  | .pageSettled n fm => le32 n.toNat ++ le16 fm
  | .captureTaken src n sl l o m sd =>
      [src.code] ++ le32 n.toNat ++ [lowByte sl.val, lowByte l, lowByte o, captureFlags m sd]
  | .captureMissed src r n => [src.code, r.code] ++ le32 n.toNat
  | .saveDone l o c st n oc =>
      [lowByte l, lowByte o] ++ le16 c ++ le32 st.toNat ++ le32 n.toNat ++ le32 oc.toNat
  | .saveFailed l o n c => [lowByte l, lowByte o] ++ le32 n.toNat ++ le16 c
  | .storeFull l o n oc => [lowByte l, lowByte o] ++ le32 n.toNat ++ le32 oc.toNat
  | .storeState st c f l t x => [st.code] ++ le16 c ++ [f.code, lowByte l, lowByte t, lowByte x]
  | .recallDone l o sl failed rv => [lowByte l, lowByte o, lowByte sl.val, flagByte failed, flagByte rv]
  | .viewReached w z => [lowByte w.val] ++ le16 z
  | .outputState st m n => [st.code, lowByte m.val] ++ le32 n.toNat

/-- The index of a payload's kind in the notice records: its code less 1 (R176, R193). -/
def NoticePayload.kind : NoticePayload → Fin 14
  | .errorPending .. => 0
  | .intakeLost .. => 1
  | .intakeBack .. => 2
  | .pageDisturbed .. => 3
  | .pageSettled .. => 4
  | .captureTaken .. => 5
  | .captureMissed .. => 6
  | .saveDone .. => 7
  | .saveFailed .. => 8
  | .storeFull .. => 9
  | .storeState .. => 10
  | .recallDone .. => 11
  | .viewReached .. => 12
  | .outputState .. => 13

/-- The bytes of a reply frame as sent on the wire (R168, R190). -/
def Reply.frame (r : Reply) : List Byte := frameBytes 0x02 r.code r.tag ([r.status.code] ++ r.results)

/-- The bytes of a notice frame as sent on the wire: tag 0 (R170, R179, R190). -/
def NoticeFrame.frame (n : NoticeFrame) : List Byte :=
  frameBytes 0x03 (lowByte (n.payload.kind.val + 1)) 0 ([lowByte n.count] ++ n.payload.bytes)

/-- The bytes now being sent on the transmit wire, none while it idles (R161); `Link.wireLevel` gives its levels. -/
def Transmitter.wire : Transmitter → List Byte
  | .idle => []
  | .reply r => r.frame
  | .notice n => n.frame

/-! ### The page header (R194, R195) -/

/-- The magic of a page header (layout table of 11_record_and_frame_layouts.md). -/
def headerMagic : List Byte := [0x57, 0x58, 0x50, 0x31]

/-- Header bytes 0 to 47 of a page being saved (R149; layout table). -/
def headerBody (e : SaveEntry) (stamp : Word) (title : List Byte) : List Byte :=
  headerMagic ++ [lowByte e.lesson, lowByte e.ordinal, e.source.code, lowByte title.length] ++
    le32 stamp.toNat ++ le32 e.frame.toNat ++ le16 e.focus ++ le16 e.zoom ++ le16 e.cx ++ le16 e.cy ++ titleField title

/-- Header bytes 0 to 51 as a program writes them: the CRC, and both marks at 0xFF (R149, R194). -/
def programHeader (e : SaveEntry) (stamp : Word) (title : List Byte) : List Byte :=
  headerBody e stamp title ++ crcBytes (headerBody e stamp title) ++ [0xFF, 0xFF]

/-- A byte of a header area; a byte not programmed reads 0xFF (R194). -/
def headerByte (h : List Byte) (i : Nat) : Byte := h.getD i 0xFF

/-- A two-byte number of a header (R189). -/
def headerHalf (h : List Byte) (i : Nat) : Nat := (half (headerByte h i) (headerByte h (i + 1))).toNat

/-- A four-byte number of a header (R189). -/
def headerWord (h : List Byte) (i : Nat) : Word :=
  word (headerByte h i) (headerByte h (i + 1)) (headerByte h (i + 2)) (headerByte h (i + 3))

/-- The first 16 bytes all read 0xFF (R137). -/
def headerErased (h : List Byte) : Bool := (List.range 16).all fun i => headerByte h i == 0xFF

/-- The magic and the CRC are right (R137, R158, R195). -/
def headerSound (h : List Byte) : Bool :=
  (List.range 4).all (fun i => headerByte h i == headerMagic.getD i 0) &&
    crcBytes ((List.range 48).map (headerByte h)) == [headerByte h 48, headerByte h 49]

/-- The lesson id a header names. -/
def headerLesson (h : List Byte) : Nat := (headerByte h 4).toNat

/-- The ordinal a header names. -/
def headerOrdinal (h : List Byte) : Nat := (headerByte h 5).toNat

/-- The header passes the checks of R137's third row. -/
def headerPasses (h : List Byte) : Bool :=
  headerSound h && decide (1 ≤ headerLesson h ∧ headerLesson h ≤ 64) &&
    decide (1 ≤ headerOrdinal h ∧ headerOrdinal h ≤ 255)

/-- The title of a header: a title length above 24 is taken as 24 (R195). -/
def headerTitle (h : List Byte) : List Byte :=
  (List.range (min (headerByte h 7).toNat 24)).map fun i => headerByte h (24 + i)

/-- The commit mark is set: it reads 0x00 (R137). -/
def headerCommitted (h : List Byte) : Bool := headerByte h 50 == 0

/-- The tombstone mark is set: it reads other than 0xFF (R137). -/
def headerTombstoned (h : List Byte) : Bool := headerByte h 51 != 0xFF

end Sys2Proof.Machine
end

