-- ==== Sys2Proof/Machine/Notices.lean ====
section
/-! DEFINITION. Raising, choosing and beginning notices (R177 to R181) and recording errors (R185). -/

namespace Sys2Proof.Machine

/-- One raise on a kind's record (R177). -/
def NoticeRecord.raised (r : NoticeRecord) (p : NoticePayload) : NoticeRecord :=
  { r with pending := true, payload := some p, count := if r.pending then min (r.count + 1) 255 else 1 }

/-- A kind's record after its notice frame begins (R179). -/
def NoticeRecord.begun (r : NoticeRecord) : NoticeRecord := { r with pending := false, payload := none, count := 0 }

/-- A raise of the payload's kind (R177). -/
def Notices.raise (n : Notices) (p : NoticePayload) : Notices := n.set p.kind ((n.get p.kind).raised p)

/-- A raise of the payload's kind in the whole part (R177). -/
def State.raise (s : State) (p : NoticePayload) : State := s.withNotices (s.notices.raise p)

/-- A kind that may be sent: pending, at a level of 1 or more (R178). -/
def NoticeRecord.eligible (r : NoticeRecord) : Bool := r.pending && decide (1 ≤ r.level)

/-- The choice among the eligible kinds: highest level, then lowest code (R179). -/
def Notices.choose (n : Notices) : Option (Fin 14) :=
  [7, 6, 5, 4, 3, 2, 1].findSome? fun l => n.lowest fun r => r.eligible && r.level == l

/-- An error record of the given source and kind. -/
def ErrorRecord.matches (e : ErrorRecord) (src : ErrorSource) (k : ErrorKind) : Bool :=
  e.source == src && e.kind == k

/-- A repeat of an error counted in its record (R185 step 1). -/
def ErrorRecord.repeated (e : ErrorRecord) : ErrorRecord := { e with count := min (e.count + 1) 255 }

/-- The recording of an error (R185). -/
def State.recordError (s : State) (src : ErrorSource) (k : ErrorKind) (detail : Nat) : State :=
  let t := s.errors
  if t.records.any fun e => e.matches src k then
    s.withErrors { t with records := t.records.map fun e => if e.matches src k then e.repeated else e }
  else if t.records.length < Config.errorCapacity then
    let records := t.records ++ [⟨src, k, detail, 1, s.intake.counter⟩]
    let s' := s.withErrors { t with records := records }
    if t.records.isEmpty then s'.raise (.errorPending records.length t.overflow src k) else s'
  else if t.overflow then s
  else (s.withErrors { t with overflow := true }).raise (.errorPending t.records.length true src k)

end Sys2Proof.Machine
end

