-- ==== Sys2Proof/Machine/Transmit.lean ====
section
/-! DEFINITION. Forming replies and sending frames: the waiting reply, the transmit arbiter, the deferred replies
(R167 to R170, R179). -/

namespace Sys2Proof.Machine

/-- What a request's step answers: status, the payload after the status, and what follows the reply's last
character (R168, R173, R174). -/
structure Answer where
  status : Status
  results : List Byte
  after : AfterReply
  deriving DecidableEq, Repr

/-- OK with results. -/
def Answer.ok (results : List Byte) : Answer := ⟨.ok, results, .nothing⟩

/-- ACCEPTED with results. -/
def Answer.accepted (results : List Byte) : Answer := ⟨.accepted, results, .nothing⟩

/-- OK or ADJUSTED with the values in force (R168). -/
def Answer.inForce (unchanged : Bool) (results : List Byte) : Answer := ⟨.ofUnchanged unchanged, results, .nothing⟩

/-- BUSY (R168). -/
def Answer.busy : Answer := ⟨.busy, [], .nothing⟩

/-- REFUSED with its reason (R168). -/
def Answer.refused (r : Reason) : Answer := ⟨.refused, [r.code], .nothing⟩

/-- The frame of a chosen notice begins and its record clears (R170, R179). -/
def State.beginNotice (s : State) (k : Fin 14) : State :=
  let r := s.notices.get k
  match r.payload with
  | some p => (s.withLink { s.link with transmitter := .notice ⟨r.count, p⟩ }).withNotices (s.notices.set k r.begun)
  | none => s

/-- The transmit arbiter: with the transmitter idle, a waiting reply is sent, otherwise the chosen notice (R170). -/
def State.transmit (s : State) : State :=
  match s.link.transmitter with
  | .idle =>
    match s.link.waitingReply with
    | some r => s.withLink { s.link with transmitter := .reply r, waitingReply := none }
    | none =>
      match s.notices.choose with
      | some k => s.beginNotice k
      | none => s
  | _ => s

/-- A command's next state: what it did, then the transmit arbiter's choice (R170). DESIGN CHOICE: the choice is made
once, after every raise of the command. On an idle transmitter R180 also lets it fall between two raises of one command,
as between PAGE_SETTLED and a CAPTURE_TAKEN or CAPTURE_MISSED of one FRAME_END (R52), or between INTAKE_BACK and
ERROR_PENDING of one FRAME_START; here the kind R179 puts highest among all of them begins (notes/assumptions/22.md). -/
def finish (s : State) : Host.Outcome State Fault Refusal := .next s.transmit

/-- An event that is ignored, or that cannot occur in the state: nothing changes (R26; notes/assumptions/2.md). -/
def ignored (s : State) : Host.Outcome State Fault Refusal := .next s

/-- The state after a step that goes on, as every step does. -/
def stateAfter (o : Host.Outcome State Fault Refusal) (s : State) : State :=
  match o with
  | .next t => t
  | _ => s

/-- A reply formed: it becomes the waiting reply (R169). -/
def State.formReply (s : State) (code tag : Byte) (a : Answer) : State :=
  s.withLink { s.link with waitingReply := some ⟨code, tag, a.status, a.results, a.after⟩ }

/-- A request in the hand (R166). -/
def State.takeInHand (s : State) (r : Request) : State := s.withLink { s.link with hand := some r }

/-- A request that finds the hand full: it goes to the waiting place, or is discarded with LINK_OVERRUN when both are
full (R166). -/
def State.keepWaiting (s : State) (r : Request) : State :=
  match s.link.waitingPlace with
  | none => s.withLink { s.link with waitingPlace := some r }
  | some _ => s.recordError .link .linkOverrun r.code.toNat

/-- A request handed to the block that owns it. With the hand empty the block takes it as one step: it stands in the
hand, and its reply is formed, or deferred until its port step ends (R166 to R169). With the hand full it waits, or is
lost (R166; notes/assumptions/4.md). -/
def respondOrDefer (i : Instr) (s : State) (step : State → State × Option Answer) :
    Host.Outcome State Fault Refusal :=
  match encodeRequest i, s.link.hand with
  | some r, none =>
    match step s with
    | (t, some a) => finish ((t.takeInHand r).formReply r.code r.tag a)
    | (t, none) => finish (t.takeInHand r)
  | some r, some _ => finish (s.keepWaiting r)
  | none, _ => ignored s

/-- A request whose block answers at once (R167 to R169). -/
def respond (i : Instr) (s : State) (step : State → State × Answer) : Host.Outcome State Fault Refusal :=
  respondOrDefer i s fun t => ((step t).1, some (step t).2)

/-- The code of PAGE DELETE, echoed by its deferred reply (R168, section 9.8). -/
def pageDeleteCode : Byte := 0x60

/-- The code of PAGE READ, echoed by its deferred reply (R168, section 9.8). -/
def pageReadCode : Byte := 0x62

end Sys2Proof.Machine
end

