-- ==== Sys2Proof/Machine/Port.lean ====
section
/-! DEFINITION. The store-port arbiter and the grant of its steps (R149, R154). -/

namespace Sys2Proof.Machine

/-- The class of a step; a lower class is granted first (R154). The reads and erases of a mount or format never
wait. -/
def PortStep.rank : PortStep → Nat
  | .identityRead | .headerRead _ | .formatErase _ => 0
  | .exportRead .. => 1
  | .recallRead _ => 2
  | .tombstone .. => 3
  | .saveErase _ | .saveProgram _ | .saveCommit _ => 4
  | .reclaimErase _ => 5

/-- The waiting step to grant: lowest class, oldest within it (R154). -/
def nextGrant (waiting : List PortStep) : Option PortStep :=
  [0, 1, 2, 3, 4, 5].findSome? fun c => waiting.find? fun x => x.rank == c

/-- A step asked of the port (R154). -/
def Store.ask (s : Store) (x : PortStep) : Store :=
  { s with port := { s.port with waiting := s.port.waiting ++ [x] } }

/-- The title of a lesson as the directory holds it. -/
def Store.titleOf (s : Store) (id : Nat) : List Byte :=
  ((s.directory.find? (·.id == id)).map (·.title)).getD []

/-- The grant of a save's program: the attempt takes the stamp counter's value, the counter rises by 1 and wraps to
0, and the header is formed with the lesson's title as it stands (R149). -/
def Store.grantProgram (s : Store) : Store :=
  { s with
    stamp := s.stamp + 1
    attempt := s.attempt.map fun a =>
      { a with
        stamp := some s.stamp
        header := match s.queue with
          | e :: _ => programHeader e s.stamp (s.titleOf e.lesson)
          | [] => [] } }

/-- A step granted: it holds the port until its end (R154). -/
def Store.grant (s : Store) (x : PortStep) : Store :=
  let s' : Store := { s with port := ⟨some x, s.port.waiting.erase x⟩ }
  match x with
  | .saveProgram _ => s'.grantProgram
  | _ => s'

/-- The arbiter: if the port is free and steps wait, one is granted (R154). At a step's end it acts
after all that the end's work asks for (DEDUCED, notes/assumptions/22.md). -/
def Store.arbitrate (s : Store) : Store :=
  match s.port.inFlight with
  | some _ => s
  | none =>
    match nextGrant s.port.waiting with
    | some x => s.grant x
    | none => s

/-- The port free at the end of the step in flight (R154). -/
def Store.endStep (s : Store) : Store := { s with port := { s.port with inFlight := none } }

/-- A cell's state changed. -/
def Store.setCell (s : Store) (cell : Nat) (c : CellState) : Store := { s with cells := s.cells.set cell c }

/-- The lowest-numbered cell in a state (R148, R152). -/
def Store.lowestCell (s : Store) (c : CellState) : Option Nat := s.cells.findIdx? (· == c)

end Sys2Proof.Machine
end

