-- ==== Sys2Proof/Machine/Writer.lean ====
section
/-! DEFINITION. The save queue's writer and reclaim (R142, R147, R148, R151 to R153). -/

namespace Sys2Proof.Machine

/-- Some save-queue entry names a lesson (R142). -/
def Store.queueNames (s : Store) (id : Nat) : Bool := s.queue.any fun e => e.lesson == id

/-- An entry that is closed, holds no page and is named by no save-queue entry (R142). -/
def Store.removable (s : Store) (l : Lesson) : Bool := !l.isOpen && l.pages.isEmpty && !s.queueNames l.id

/-- The directory after a lesson reached a condition at which R142 may remove its entry. -/
def Store.prune (s : Store) (id : Nat) : Store :=
  { s with directory := s.directory.filter fun l => !(l.id == id && s.removable l) }

/-- The head entry leaves the queue: its slot loses CAPTURE, the writer returns to IDLE, and the lesson's entry goes
if R142 calls for it (R15, R147). -/
def State.leaveQueue (s : State) : State :=
  match s.store.queue with
  | [] => s
  | e :: rest =>
    let store : Store := { s.store with queue := rest, writer := .idle, attempt := none }
    (s.withSlots (s.slots.untagCapture e.slot)).withStore (store.prune e.lesson)

/-- The head entry dropped with STORE_FULL (R148). -/
def State.dropFull (s : State) : State :=
  match s.store.queue with
  | [] => s
  | e :: _ => s.leaveQueue.raise (.storeFull e.lesson e.ordinal e.frame e.outputCount)

/-- The head entry dropped with SAVE_FAILED, naming the last cell tried (R151). -/
def State.dropFailed (s : State) (cell : Nat) : State :=
  match s.store.queue with
  | [] => s
  | e :: _ => s.leaveQueue.raise (.saveFailed e.lesson e.ordinal e.frame cell)

/-- The writer takes a cell for the head entry: an ERASED one to program, a DEAD one to erase first (R148). -/
def Store.takeCell (s : Store) (cell : Nat) (tries : Nat) (erased : Bool) : Store :=
  let s' := { s.setCell cell (if erased then .writing else .erasing) with
    writer := if erased then .program else .erase
    attempt := some ⟨cell, tries + 1, none, []⟩ }
  s'.ask (if erased then .saveProgram cell else .saveErase cell)

/-- The writer's choice of a cell for the head entry, with the count of cells tried before it (R148). -/
def State.chooseCell (s : State) (tries : Nat) : State :=
  if s.store.stamp = 0 then s.dropFull
  else
    match s.store.lowestCell .erased with
    | some c => s.withStore (s.store.takeCell c tries true)
    | none =>
      match s.store.lowestCell .dead with
      | some c => s.withStore (s.store.takeCell c tries false)
      | none => s.dropFull

/-- The store is READY and the writer IDLE. -/
def Store.writerFree (s : Store) : Bool := s.state == .ready && s.writer == .idle

/-- The writer begins saving queued entries until one is in hand or none is left; an entry dropped with STORE_FULL is
followed by the next (R148). The first argument bounds the entries begun. -/
def beginSaves : Nat → State → State
  | 0, s => s
  | n + 1, s =>
    if s.store.writerFree && !s.store.queue.isEmpty then beginSaves n (s.chooseCell 0) else s

/-- Reclaim takes the lowest DEAD cell while nothing is queued and the writer is IDLE (R152). -/
def Store.beginReclaim (s : Store) : Store :=
  if s.writerFree && s.queue.isEmpty then
    match s.lowestCell .dead with
    | some c => ({ s.setCell c .erasing with writer := .reclaim }).ask (.reclaimErase c)
    | none => s
  else s

/-- The writer at work: it begins saves, and reclaims when there is nothing to save (R148, R152). -/
def State.runWriter (s : State) : State :=
  let s' := beginSaves s.store.queue.length s
  s'.withStore s'.store.beginReclaim

/-- The port's arbiter in the whole part. -/
def State.arbitratePort (s : State) : State := s.withStore s.store.arbitrate

/-- An erase, program or commit of a save failed: the cell becomes BAD with an error record, and the writer chooses
again or, after three cells, drops the entry (R151). -/
def State.saveStepFailed (s : State) (cell : Nat) (k : ErrorKind) : State :=
  let tries := (s.store.attempt.map (·.tries)).getD 0
  let s' := (s.withStore (s.store.setCell cell .bad)).recordError .store k cell
  if tries < Config.maxTries then s'.chooseCell tries else s'.dropFailed cell

/-- A waiting reclaim erase is withdrawn when an entry joins the queue: its cell returns to DEAD and the writer to
IDLE (R153). -/
def Store.withdrawReclaim (s : Store) : Store :=
  match s.port.waiting.findSome? fun | .reclaimErase c => some c | _ => none with
  | some c =>
    { s.setCell c .dead with
      writer := .idle
      port := { s.port with waiting := s.port.waiting.erase (.reclaimErase c) } }
  | none => s

end Sys2Proof.Machine
end

