-- ==== Sys2Proof/Machine/Triggers.lean ====
section
/-! DEFINITION. Capture: the gate (R121), the choice of the frame (R122), the joint step with the lesson store and
the slot store (R123 to R125), what follows a capture taken (R126), and the interval timer (R118). -/

namespace Sys2Proof.Machine

/-- The source is in the mask (R115); REQUEST is not a gated source. -/
def SourceMask.selects (m : SourceMask) : Trigger → Bool
  | .settle => m.settle
  | .interval => m.interval
  | .key => m.key
  | .request => false

/-- The gate; a REQUEST trigger bypasses it (R116, R121). -/
def Capture.gate (c : Capture) (src : Trigger) : Bool :=
  src == .request ||
    (c.settings.mode != .off && c.settings.mask.selects src && c.holdoffCounter == 0 &&
      (c.settings.mode != .single || c.armed))

/-- The outcome of a capture (R122, R123). -/
inductive CaptureOutcome where
  | taken (frame : Word) (slot : Fin 12) (lesson ordinal : Nat) (merged single : Bool)
  | missed (reason : MissReason) (frame : Word)
  deriving DecidableEq, Repr

/-- The frame and focus measure of the slot carrying LIVE (R122; notes/assumptions/17.md). -/
def Slots.liveFrame (t : Slots) : Option (Word × Nat) :=
  match t.carrier .live with
  | some i =>
    match (t.get i).origin, (t.get i).focus with
    | some (.sensor n), some fm => some (n, fm)
    | _, _ => none
  | none => none

/-- What follows every capture taken, merges included: the holdoff is loaded, armed is cleared in SINGLE, and the
interval counts are cleared if so set (R126). -/
def Capture.afterTaken (c : Capture) : Capture :=
  { c with
    holdoffCounter := c.settings.holdoff
    armed := if c.settings.mode = .single then false else c.armed
    frameCount := if c.settings.restartInterval then 0 else c.frameCount
    postCount := if c.settings.restartInterval then 0 else c.postCount }

/-- The capture carries the single-done flag (R126). -/
def Capture.singleDone (c : Capture) : Bool := c.settings.mode == .single

/-- The miss of a capture: the notice alone (R126). -/
def State.missCapture (s : State) (src : Trigger) (r : MissReason) (frame : Word) : State × CaptureOutcome :=
  (s.raise (.captureMissed src r frame), .missed r frame)

/-- A capture taken: its notice and R126's effects. -/
def State.takenCapture (s : State) (src : Trigger) (frame : Word) (slot : Fin 12) (lesson ordinal : Nat)
    (merged : Bool) : State × CaptureOutcome :=
  let single := s.capture.singleDone
  ((s.withCapture s.capture.afterTaken).raise (.captureTaken src frame slot lesson ordinal merged single),
    .taken frame slot lesson ordinal merged single)

/-- What capture reads while it chooses a frame (R122): the frame and its focus measure, if there is one, window 0's
current zoom and requested centre (R73), the output frame counter (R100). -/
structure CaptureRead where
  source : Trigger
  named : Option (Word × Nat)
  zoom : Nat
  cx : Nat
  cy : Nat
  outputCount : Word
  deriving DecidableEq, Repr

/-- Capture's reads for a trigger that names a frame, or names none (R122). -/
def State.readCapture (s : State) (src : Trigger) (named : Option (Word × Nat)) : CaptureRead :=
  let w := s.views.get 0
  ⟨src, named, w.zoom, w.cx, w.cy, s.output.frameCounter⟩

/-- The entry of a capture from what it read and the lesson it goes into (R124). -/
def CaptureRead.entry (r : CaptureRead) (frame : Word) (focus : Nat) (slot : Fin 12) (l : Lesson) : SaveEntry :=
  ⟨slot, frame, l.id, l.next, r.source, focus, r.zoom, r.cx, r.cy, r.outputCount⟩

/-- The open lesson, if the store is READY (R123). -/
def Store.openLesson (s : Store) : Option Lesson :=
  if s.state = .ready then s.directory.find? (·.isOpen) else none

/-- The next ordinal of a lesson raised by 1 (R124). -/
def Store.advanceOrdinal (s : Store) (id : Nat) : Store :=
  { s with directory := s.directory.map fun l => if l.id = id then { l with next := l.next + 1 } else l }

/-- An entry joins the queue at its tail and its lesson's next ordinal rises (R124). A reclaim erase that waits is
withdrawn (R153). -/
def Store.append (s : Store) (e : SaveEntry) : Store :=
  Store.withdrawReclaim { s.advanceOrdinal e.lesson with queue := s.queue ++ [e] }

/-- The joint step of capture, lesson store and slot store for a frame that passed the focus floor (R123). -/
def State.jointCapture (s : State) (r : CaptureRead) (frame : Word) (focus : Nat) : State × CaptureOutcome :=
  match s.store.openLesson with
  | none => s.missCapture r.source .noLesson frame
  | some l =>
    if 255 < l.next then s.missCapture r.source .lessonFull frame
    else
      match s.store.queue.find? fun e => e.frame == frame with
      | some e => s.takenCapture r.source e.frame e.slot e.lesson e.ordinal true
      | none =>
        if Config.queueCapacity ≤ s.store.queue.length then s.missCapture r.source .queueFull frame
        else
          match s.slots.tagCapture frame with
          | (_, none) => s.missCapture r.source .stale frame
          | (slots, some i) =>
            let joined := (s.withSlots slots).withStore (s.store.append (r.entry frame focus i l))
            let (s', o) := joined.takenCapture r.source frame i l.id l.next false
            (s'.runWriter.arbitratePort, o)

/-- The focus floor applies to SETTLE and INTERVAL captures (R122). -/
def Trigger.judgedByFocus : Trigger → Bool
  | .settle | .interval => true
  | .key | .request => false

/-- A capture from its reads on: missed for want of a frame or of focus (R122), or its joint step (R123). What moved
between the reads and this step may have taken the frame away (R124). -/
def State.completeCapture (s : State) (r : CaptureRead) : State × CaptureOutcome :=
  match r.named with
  | none => s.missCapture r.source .noFrame 0
  | some (frame, focus) =>
    if r.source.judgedByFocus && decide (focus < s.capture.settings.floor) then
      s.missCapture r.source .blurred frame
    else s.jointCapture r frame focus

/-- A capture of a named frame, or of the LIVE frame, its joint step taken at once after its reads (R122 to R124). -/
def State.takeCapture (s : State) (src : Trigger) (named : Option (Word × Nat)) : State × CaptureOutcome :=
  s.completeCapture (s.readCapture src named)

/-- A gated trigger that names its frame: taken if it passes the gate, otherwise ignored (R121). -/
def State.trigger (s : State) (src : Trigger) (named : Option (Word × Nat)) : State :=
  if s.capture.gate src then (s.takeCapture src named).1 else s

/-- The interval timer after one count; an expiry waits for its INTERVAL_EXPIRY (R118; notes/assumptions/18.md). -/
def Capture.countFrame (c : Capture) : Capture :=
  if c.frameCount + 1 = c.prescale then
    if c.postCount + 1 = c.postscale then { c with frameCount := 0, postCount := 0, expiries := c.expiries + 1 }
    else { c with frameCount := 0, postCount := c.postCount + 1 }
  else { c with frameCount := c.frameCount + 1 }

/-- The timer's expiry taken up: the state in which one waiting expiry is judged, if one waits (R118). -/
def State.takeExpiry (s : State) : Option State :=
  match s.capture.expiries with
  | 0 => none
  | n + 1 => some (s.withCapture { s.capture with expiries := n })

/-- The key filter after one sample, and whether it is a press event (R120). -/
def Capture.sampleKey (c : Capture) (pressed : Bool) : Capture × Bool :=
  let k := if pressed then min (c.keyCounter + 1) 15 else c.keyCounter - 1
  if k = 15 ∧ c.keyPressed = false then ({ c with keyCounter := k, keyPressed := true }, true)
  else if k = 0 ∧ c.keyPressed = true then ({ c with keyCounter := k, keyPressed := false }, false)
  else ({ c with keyCounter := k }, false)

end Sys2Proof.Machine
end

