-- ==== Sys2Proof/Machine/CaptureUnit.lean ====
section
/-! DEFINITION. The capture unit: the key sample (R120), the expiry of the interval timer as a trigger (R118), the
requests (R127 to R131), and the capture that a good frame end overtakes (R124). -/

namespace Sys2Proof.Machine

/-- KEY_SAMPLE: the filter's step, and a press event judged as a trigger of source KEY (R120, R121). -/
def execKeySample (pressed : Bool) (s : State) : Host.Outcome State Fault Refusal :=
  let (c, press) := s.capture.sampleKey pressed
  let s' := s.withCapture c
  if press then finish (s'.trigger .key s'.slots.liveFrame) else finish s'

/-- INTERVAL_EXPIRY: one expiry of the timer is judged, once, as a trigger of source INTERVAL naming the LIVE frame
(R118, R121, R122). With no expiry waiting the event cannot occur (notes/assumptions/2.md, notes/assumptions/18.md). -/
def execIntervalExpiry (s : State) : Host.Outcome State Fault Refusal :=
  match s.takeExpiry with
  | some s' => finish (s'.trigger .interval s'.slots.liveFrame)
  | none => ignored s

/-- The step of CAPTURE SET (R127). -/
def captureSetStep (mode mask : Byte) (floor : Half) (holdoff restart : Byte) (s : State) : State × Answer :=
  match captureMode mode with
  | none => (s, Answer.refused .noSuchMode)
  | some m =>
    let c := s.capture
    let set : CaptureSettings := ⟨m, maskOf mask, min floor.toNat 65280, holdoff.toNat, onOff restart⟩
    (s.withCapture
      { c with
        settings := set
        armed := if m = c.settings.mode then c.armed else false
        holdoffCounter := min c.holdoffCounter holdoff.toNat },
      Answer.inForce (captureUnchanged mask floor restart) (captureSettingsBytes set))

/-- CAPTURE SET (R127). -/
def execCaptureSet (tag mode mask : Byte) (floor : Half) (holdoff restart : Byte) (s : State) :
    Host.Outcome State Fault Refusal :=
  respond (.captureSet tag mode mask floor holdoff restart) s (captureSetStep mode mask floor holdoff restart)

/-- The step of CAPTURE ARM (R128). -/
def captureArmStep (s : State) : State × Answer :=
  match s.capture.settings.mode with
  | .single => (s.withCapture { s.capture with armed := true }, Answer.ok [])
  | _ => (s, Answer.refused .notSingle)

/-- CAPTURE ARM (R128). -/
def execCaptureArm (tag : Byte) (s : State) : Host.Outcome State Fault Refusal :=
  respond (.captureArm tag) s captureArmStep

/-- The CAPTURE NOW results (R129, R192). -/
def CaptureOutcome.bytes : CaptureOutcome → List Byte
  | .taken frame slot lesson ordinal merged single =>
    [0, 0] ++ le32 frame.toNat ++ [lowByte slot.val, lowByte lesson, lowByte ordinal, captureFlags merged single]
  | .missed reason frame => [1, reason.code] ++ le32 frame.toNat ++ [0, 0, 0, 0]

/-- The step of CAPTURE NOW: a capture of source REQUEST of the LIVE frame (R122, R129). -/
def captureNowStep (s : State) : State × Answer :=
  let (s', o) := s.takeCapture .request s.slots.liveFrame
  (s', Answer.ok o.bytes)

/-- CAPTURE NOW (R129). -/
def execCaptureNow (tag : Byte) (s : State) : Host.Outcome State Fault Refusal :=
  respond (.captureNow tag) s captureNowStep

/-! ### A capture that a good frame end overtakes -/

/-- The code of CAPTURE NOW (section 9.8). -/
def captureNowCode : Byte := 0x4A

/-- A capture begun and not yet tagged: what it read, and the tag its reply will echo if it is a CAPTURE NOW (R122,
R168). -/
structure BegunCapture where
  read : CaptureRead
  replyTag : Option Byte
  deriving DecidableEq, Repr

/-- The reads of a gated trigger that names the LIVE frame, if it passes the gate (R121, R122). -/
def State.beginTrigger (s : State) (src : Trigger) : Option BegunCapture :=
  if s.capture.gate src then some ⟨s.readCapture src s.slots.liveFrame, none⟩ else none

/-- The part of a key sample, an interval expiry or a CAPTURE NOW that lies before its tag request: the key filter's
step (R120), the timer's expiry taken up if one waits (R118), the request's place in the hand or behind it (R166), the
gate and the reads (R121, R122). -/
def State.beginEarly (s : State) : EarlyCapture → State × Option BegunCapture
  | .key =>
    let (c, press) := s.capture.sampleKey true
    let s' := s.withCapture c
    (s', if press then s'.beginTrigger .key else none)
  | .interval =>
    match s.takeExpiry with
    | some s' => (s', s'.beginTrigger .interval)
    | none => (s, none)
  | .request tag =>
    let r : Request := ⟨captureNowCode, tag, []⟩
    match s.link.hand with
    | none => (s.takeInHand r, some ⟨s.readCapture .request s.slots.liveFrame, some tag⟩)
    | some _ => (s.keepWaiting r, none)

/-- The joint step of a capture begun, and the reply of a CAPTURE NOW (R123, R129). -/
def State.endCapture (s : State) (begun : Option BegunCapture) : State :=
  match begun with
  | none => s
  | some b =>
    let (s', o) := s.completeCapture b.read
    match b.replyTag with
    | some tag => s'.formReply captureNowCode tag (Answer.ok o.bytes)
    | none => s'

/-- The capture that the good frame end at hand overtakes, begun: the schedule's front entry, which it uses up (R124;
notes/assumptions/7.md). -/
def State.beginOvertaken (s : State) : State × Option BegunCapture :=
  match s.schedule.overtaken with
  | [] => (s, none)
  | entry :: rest =>
    let s' := s.withSchedule { s.schedule with overtaken := rest }
    match entry with
    | none => (s', none)
    | some e => s'.beginEarly e

/-! ### The interval timer's values, and the snapshot -/

/-- The step of INTERVAL SET (R130). -/
def intervalSetStep (prescale postscale : Byte) (s : State) : State × Answer :=
  let p := clamp 1 255 prescale.toNat
  let q := clamp 1 16 postscale.toNat
  (s.withCapture { s.capture with prescale := p, postscale := q, frameCount := 0, postCount := 0 },
    Answer.inForce (p == prescale.toNat && q == postscale.toNat) ([lowByte p, lowByte q] ++ le16 (p * q)))

/-- INTERVAL SET (R130). -/
def execIntervalSet (tag prescale postscale : Byte) (s : State) : Host.Outcome State Fault Refusal :=
  respond (.intervalSet tag prescale postscale) s (intervalSetStep prescale postscale)

/-- CAPTURE READ (R131). -/
def execCaptureRead (tag : Byte) (s : State) : Host.Outcome State Fault Refusal :=
  respond (.captureRead tag) s fun s => (s, Answer.ok (captureBytes s.capture))

end Sys2Proof.Machine
end

