-- ==== Sys2Proof/Machine/NoticeRequests.lean ====
section
/-! DEFINITION. The notice and error unit's requests (R182, R183, R186, R187). -/

namespace Sys2Proof.Machine

/-- The fourteen levels of NOTICE LEVELS SET as a table. -/
def levelTable (l1 l2 l3 l4 l5 l6 l7 l8 l9 l10 l11 l12 l13 l14 : Byte) : Table Byte 14 :=
  ⟨[l1, l2, l3, l4, l5, l6, l7, l8, l9, l10, l11, l12, l13, l14], rfl⟩

/-- The step of NOTICE LEVELS SET (R182). -/
def noticeLevelsSetStep (levels : Table Byte 14) (s : State) : State × Answer :=
  (s.withNotices (s.notices.mapIdx fun i r => { r with level := levelInRange (levels.get i) }),
    Answer.inForce (levels.toList.all fun b => decide (b.toNat ≤ 7))
      (levels.toList.map fun b => lowByte (levelInRange b)))

/-- NOTICE LEVELS SET (R182). -/
def execNoticeLevelsSet (tag l1 l2 l3 l4 l5 l6 l7 l8 l9 l10 l11 l12 l13 l14 : Byte) (s : State) :
    Host.Outcome State Fault Refusal :=
  respond (.noticeLevelsSet tag l1 l2 l3 l4 l5 l6 l7 l8 l9 l10 l11 l12 l13 l14) s
    (noticeLevelsSetStep (levelTable l1 l2 l3 l4 l5 l6 l7 l8 l9 l10 l11 l12 l13 l14))

/-- NOTICE LEVELS READ (R183). -/
def execNoticeLevelsRead (tag : Byte) (s : State) : Host.Outcome State Fault Refusal :=
  respond (.noticeLevelsRead tag) s fun s => (s, Answer.ok (noticeLevelsBytes s.notices))

/-- ERROR READ (R186). -/
def execErrorRead (tag : Byte) (s : State) : Host.Outcome State Fault Refusal :=
  respond (.errorRead tag) s fun s => (s, Answer.ok (errorTableBytes s.errors))

/-- The step of ERROR CLEAR (R187). -/
def errorClearStep (record : Nat) (s : State) : State × Answer :=
  if record = 255 then (s.withErrors ⟨[], false⟩, Answer.ok [])
  else if record < s.errors.records.length then
    (s.withErrors { s.errors with records := s.errors.records.eraseIdx record }, Answer.ok [])
  else (s, Answer.refused .noSuchRecord)

/-- ERROR CLEAR (R187). -/
def execErrorClear (tag record : Byte) (s : State) : Host.Outcome State Fault Refusal :=
  respond (.errorClear tag record) s (errorClearStep record.toNat)

end Sys2Proof.Machine
end

