-- ==== Sys2Proof/Machine/PageWatch.lean ====
section
/-! DEFINITION. The watch's requests (R55 to R57). -/

namespace Sys2Proof.Machine

/-- The step of WATCH SET: the settings in range, and the restart it always causes (R55, R56). -/
def watchSetStep (enable threshold rise length quorum : Byte) (s : State) : State × Answer :=
  let w := watchInRange enable threshold rise length quorum
  (s.withWatch (Watch.restarted w),
    Answer.inForce (watchUnchanged enable threshold rise length quorum) (watchSettingsBytes w))

/-- WATCH SET (R55, R56). -/
def execWatchSet (tag enable threshold rise length quorum : Byte) (s : State) : Host.Outcome State Fault Refusal :=
  respond (.watchSet tag enable threshold rise length quorum) s (watchSetStep enable threshold rise length quorum)

/-- WATCH READ (R57). -/
def execWatchRead (tag : Byte) (s : State) : Host.Outcome State Fault Refusal :=
  respond (.watchRead tag) s fun s => (s, Answer.ok (watchBytes s.watch))

end Sys2Proof.Machine
end

