-- ==== Sys2Proof/Machine/PixelPipe.lean ====
section
/-! DEFINITION. The pixel pipe's requests: PROFILE SET, PROFILE READ (R88, R89). -/

namespace Sys2Proof.Machine

/-- The step of PROFILE SET (R88). -/
def profileSetStep (number gain threshold limit : Byte) (s : State) : State × Answer :=
  match index4 number with
  | some i =>
    let p := profileInRange gain threshold limit
    (s.withPipe { s.pipe with profiles := s.pipe.profiles.set i p },
      Answer.inForce (decide (p = ⟨gain.toNat, threshold.toNat, limit.toNat⟩)) ([number] ++ profileBytes p))
  | none => (s, Answer.refused .noSuchProfile)

/-- PROFILE SET (R88). -/
def execProfileSet (tag number gain threshold limit : Byte) (s : State) : Host.Outcome State Fault Refusal :=
  respond (.profileSet tag number gain threshold limit) s (profileSetStep number gain threshold limit)

/-- The step of PROFILE READ (R89). -/
def profileReadStep (number : Byte) (s : State) : State × Answer :=
  match index4 number with
  | some i => (s, Answer.ok (profileBytes (s.pipe.profiles.get i)))
  | none => (s, Answer.refused .noSuchProfile)

/-- PROFILE READ (R89). -/
def execProfileRead (tag number : Byte) (s : State) : Host.Outcome State Fault Refusal :=
  respond (.profileRead tag number) s (profileReadStep number)

end Sys2Proof.Machine
end

