-- ==== Sys2Proof/Machine/Pixels.lean ====
section
/-! DEFINITION. Slot images and the arithmetic on their pixels: the sensor's byte order (R24), the 3 × 3 blur (R36,
R83), the measurements of a frame (R29, R34 to R36), and the pixel pipe's stages (R79 to R86, R92). -/

namespace Sys2Proof.Machine

/-- A byte of a slot's image; bytes no frame has written read as an open value (notes/assumptions/3.md). -/
def imageByte (slot : Nat) (img : Image) (row off : Nat) : Byte :=
  match img[row]? with
  | some bytes =>
    match bytes[off]? with
    | some b => b
    | none => Config.unwrittenByte slot row off
  | none => Config.unwrittenByte slot row off

/-- The luma of a pixel: the second or the fourth of its pair's four bytes (R24). -/
def imageLuma (slot : Nat) (img : Image) (x y : Nat) : Nat := (imageByte slot img y (2 * x + 1)).toNat

/-- The Cb of a pair of pixels: the first of its four bytes (R24). -/
def imageCb (slot : Nat) (img : Image) (c y : Nat) : Nat := (imageByte slot img y (4 * c)).toNat

/-- The Cr of a pair of pixels: the third of its four bytes (R24). -/
def imageCr (slot : Nat) (img : Image) (c y : Nat) : Nat := (imageByte slot img y (4 * c + 2)).toNat

/-- The row `row` of an image replaced by a line; rows above it that were never written stay empty (R9, R29). -/
def Image.writeRow (img : Image) (row : Nat) (line : List Byte) : Image :=
  if row < img.length then img.set row line else img ++ List.replicate (row - img.length) [] ++ [line]

/-- The 3 × 3 blur with kernel 1 2 1 / 2 4 2 / 1 2 1 on a grid of `w` × `h`; a neighbour outside the grid is replaced
by the nearest pixel on its edge (R36, R83). -/
def blurAt (f : Nat → Nat → Nat) (w h x y : Nat) : Nat :=
  let l := x - 1
  let r := min (x + 1) (w - 1)
  let u := y - 1
  let d := min (y + 1) (h - 1)
  (f l u + 2 * f x u + f r u + 2 * f l y + 4 * f x y + 2 * f r y + f l d + 2 * f x d + f r d + 8) / 16

/-! ### Measurements of a sensor frame -/

/-- The luma values of a line's bytes (R24). -/
def lineLumas : List Byte → List Nat
  | _ :: y :: rest => y.toNat :: lineLumas rest
  | _ => []

/-- The sum of R36's differences over one row of the focus area. -/
def focusRow (f : Nat → Nat → Nat) (area : Rect) (y : Nat) : Nat :=
  ((List.range area.w).map fun i =>
    ((f (area.x + i) y : Int) - (blurAt f Config.frameWidth Config.frameHeight (area.x + i) y : Int)).natAbs).sum

/-- The sum of one row if it lies in the focus area (R29, R36). -/
def focusRowIn (f : Nat → Nat → Nat) (area : Rect) (y : Nat) : Nat :=
  if area.y ≤ y ∧ y < area.y + area.h then focusRow f area y else 0

/-- The running sums after the line at `row` is written. A row's focus sum needs the row below it, so it is added when
that row has arrived, and the last row's with the last line (R29, R36; DEDUCED, notes/assumptions/11.md). -/
def Sums.addLine (s : Sums) (area : Rect) (f : Nat → Nat → Nat) (row : Nat) (line : List Byte) : Sums :=
  let lumas := lineLumas line
  { luma := s.luma + lumas.sum
    tiles := s.tiles.mapIdx fun i t =>
      if i.val / Config.tileColumns = row / Config.tileSide then
        t + ((lumas.drop (Config.tileSide * (i.val % Config.tileColumns))).take Config.tileSide).sum
      else t
    focus := s.focus + (if row = 0 then 0 else focusRowIn f area (row - 1)) +
      (if row + 1 = Config.frameHeight then focusRowIn f area row else 0) }

/-- No sums yet (R27). -/
def Sums.zero : Sums := ⟨0, Table.fill 192 0, 0⟩

/-- A frame's mean luma (R34). -/
def Sums.meanLuma (s : Sums) : Nat := s.luma / Config.framePixels

/-- A frame's tile means (R35). -/
def Sums.tileMeans (s : Sums) : Table Nat 192 := s.tiles.map (· / Config.tilePixels)

/-- A frame's focus measure over its latched area (R36). -/
def Sums.focusMeasure (s : Sums) (area : Rect) : Nat := s.focus * 256 / (area.w * area.h)

/-! ### The pixel pipe -/

/-- A step of the pipe: the source size over the pane size in 1/4096 pixel (R79). -/
def pipeStep (source pane : Nat) : Nat := source * 4096 / pane

/-- The offset `h` that puts the first output pixel's centre half an output pixel inside (R80). -/
def halfStep (step : Nat) : Int := ((step : Int) - 4096) / 2

/-- A position in 1/4096 pixel: origin, output index, step (R80, R82). -/
def position (origin : Int) (i step : Nat) : Int := origin + (i : Int) * (step : Int) + halfStep step

/-- The source index of a position (R80). -/
def sourceIndex (p : Int) : Int := p / 4096

/-- The blending weight of a position (R80). -/
def weight (p : Int) : Nat := ((p - sourceIndex p * 4096) / 16).toNat

/-- A source index replaced by the nearest in 0..limit (R81, R82). -/
def edgeIndex (limit : Nat) (k : Int) : Nat := (max 0 (min k (limit : Int))).toNat

/-- One blend, rounded to nearest with halves up (R81). -/
def blend (f a b : Nat) : Nat := ((256 - f) * a + f * b + 128) / 256

/-- Bilinear resampling: the horizontal pass on two source rows, then the vertical pass (R81). -/
def resampleAt (f : Nat → Nat → Nat) (lastX lastY : Nat) (px py : Int) : Nat :=
  let x0 := edgeIndex lastX (sourceIndex px)
  let x1 := edgeIndex lastX (sourceIndex px + 1)
  let y0 := edgeIndex lastY (sourceIndex py)
  let y1 := edgeIndex lastY (sourceIndex py + 1)
  blend (weight py) (blend (weight px) (f x0 y0) (f x1 y0)) (blend (weight px) (f x0 y1) (f x1 y1))

/-- The row position of a pane-local row (R80). -/
def PaneJob.rowPosition (j : PaneJob) (row : Nat) : Int := position ((j.rect.y : Int) * 4096) row j.stepY

/-- The resampled luma of a pane pixel (R80, R81). -/
def PaneJob.resampledLuma (j : PaneJob) (img : Image) (col row : Nat) : Nat :=
  resampleAt (imageLuma j.slot.val img) (Config.frameWidth - 1) (Config.frameHeight - 1)
    (position ((j.rect.x : Int) * 4096) col j.stepX) (j.rowPosition row)

/-- The position of a chroma column (R82). -/
def PaneJob.chromaPosition (j : PaneJob) (c : Nat) : Int := position ((j.rect.x : Int) * 2048) c j.stepX

/-- The resampled Cb of a pair of pane columns (R82). -/
def PaneJob.resampledCb (j : PaneJob) (img : Image) (c row : Nat) : Nat :=
  resampleAt (imageCb j.slot.val img) (Config.frameWidth / 2 - 1) (Config.frameHeight - 1) (j.chromaPosition c)
    (j.rowPosition row)

/-- The resampled Cr of a pair of pane columns (R82). -/
def PaneJob.resampledCr (j : PaneJob) (img : Image) (c row : Nat) : Nat :=
  resampleAt (imageCr j.slot.val img) (Config.frameWidth / 2 - 1) (Config.frameHeight - 1) (j.chromaPosition c)
    (j.rowPosition row)

/-- The detail cored with a threshold (R84). -/
def cored (threshold : Nat) (d : Int) : Int := d.sign * ((d.natAbs - threshold : Nat) : Int)

/-- The cored detail scaled by the gain, halves rounded up (R85). -/
def scaled (gain : Nat) (d : Int) : Int := ((gain : Int) * d + 8) / 16

/-- The scaled detail limited to −Lim..+Lim (R85). -/
def limited (limit : Nat) (g : Int) : Int := max (-(limit : Int)) (min g limit)

/-- The sharpened luma of a pixel from its resampled luma and its blur (R84 to R86). -/
def sharpen (p : Profile) (luma blur : Nat) : Nat :=
  let g := limited p.limit (scaled p.gain (cored p.threshold ((luma : Int) - blur)))
  (max 0 (min ((luma : Int) + g) 255)).toNat

/-- The luma the pipe delivers for a pane pixel (R83 to R86, R92). -/
def PaneJob.luma (j : PaneJob) (img : Image) (col row : Nat) : Nat :=
  sharpen j.values (j.resampledLuma img col row) (blurAt (j.resampledLuma img) j.width j.height col row)

/-- The pixel the pipe delivers at a pane-local column and row (R82, R92). -/
def PaneJob.pixel (j : PaneJob) (img : Image) (col row : Nat) : Colour :=
  ⟨BitVec.ofNat 8 (j.luma img col row), BitVec.ofNat 8 (j.resampledCb img (col / 2) row),
    BitVec.ofNat 8 (j.resampledCr img (col / 2) row)⟩

end Sys2Proof.Machine
end

