-- ==== Sys2Proof/Machine/Geometry.lean ====
section
/-! DEFINITION. View windows and panes: glide steps (R62), rectangles (R65 to R67), clipping (R105), the test card
(R111), and the raster pixel output composes (R110). -/

namespace Sys2Proof.Machine

/-- The window is gliding (R60). -/
def Window.gliding (w : Window) : Bool := w.zoom != w.target

/-- One glide step (R62); a window at rest is unchanged. -/
def Window.glide (w : Window) : Window :=
  if w.rate = 0 then { w with zoom := w.target }
  else if w.zoom < w.target then { w with zoom := min (w.zoom + w.rate) w.target }
  else if w.target < w.zoom then { w with zoom := max (w.zoom - w.rate) w.target }
  else w

/-- The size of the fit rectangle of a pane (R65). -/
def fitSize (wp hp : Nat) : Nat × Nat :=
  if 2592 * hp ≤ 1944 * wp then (2592, 2592 * hp / wp) else (1944 * wp / hp, 1944)

/-- The rectangle of the sensor frame that a pane of a window shows (R65 to R67). -/
def Window.rectFor (w : Window) (wp hp : Nat) : Rect :=
  let fit := fitSize wp hp
  let ww := fit.1 * 256 / w.zoom
  let wh := fit.2 * 256 / w.zoom
  ⟨(clampInt 0 ((2592 : Int) - ww) ((w.cx : Int) - (ww / 2 : Nat))).toNat,
    (clampInt 0 ((1944 : Int) - wh) ((w.cy : Int) - (wh / 2 : Nat))).toNat, ww, wh⟩

/-- A pane's rectangle clipped to the active area of a mode (R105). -/
def clipRect (mode : Fin 4) (r : Rect) : Rect :=
  if Config.activeWidth mode ≤ r.x ∨ Config.activeHeight mode ≤ r.y then ⟨r.x, r.y, 0, 0⟩
  else ⟨r.x, r.y, min r.w (Config.activeWidth mode - r.x), min r.h (Config.activeHeight mode - r.y)⟩

/-- The clipped rectangle is at least 16 × 16 (R105). -/
def Rect.shown (r : Rect) : Bool := decide (16 ≤ r.w ∧ 16 ≤ r.h)

/-- A raster pixel lies in a rectangle (R110). -/
def Rect.covers (r : Rect) (x y : Nat) : Bool := decide (r.x ≤ x ∧ x < r.x + r.w ∧ r.y ≤ y ∧ y < r.y + r.h)

/-- The bar of the test card at a pane-local column (R111). -/
def testBar (width col : Nat) : Nat := 8 * col / width

/-- The colours of the test card's bars (R111). -/
def barColour : Nat → Colour
  | 0 => ⟨255, 128, 128⟩
  | 1 => ⟨226, 1, 149⟩
  | 2 => ⟨179, 171, 1⟩
  | 3 => ⟨150, 44, 21⟩
  | 4 => ⟨105, 212, 235⟩
  | 5 => ⟨76, 85, 255⟩
  | 6 => ⟨29, 255, 107⟩
  | _ => ⟨0, 128, 128⟩

/-- The test card's pixel: the luma of its own bar, the chroma of its pair's first column's bar (R111). -/
def testCardPixel (width col : Nat) : Colour :=
  let pair := barColour (testBar width (2 * (col / 2)))
  ⟨(barColour (testBar width col)).luma, pair.cb, pair.cr⟩

/-- The pixel a pane contributes at a raster position (R110): from its slot by the pipe, its test card, or its absent
colour; a pane that shows nothing, or has no job, contributes none. -/
def panePixel (slots : Slots) (jobs : List PaneJob) (n : Fin 4) (p : PaneLatch) (x y : Nat) : Option Colour :=
  match p.shows with
  | .nothing => none
  | .testCard => some (testCardPixel p.rect.w (x - p.rect.x))
  | .absent c => some c
  | .slot _ =>
    (jobs.find? (·.pane == n)).map fun j => j.pixel (slots.get j.slot).image (x - p.rect.x) (y - p.rect.y)

/-- The pixel of the highest-numbered pane of the latch that covers a raster position, or the background (R110). -/
def composedPixel (slots : Slots) (jobs : List PaneJob) (l : FrameLatch) (x y : Nat) : Colour :=
  (([3, 2, 1, 0] : List (Fin 4)).findSome? fun n =>
    if (l.panes.get n).rect.covers x y then panePixel slots jobs n (l.panes.get n) x y else none).getD l.background

/-- What the projector port carries at an active raster pixel while a frame is being scanned; none between frames
(R92, R95, R96, R110; computed when asked for, notes/assumptions/21.md). -/
def State.rasterPixel (s : State) (x y : Nat) : Option Colour :=
  s.output.latch.map fun l => composedPixel s.slots s.pipe.jobs l x y

/-- The levels of the projector port's outputs: horizontal sync, vertical sync and data enable, each active or not, and
the three components on the 24 data lines (00_scope.md "Ports", R95). -/
structure PortLevels where
  hSync : Bool
  vSync : Bool
  dataEnable : Bool
  data : Colour
  deriving DecidableEq, Repr

/-- The port in OFF: sync and data-enable inactive, the data lines at 0 (R95). -/
def PortLevels.inactive : PortLevels := ⟨false, false, false, ⟨0, 0, 0⟩⟩

/-- A position of the total raster lies in the active area, the positions counted from its first pixel (R96). -/
def inActiveArea (mode : Fin 4) (column line : Nat) : Bool :=
  decide (column < Config.activeWidth mode ∧ line < Config.activeHeight mode)

/-- What the projector port's outputs carry at a position of the total raster (R95, R96, R110). While the raster runs,
data enable marks the active pixels of a frame being scanned; the sync levels, and the data lines elsewhere, are open
(notes/assumptions/24.md). -/
def State.portLevels (s : State) (column line : Nat) : PortLevels :=
  match s.output.state with
  | .off => .inactive
  | _ =>
    let sync := Config.syncLevels s.output.mode column line
    match s.rasterPixel column line, inActiveArea s.output.mode column line with
    | some c, true => ⟨sync.1, sync.2, true, c⟩
    | _, _ =>
      let d := Config.blankingData s.output.mode column line
      ⟨sync.1, sync.2, false, ⟨d.1, d.2.1, d.2.2⟩⟩

end Sys2Proof.Machine
end

