-- ==== Sys2Proof/Machine/TileJudge.lean ====
section
/-! DEFINITION. The watch's evaluation of a sample (R44 to R50). -/

namespace Sys2Proof.Machine

/-- A tile's sample is MOVING: its mean moved by M or more (R45). -/
def movingSample (threshold previous new : Nat) : Bool :=
  decide (threshold ≤ ((new : Int) - (previous : Int)).natAbs)

/-- A tile's counter after its sample (R46). -/
def tileCounter (w : WatchSettings) (counter : Nat) (moving : Bool) : Nat :=
  if moving then min (counter + w.rise) w.length else counter - 1

/-- A tile's state after its counter moved: it follows the counter's two ends (R46). -/
def tileState (w : WatchSettings) (counter : Nat) (before : TileState) : TileState :=
  if counter = w.length then .moving else if counter = 0 then .still else before

/-- A tile judged against its new mean (R45 to R47). A tile without a mean takes it and is not judged. -/
def Tile.judged (w : WatchSettings) (t : Tile) (new : Nat) : Tile :=
  match t.mean with
  | none => { t with mean := some new }
  | some previous =>
    let c := tileCounter w t.counter (movingSample w.threshold previous new)
    ⟨some new, c, tileState w c t.state⟩

/-- The number of MOVING tiles (R42). -/
def movingCount (tiles : Table Tile 192) : Nat := tiles.count fun t => t.state == .moving

/-- The event an evaluation raises (R49, R50). -/
inductive PageEvent where
  | disturb (movingTiles : Nat)
  | settle
  deriving DecidableEq, Repr

/-- The page state machine's answer to an evaluation's count (R49, R50). -/
def pageEvent (w : Watch) (count : Nat) : Option PageEvent :=
  match w.page with
  | .still => if w.settings.quorum ≤ count then some (.disturb count) else none
  | .motion => if count = 0 then some .settle else none
  | .off => none

/-- The page state after an evaluation's event (R49, R50). -/
def pageAfter (page : PageState) : Option PageEvent → PageState
  | some (.disturb _) => .motion
  | some .settle => .still
  | none => page

/-- The watch after the sample of a good frame, and the event it raises: ignored in OFF, primed without means,
otherwise evaluated (R44). -/
def Watch.sample (w : Watch) (means : Table Nat 192) : Watch × Option PageEvent :=
  match w.page with
  | .off => (w, none)
  | _ =>
    if w.meansPresent then
      let tiles := w.tiles.mapIdx fun i t => t.judged w.settings (means.get i)
      let count := movingCount tiles
      let event := pageEvent w count
      ({ w with tiles := tiles, movingTiles := count, page := pageAfter w.page event }, event)
    else
      ({ w with tiles := w.tiles.mapIdx fun i t => { t with mean := some (means.get i) }, meansPresent := true }, none)

/-- The moving-tiles count the watch answers to intake: 0 in OFF (R44). -/
def Watch.answer (w : Watch) : Nat := if w.page = .off then 0 else w.movingTiles

end Sys2Proof.Machine
end

