-- ==== Sys2Proof/Machine/SensorIntake.lean ====
section
/-! DEFINITION. Sensor intake: the sensor port's events and intake's requests (R24 to R41). -/

namespace Sys2Proof.Machine

/-- The state with an error of source INTAKE recorded. -/
def State.intakeError (s : State) (k : ErrorKind) (detail : Nat) : State := s.recordError .intake k detail

/-- Steps 1 to 5 of a frame start: the number, the latched area, the allocation, FILLING or DROPPING (R27). -/
def State.beginFrame (s : State) : State :=
  let n := s.intake.counter + 1
  let frame (slot : Option (Fin 12)) : CurrentFrame := ⟨n, slot, 0, false, s.intake.area, Sums.zero⟩
  match s.slots.allocateFilling n with
  | (slots, some i) =>
    (s.withSlots slots).withIntake
      { s.intake with state := .filling, counter := n, lossTimer := .stopped, current := some (frame (some i)) }
  | (slots, none) =>
    ((s.withSlots slots).withIntake
      { s.intake with
        state := .dropping, counter := n, lossTimer := .stopped, current := some (frame none)
        drops := min (s.intake.drops + 1) 65535 }).intakeError .frameDropped n.toNat

/-- The abandon of the frame now FILLING: its slot becomes FREE (R11). -/
def State.abandonFrame (s : State) : State := s.withSlots s.slots.abandonFilling

/-- The unfinished frame closed by a frame start: damaged, with SHORT_FRAME if it was undamaged (R28; its date is
DEDUCED, notes/assumptions/19.md). -/
def State.closeUnfinished (s : State) : State :=
  match s.intake.current with
  | some f => (if f.damaged then s else s.intakeError .shortFrame f.lines).abandonFrame
  | none => s.abandonFrame

/-- FRAME_START (R26 to R28). -/
def execFrameStart (s : State) : Host.Outcome State Fault Refusal :=
  match s.intake.state with
  | .disabled => ignored s
  | .waiting => finish s.beginFrame
  | .lost => finish (s.raise (.intakeBack (s.intake.counter + 1))).beginFrame
  | .filling => finish s.closeUnfinished.beginFrame
  | .dropping => finish s.beginFrame

/-- A line of the frame now FILLING (R29): counted; a wrong length marks the frame damaged; an undamaged frame's line
0..1943 is written into the slot and summed. -/
def State.takeLine (s : State) (f : CurrentFrame) (line : List Byte) : State :=
  let index := f.lines
  let counted := { f with lines := f.lines + 1 }
  if line.length ≠ Config.lineBytes then
    let s' := s.withIntake { s.intake with current := some { counted with damaged := true } }
    if f.damaged then s' else s'.intakeError .lineLength index
  else if f.damaged ∨ Config.frameHeight ≤ index then
    s.withIntake { s.intake with current := some counted }
  else
    match f.slot with
    | none => s.withIntake { s.intake with current := some counted }
    | some i =>
      let x := s.slots.get i
      let img := Image.writeRow x.image index line
      let sums := f.sums.addLine f.area (imageLuma i.val img) index line
      (s.withSlots (s.slots.set i { x with image := img })).withIntake
        { s.intake with current := some { counted with sums := sums } }

/-- LINE_ARRIVAL (R26, R29). -/
def execLineArrival (line : List Byte) (s : State) : Host.Outcome State Fault Refusal :=
  match s.intake.state, s.intake.current with
  | .filling, some f => finish (s.takeLine f line)
  | _, _ => ignored s

/-- Intake between frames: WAITING, no current frame, the loss timer from 0 (R30, R32). -/
def Intake.betweenFrames (i : Intake) : Intake := { i with state := .waiting, current := none, lossTimer := .running }

/-- The fault of a frame that ends with its damaged flag clear, if its line count is not 1944 (R30). -/
def endFault (lines : Nat) : Option ErrorKind :=
  if lines < Config.frameHeight then some .shortFrame
  else if Config.frameHeight < lines then some .longFrame
  else none

/-- A damaged frame's end: its error if none was recorded, and the abandon of its slot (R30). -/
def State.endDamaged (s : State) (f : CurrentFrame) : State :=
  let s' := match f.damaged, endFault f.lines with
    | false, some k => s.intakeError k f.lines
    | _, _ => s
  s'.abandonFrame.withIntake s'.intake.betweenFrames

/-- The disturb event's effect: the notice (R51). -/
def State.disturb (s : State) (frame : Word) (count : Nat) : State := s.raise (.pageDisturbed frame count)

/-- The settle event's effects: SETTLED moves, the notice, and the trigger of source SETTLE (R52, R121). -/
def State.settle (s : State) (frame : Word) (focus : Nat) : State :=
  ((s.withSlots (s.slots.moveSettled frame)).raise (.pageSettled frame focus)).trigger .settle (some (frame, focus))

/-- The watch's step on a sample, with the effects of its event (R44, R51, R52). -/
def State.takeSample (s : State) (frame : Word) (focus : Nat) (means : Table Nat 192) : State :=
  let (w, event) := s.watch.sample means
  let s' := s.withWatch w
  match event with
  | some (.disturb count) => s'.disturb frame count
  | some .settle => s'.settle frame focus
  | none => s'

/-- The holdoff counter at a good frame end (R117). -/
def Capture.goodFrame (c : Capture) : Capture := { c with holdoffCounter := c.holdoffCounter - 1 }

/-- A good frame's end: the completion, capture's holdoff, the watch's sample, the statistics record, in this order
(R31). A capture begun before it tags its frame right after the completion (R124; notes/assumptions/7.md). -/
def State.endGood (s : State) (f : CurrentFrame) (begun : Option BegunCapture) : State :=
  let focus := f.sums.focusMeasure f.area
  let slots := match f.slot with
    | some i => s.slots.completeFilling i focus
    | none => s.slots
  let s1 := ((s.withSlots slots).withIntake s.intake.betweenFrames).endCapture begun
  let s2 := (s1.withCapture s1.capture.goodFrame).takeSample f.number focus f.sums.tileMeans
  s2.withIntake { s2.intake with stats := ⟨f.number, f.sums.meanLuma, focus, s2.watch.answer, true⟩ }

/-- The frame now FILLING, if it ends good: undamaged, with 1944 lines (R30). -/
def Intake.endingGood (i : Intake) : Option CurrentFrame :=
  match i.state, i.current with
  | .filling, some f => if f.damaged = false ∧ f.lines = Config.frameHeight then some f else none
  | _, _ => none

/-- FRAME_END (R26, R30 to R32). A good frame end overtakes the capture that the schedule gives it (R124;
notes/assumptions/7.md). -/
def execFrameEnd (s : State) : Host.Outcome State Fault Refusal :=
  match s.intake.endingGood with
  | some f =>
    let (s', begun) := s.beginOvertaken
    finish (s'.endGood f begun)
  | none =>
    match s.intake.state, s.intake.current with
    | .filling, some f => finish (s.endDamaged f)
    | .filling, none => finish (s.abandonFrame.withIntake s.intake.betweenFrames)
    | .dropping, _ => finish (s.withIntake s.intake.betweenFrames)
    | _, _ => ignored s

/-- LOSS_TIMEOUT: in WAITING, intake enters LOST and raises INTAKE_LOST; in other states the timer does not run
(R33). -/
def execLossTimeout (s : State) : Host.Outcome State Fault Refusal :=
  match s.intake.state with
  | .waiting =>
    finish ((s.withIntake { s.intake with state := .lost, lossTimer := .stopped }).raise (.intakeLost s.intake.counter))
  | _ => ignored s

/-- The step of INTAKE ENABLE (R39). -/
def intakeEnableStep (s : State) : State × Answer :=
  match s.intake.state with
  | .disabled => (s.withIntake { s.intake with state := .waiting, lossTimer := .running }, Answer.ok [])
  | _ => (s, Answer.ok [])

/-- INTAKE ENABLE (R39). -/
def execIntakeEnable (tag : Byte) (s : State) : Host.Outcome State Fault Refusal :=
  respond (.intakeEnable tag) s intakeEnableStep

/-- The step of INTAKE DISABLE (R40): a FILLING frame is abandoned without an error. -/
def intakeDisableStep (s : State) : State × Answer :=
  let s' := match s.intake.state with
    | .filling => s.abandonFrame
    | _ => s
  (s'.withIntake { s'.intake with state := .disabled, current := none, lossTimer := .stopped }, Answer.ok [])

/-- INTAKE DISABLE (R40). -/
def execIntakeDisable (tag : Byte) (s : State) : Host.Outcome State Fault Refusal :=
  respond (.intakeDisable tag) s intakeDisableStep

/-- The step of STATS READ: the reply, and then fresh clears (R40). -/
def statsReadStep (s : State) : State × Answer :=
  (s.withIntake { s.intake with stats := { s.intake.stats with fresh := false } }, Answer.ok (statsBytes s.intake))

/-- STATS READ (R40). -/
def execStatsRead (tag : Byte) (s : State) : Host.Outcome State Fault Refusal :=
  respond (.statsRead tag) s statsReadStep

/-- The step of FOCUS AREA SET (R38). -/
def focusAreaSetStep (asked : Rect) (s : State) : State × Answer :=
  let area := areaInRange asked
  (s.withIntake { s.intake with area := area }, Answer.inForce (decide (area = asked)) (rectBytes area))

/-- FOCUS AREA SET (R38). -/
def execFocusAreaSet (tag : Byte) (x y w h : Half) (s : State) : Host.Outcome State Fault Refusal :=
  respond (.focusAreaSet tag x y w h) s (focusAreaSetStep ⟨x.toNat, y.toNat, w.toNat, h.toNat⟩)

end Sys2Proof.Machine
end

