-- ==== Sys2Proof/Machine/SlotRequests.lean ====
section
/-! DEFINITION. The slot store's requests: FREEZE, UNFREEZE, SLOT LIST (R20 to R22). -/

namespace Sys2Proof.Machine

/-- The step of FREEZE (R20). -/
def freezeStep (which source : Byte) (s : State) : State × Answer :=
  match freezeTag which, freezeSource source with
  | some tag, some from_ =>
    match s.slots.carrier from_ with
    | some i =>
      (s.withSlots (s.slots.moveTag tag i),
        Answer.ok ([lowByte i.val] ++ originBytes (s.slots.get i).origin))
    | none => (s, Answer.refused .noFrame)
  | _, _ => (s, Answer.refused .noSuchTag)

/-- FREEZE (R20). -/
def execFreeze (tag which source : Byte) (s : State) : Host.Outcome State Fault Refusal :=
  respond (.freeze tag which source) s (freezeStep which source)

/-- The step of UNFREEZE (R21). -/
def unfreezeStep (which : Byte) (s : State) : State × Answer :=
  match freezeTag which with
  | some tag => (s.withSlots (s.slots.dropTag tag), Answer.ok [])
  | none => (s, Answer.refused .noSuchTag)

/-- UNFREEZE (R21). -/
def execUnfreeze (tag which : Byte) (s : State) : Host.Outcome State Fault Refusal :=
  respond (.unfreeze tag which) s (unfreezeStep which)

/-- SLOT LIST (R22). -/
def execSlotList (tag : Byte) (s : State) : Host.Outcome State Fault Refusal :=
  respond (.slotList tag) s fun s => (s, Answer.ok (slotListBytes s.slots))

end Sys2Proof.Machine
end

