-- ==== Sys2Proof/Machine/StoreMedia.lean ====
section
/-! DEFINITION. Mounting, formatting, unmounting and status of the lesson store, and the flash events of a mount or
format (R134, R136 to R141). -/

namespace Sys2Proof.Machine

/-- A store request by the store state: BUSY in MOUNTING and FORMATTING, NOT_MOUNTED in UNMOUNTED and FAULT, its own
rule in READY (R134). -/
def whenReady (s : State) (k : State × Answer) : State × Answer :=
  match s.store.state with
  | .mounting | .formatting => (s, Answer.busy)
  | .unmounted | .fault => (s, Answer.refused .notMounted)
  | .ready => k

/-- STORE_STATE raised with the store as it stands, no lesson delete having ended (R181). -/
def State.raiseStoreState (s : State) : State :=
  s.raise (.storeState s.store.state s.store.cellCount s.store.fault 0 0 0)

/-- The store entering MOUNTING or FORMATTING: nothing known of the flash, the identity read in flight (R136, R139;
DEDUCED, notes/assumptions/14.md). -/
def Store.beginMedia (s : Store) (state : StoreState) : Store :=
  { s with
    state := state, fault := .none, cellCount := 0, cells := [], directory := [], scan := []
    port := { s.port with inFlight := some .identityRead } }

/-- The step of STORE MOUNT (R134, R136). -/
def storeMountStep (s : State) : State × Answer :=
  match s.store.state with
  | .mounting | .formatting => (s, Answer.busy)
  | .unmounted | .fault => (s.withStore (s.store.beginMedia .mounting), Answer.accepted [])
  | .ready => (s, Answer.ok [])

/-- STORE MOUNT (R136). -/
def execStoreMount (tag : Byte) (s : State) : Host.Outcome State Fault Refusal :=
  respond (.storeMount tag) s storeMountStep

/-- A step in flight, a recall accepted or a lesson delete in progress (R139, R140). -/
def Store.atWork (s : Store) : Bool := s.port.inFlight.isSome || s.recallLoad.isSome || s.deleteWork.isSome

/-- The step of STORE FORMAT, its refusals in order (R134, R139). -/
def storeFormatStep (s : State) : State × Answer :=
  let accepted : State × Answer := (s.withStore (s.store.beginMedia .formatting), Answer.accepted [])
  match s.store.state with
  | .mounting | .formatting => (s, Answer.busy)
  | .unmounted | .fault => accepted
  | .ready =>
    if s.store.directory.any (·.isOpen) then (s, Answer.refused .lessonOpen)
    else if !s.store.queue.isEmpty then (s, Answer.refused .savesPending)
    else if s.store.atWork then (s, Answer.busy)
    else accepted

/-- STORE FORMAT (R139). -/
def execStoreFormat (tag : Byte) (s : State) : Host.Outcome State Fault Refusal :=
  respond (.storeFormat tag) s storeFormatStep

/-- The step of STORE UNMOUNT (R134, R140). -/
def storeUnmountStep (s : State) : State × Answer :=
  whenReady s <|
    if !s.store.queue.isEmpty || s.store.atWork then (s, Answer.busy)
    else
      ((s.withStore
        { s.store with state := .unmounted, cellCount := 0, cells := [], directory := [], stamp := 0 }).raiseStoreState,
        Answer.ok [])

/-- STORE UNMOUNT (R140). -/
def execStoreUnmount (tag : Byte) (s : State) : Host.Outcome State Fault Refusal :=
  respond (.storeUnmount tag) s storeUnmountStep

/-- STORE STATUS, taken in every store state (R134, R141). -/
def execStoreStatus (tag : Byte) (s : State) : Host.Outcome State Fault Refusal :=
  respond (.storeStatus tag) s fun s => (s, Answer.ok (storeStatusBytes s.store))

/-! ### The identity read -/

/-- The cell count a device size gives, or the reason for FAULT (R136). -/
def cellCountOf : Option Nat → Except FaultReason Nat
  | none => .error .noDevice
  | some size =>
    if size / Config.cellBytes < Config.minCells then .error .tooSmall
    else .ok (min (size / Config.cellBytes) Config.maxCells)

/-- The store in FAULT with its reason (R136, R139). -/
def State.mediaFault (s : State) (r : FaultReason) : State :=
  (s.withStore { s.store.endStep with state := .fault, fault := r, cellCount := 0 }).raiseStoreState

/-- A step of a mount or format put in flight: no other step can ask for the port (R154). -/
def Store.inFlightNext (s : Store) (x : PortStep) : Store := { s with port := { s.port with inFlight := some x } }

/-- The known C of a mount: the first header read begins (R136). -/
def Store.beginScan (s : Store) (c : Nat) : Store := ({ s with cellCount := c }).inFlightNext (.headerRead 0)

/-- The known C of a format: every cell DEAD, and the first erase begins (R139). -/
def Store.beginErases (s : Store) (c : Nat) : Store :=
  ({ s with cellCount := c, cells := (List.replicate c CellState.dead).set 0 .erasing }).inFlightNext (.formatErase 0)

/-- IDENTITY_READ_END (R136, R139). -/
def execIdentityReadEnd (size : Option Nat) (s : State) : Host.Outcome State Fault Refusal :=
  match s.store.port.inFlight with
  | some .identityRead =>
    match cellCountOf size with
    | .error r => finish (s.mediaFault r)
    | .ok c =>
      match s.store.state with
      | .formatting => finish (s.withStore (s.store.beginErases c))
      | _ => finish (s.withStore (s.store.beginScan c))
  | _ => ignored s

/-! ### The header scan -/

/-- A header as the scan keeps it, if it passes the checks of R137's third row. -/
def scannedHeader (cell : Nat) (h : List Byte) : Option ScannedHeader :=
  if headerPasses h then
    some ⟨cell, headerLesson h, headerOrdinal h, headerWord h 8, headerTitle h, headerCommitted h && !headerTombstoned h⟩
  else none

/-- The classification of a cell's header: its state, the error it records (R137). -/
def classify (h : Option (List Byte)) : CellState × Option ErrorKind :=
  match h with
  | none => (.bad, some .readFail)
  | some b =>
    if headerErased b then (.erased, none)
    else if !headerPasses b then (.dead, some .storeHeaderBad)
    else if !headerCommitted b then (.dead, none)
    else if headerTombstoned b then (.dead, none)
    else (.used, none)

/-- Candidate `a` wins over `b` for one lesson and ordinal: higher stamp, then lower cell (R138 step 1). -/
def ScannedHeader.beats (a b : ScannedHeader) : Bool :=
  decide (b.stamp.toNat < a.stamp.toNat) || (a.stamp == b.stamp && decide (a.cell < b.cell))

/-- The candidates that stay USED (R138 step 1). -/
def winners (scan : List ScannedHeader) : List ScannedHeader :=
  let cs := scan.filter (·.candidate)
  cs.filter fun b => !cs.any fun a => a.lesson == b.lesson && a.ordinal == b.ordinal && a.beats b

/-- A page record put at its place by ordinal (R142, R150). -/
def insertPage (p : PageRecord) : List PageRecord → List PageRecord
  | [] => [p]
  | q :: rest => if p.ordinal ≤ q.ordinal then p :: q :: rest else q :: insertPage p rest

/-- A lesson entry put at its place by id (R133). -/
def insertLesson (l : Lesson) : List Lesson → List Lesson
  | [] => [l]
  | m :: rest => if l.id ≤ m.id then l :: m :: rest else m :: insertLesson l rest

/-- The highest number of a list, 0 for none. -/
def highest (ns : List Nat) : Nat := ns.foldl max 0

/-- The title of a lesson found at mount: from its highest-stamp page; among pages sharing the highest stamp the choice
is open (R138 step 2; notes/assumptions/6.md). -/
def mountedTitle (ws : List ScannedHeader) : List Byte :=
  let top := highest (ws.map (·.stamp.toNat))
  match ws.filter fun w => w.stamp.toNat == top with
  | [] => []
  | [w] => w.title
  | tied =>
    let titles := tied.map (·.title)
    titles.getD (Config.titleTie titles % titles.length) []

/-- The entry of a lesson found at mount (R138 step 2). -/
def mountedLesson (id : Nat) (ws : List ScannedHeader) : Lesson :=
  { id := id
    title := mountedTitle ws
    isOpen := false
    next := highest (ws.map (·.ordinal)) + 1
    deleting := false
    pages := ws.foldl (fun pages w => insertPage ⟨w.cell, w.ordinal, w.stamp⟩ pages) [] }

/-- The directory built at mount (R138 step 2). -/
def mountedDirectory (ws : List ScannedHeader) : List Lesson :=
  ((List.range 65).filter fun id => ws.any (·.lesson == id)).map fun id =>
    mountedLesson id (ws.filter (·.lesson == id))

/-- The stamp counter after a mount (R138 step 3). -/
def mountedStamp (scan : List ScannedHeader) : Word :=
  match scan with
  | [] => 1
  | _ => BitVec.ofNat 32 (highest (scan.map (·.stamp.toNat))) + 1

/-- The cell table after duplicates are settled: a losing candidate's cell becomes DEAD (R138 step 1). -/
def settledCells (cells : List CellState) (scan : List ScannedHeader) : List CellState :=
  let ws := winners scan
  cells.zipIdx.map fun p => if p.1 = .used ∧ !ws.any (·.cell == p.2) then .dead else p.1

/-- The end of a mount: duplicates settled, the directory built, the stamp counter set, READY (R138). -/
def Store.finishMount (s : Store) : Store :=
  { s.endStep with
    state := .ready
    cells := settledCells s.cells s.scan
    directory := mountedDirectory (winners s.scan)
    stamp := mountedStamp s.scan
    scan := [] }

/-- HEADER_READ_END (R136 to R138). -/
def execHeaderReadEnd (h : Option (List Byte)) (s : State) : Host.Outcome State Fault Refusal :=
  match s.store.port.inFlight with
  | some (.headerRead cell) =>
    let (c, err) := classify h
    let store := { s.store with
      cells := s.store.cells ++ [c]
      scan := s.store.scan ++ (h.bind (scannedHeader cell)).toList }
    let s' := match err with
      | some k => (s.withStore store).recordError .store k cell
      | none => s.withStore store
    if cell + 1 < s.store.cellCount then finish (s'.withStore (s'.store.inFlightNext (.headerRead (cell + 1))))
    else finish (s'.withStore s'.store.finishMount).raiseStoreState.runWriter.arbitratePort
  | _ => ignored s

/-- The end of a format: an empty directory, stamp counter 1, READY (R139). -/
def Store.finishFormat (s : Store) : Store := { s.endStep with state := .ready, directory := [], stamp := 1 }

/-- FORMAT_ERASE_END (R139). -/
def execFormatEraseEnd (success : Bool) (s : State) : Host.Outcome State Fault Refusal :=
  match s.store.port.inFlight with
  | some (.formatErase cell) =>
    let s' :=
      if success then s.withStore (s.store.setCell cell .erased)
      else (s.withStore (s.store.setCell cell .bad)).recordError .store .eraseFail cell
    if cell + 1 < s.store.cellCount then
      finish (s'.withStore ((s'.store.setCell (cell + 1) .erasing).inFlightNext (.formatErase (cell + 1))))
    else finish (s'.withStore s'.store.finishFormat).raiseStoreState
  | _ => ignored s

end Sys2Proof.Machine
end

