-- ==== Sys2Proof/Machine/StoreLessons.lean ====
section
/-! DEFINITION. The lesson requests (R142 to R146) and LESSON DELETE (R155). -/

namespace Sys2Proof.Machine

/-- A lesson entry by its id (R142). -/
def Store.lesson (s : Store) (id : Nat) : Option Lesson := s.directory.find? (·.id == id)

/-- A lesson entry changed. -/
def Store.changeLesson (s : Store) (id : Nat) (f : Lesson → Lesson) : Store :=
  { s with directory := s.directory.map fun l => if l.id = id then f l else l }

/-- A lesson is open. -/
def Store.anyOpen (s : Store) : Bool := s.directory.any (·.isOpen)

/-- The lowest id 1..64 not in the directory (R143). -/
def Store.freeId (s : Store) : Nat :=
  ((List.range' 1 64).find? fun id => !s.directory.any (·.id == id)).getD 64

/-- The step of LESSON OPEN (R143). -/
def lessonOpenStep (title : List Byte) (s : State) : State × Answer :=
  whenReady s <|
    if s.store.anyOpen then (s, Answer.refused .alreadyOpen)
    else if 64 ≤ s.store.directory.length then (s, Answer.refused .directoryFull)
    else
      let l : Lesson := ⟨s.store.freeId, titleInForce title, true, 1, false, []⟩
      (s.withStore { s.store with directory := insertLesson l s.store.directory },
        Answer.inForce (decide (title.length ≤ 24)) ([lowByte l.id] ++ titleBytes l.title))

/-- LESSON OPEN (R143). -/
def execLessonOpen (tag : Byte) (title : List Byte) (s : State) : Host.Outcome State Fault Refusal :=
  respond (.lessonOpen tag title) s (lessonOpenStep title)

/-- The ordinals of a lesson's page records and of the save-queue entries that name it (R144). -/
def Store.ordinalsOf (s : Store) (l : Lesson) : List Nat :=
  l.pages.map (·.ordinal) ++ (s.queue.filter fun e => e.lesson == l.id).map (·.ordinal)

/-- The step of LESSON RESUME (R144). -/
def lessonResumeStep (id : Nat) (s : State) : State × Answer :=
  whenReady s <|
    match s.store.lesson id with
    | none => (s, Answer.refused .noSuchLesson)
    | some l =>
      if l.deleting then (s, Answer.refused .deleting)
      else if s.store.anyOpen then (s, Answer.refused .alreadyOpen)
      else
        let next := highest (s.store.ordinalsOf l) + 1
        (s.withStore (s.store.changeLesson id fun l => { l with isOpen := true, next := next }),
          Answer.ok ([lowByte id] ++ titleBytes l.title ++ le16 next))

/-- LESSON RESUME (R144). -/
def execLessonResume (tag lesson : Byte) (s : State) : Host.Outcome State Fault Refusal :=
  respond (.lessonResume tag lesson) s (lessonResumeStep lesson.toNat)

/-- The step of LESSON CLOSE (R145). -/
def lessonCloseStep (s : State) : State × Answer :=
  whenReady s <|
    match s.store.directory.find? (·.isOpen) with
    | none => (s, Answer.ok [0])
    | some l =>
      (s.withStore ((s.store.changeLesson l.id fun l => { l with isOpen := false }).prune l.id),
        Answer.ok [lowByte l.id])

/-- LESSON CLOSE (R145). -/
def execLessonClose (tag : Byte) (s : State) : Host.Outcome State Fault Refusal :=
  respond (.lessonClose tag) s lessonCloseStep

/-- The step of LESSON LIST (R146). A first position beyond the range 0..63 is answered like any at or beyond the number
of lessons: OK without entries (DESIGN CHOICE, notes/assumptions/23.md). -/
def lessonListStep (first : Nat) (s : State) : State × Answer :=
  whenReady s (s, Answer.ok (lessonListBytes s.store.directory first))

/-- LESSON LIST (R146). -/
def execLessonList (tag first : Byte) (s : State) : Host.Outcome State Fault Refusal :=
  respond (.lessonList tag first) s (lessonListStep first.toNat)

/-- The step of LESSON PAGES (R146). -/
def lessonPagesStep (id first : Nat) (s : State) : State × Answer :=
  whenReady s <|
    match s.store.lesson id with
    | none => (s, Answer.refused .noSuchLesson)
    | some l => (s, Answer.ok (lessonPagesBytes l.pages first))

/-- LESSON PAGES (R146). -/
def execLessonPages (tag lesson first : Byte) (s : State) : Host.Outcome State Fault Refusal :=
  respond (.lessonPages tag lesson first) s (lessonPagesStep lesson.toNat first.toNat)

/-- The entry of the lesson under delete: the one whose deleting flag is set (R155). -/
def Store.underDelete (s : Store) (d : DeleteWork) : Option Lesson :=
  s.directory.find? fun l => l.id == d.lesson && l.deleting

/-- The end of a lesson delete: the entry removed, the delete work absent, STORE_STATE raised with the lesson and the
two numbers (R155, R181). -/
def State.endDelete (s : State) (d : DeleteWork) : State :=
  let store := { s.store with directory := s.store.directory.filter fun l => !(l.id == d.lesson && l.deleting), deleteWork := none }
  (s.withStore store).raise
    (.storeState store.state store.cellCount store.fault d.lesson d.tombstoned d.failed)

/-- The next tombstone of a lesson delete asked for, lowest ordinal first, or the delete ended (R155). -/
def State.continueDelete (s : State) (d : DeleteWork) : State :=
  match (s.store.underDelete d).bind (·.pages.head?) with
  | some p => s.withStore (s.store.ask (.tombstone d.lesson p.ordinal p.cell none))
  | none => s.endDelete d

/-- The step of LESSON DELETE, its refusals in order (R155). -/
def lessonDeleteStep (id : Nat) (s : State) : State × Answer :=
  whenReady s <|
    match s.store.lesson id with
    | none => (s, Answer.refused .noSuchLesson)
    | some l =>
      if l.isOpen then (s, Answer.refused .lessonOpen)
      else if s.store.queueNames id then (s, Answer.refused .savesPending)
      else if l.deleting then (s, Answer.refused .deleting)
      else if s.store.deleteWork.isSome then (s, Answer.busy)
      else
        let d : DeleteWork := ⟨id, 0, 0⟩
        let store := { s.store.changeLesson id fun l => { l with deleting := true } with deleteWork := some d }
        (((s.withStore store).continueDelete d).arbitratePort, Answer.accepted [])

/-- LESSON DELETE (R155). -/
def execLessonDelete (tag lesson : Byte) (s : State) : Host.Outcome State Fault Refusal :=
  respond (.lessonDelete tag lesson) s (lessonDeleteStep lesson.toNat)

end Sys2Proof.Machine
end

