-- ==== Sys2Proof/Machine/StoreSaves.lean ====
section
/-! DEFINITION. The flash events of a save and of reclaim (R149 to R152). -/

namespace Sys2Proof.Machine

/-- The rest of a save step's end: the writer begins what it may, and the port's next grant is made (R148, R152,
R154). -/
def State.afterStep (s : State) : State := s.runWriter.arbitratePort

/-- The state with the step in flight ended. -/
def State.endStep (s : State) : State := s.withStore s.store.endStep

/-- SAVE_ERASE_END (R149, R151). -/
def execSaveEraseEnd (success : Bool) (s : State) : Host.Outcome State Fault Refusal :=
  match s.store.port.inFlight with
  | some (.saveErase cell) =>
    let s' := s.endStep
    if success then
      finish (s'.withStore
        (({ s'.store.setCell cell .writing with writer := .program }).ask (.saveProgram cell))).arbitratePort
    else finish (s'.saveStepFailed cell .eraseFail).afterStep
  | _ => ignored s

/-- PROGRAM_END (R149, R151). -/
def execProgramEnd (success : Bool) (s : State) : Host.Outcome State Fault Refusal :=
  match s.store.port.inFlight with
  | some (.saveProgram cell) =>
    let s' := s.endStep
    if success then
      finish (s'.withStore (({ s'.store with writer := .commit }).ask (.saveCommit cell))).arbitratePort
    else finish (s'.saveStepFailed cell .programFail).afterStep
  | _ => ignored s

/-- A page record put into its lesson's list (R150). -/
def Store.addPage (s : Store) (id : Nat) (p : PageRecord) : Store :=
  { s with directory := s.directory.map fun l => if l.id = id then { l with pages := insertPage p l.pages } else l }

/-- The stamp given to the attempt in hand. -/
def Store.attemptStamp (s : Store) : Word := (s.attempt.bind (·.stamp)).getD 0

/-- A commit that succeeded: the page joins its list, the entry leaves the queue, SAVE_DONE (R150). -/
def State.committed (s : State) (cell : Nat) : State :=
  match s.store.queue with
  | [] => s.withStore (s.store.setCell cell .used)
  | e :: _ =>
    let stamp := s.store.attemptStamp
    ((s.withStore ((s.store.setCell cell .used).addPage e.lesson ⟨cell, e.ordinal, stamp⟩)).leaveQueue).raise
      (.saveDone e.lesson e.ordinal cell stamp e.frame e.outputCount)

/-- COMMIT_END (R150, R151). -/
def execCommitEnd (success : Bool) (s : State) : Host.Outcome State Fault Refusal :=
  match s.store.port.inFlight with
  | some (.saveCommit cell) =>
    let s' := s.endStep
    if success then finish (s'.committed cell).afterStep
    else finish (s'.saveStepFailed cell .programFail).afterStep
  | _ => ignored s

/-- RECLAIM_ERASE_END (R152, R153). -/
def execReclaimEraseEnd (success : Bool) (s : State) : Host.Outcome State Fault Refusal :=
  match s.store.port.inFlight with
  | some (.reclaimErase cell) =>
    let store := { s.store.endStep.setCell cell (if success then .erased else .bad) with writer := .idle }
    let s' := s.withStore store
    if success then finish s'.afterStep
    else finish (s'.recordError .store .eraseFail cell).afterStep
  | _ => ignored s

end Sys2Proof.Machine
end

