-- ==== Sys2Proof/Machine/ViewWindows.lean ====
section
/-! DEFINITION. View windows: their requests (R69 to R72), the restore-view write (R74) and the glide of an output
frame start (R61 to R63). -/

namespace Sys2Proof.Machine

/-- A window's record replaced. -/
def State.setWindow (s : State) (i : Fin 4) (w : Window) : State := s.withViews (s.views.set i w)

/-- A window number brought to its window, or the refusal NO_SUCH_WINDOW (R69, R71, R72). -/
def onWindow (number : Byte) (s : State) (k : Fin 4 → State × Answer) : State × Answer :=
  match index4 number with
  | some i => k i
  | none => (s, Answer.refused .noSuchWindow)

/-- The step of VIEW SET (R69). -/
def viewSetStep (number : Byte) (zoom cx cy rate : Half) (s : State) : State × Answer :=
  onWindow number s fun i =>
    let w : Window := { s.views.get i with
      target := zoomInRange zoom.toNat
      cx := columnInRange cx.toNat
      cy := rowInRange cy.toNat
      rate := clamp 0 255 rate.toNat }
    (s.setWindow i w,
      Answer.inForce (w.target == zoom.toNat && w.cx == cx.toNat && w.cy == cy.toNat && w.rate == rate.toNat)
        (windowBytes w))

/-- VIEW SET (R69). -/
def execViewSet (tag number : Byte) (zoom cx cy rate : Half) (s : State) : Host.Outcome State Fault Refusal :=
  respond (.viewSet tag number zoom cx cy rate) s (viewSetStep number zoom cx cy rate)

/-- The step of VIEW NUDGE (R71). -/
def viewNudgeStep (number : Byte) (dx dy : Half) (s : State) : State × Answer :=
  onWindow number s fun i =>
    let v := s.views.get i
    let w : Window := { v with
      cx := nudged 2591 v.cx (offsetInRange dx)
      cy := nudged 1943 v.cy (offsetInRange dy) }
    (s.setWindow i w,
      Answer.inForce (nudgeUnchanged 2591 v.cx dx && nudgeUnchanged 1943 v.cy dy) (windowBytes w))

/-- VIEW NUDGE (R71). -/
def execViewNudge (tag number : Byte) (dx dy : Half) (s : State) : Host.Outcome State Fault Refusal :=
  respond (.viewNudge tag number dx dy) s (viewNudgeStep number dx dy)

/-- The step of VIEW READ (R72). -/
def viewReadStep (number : Byte) (s : State) : State × Answer :=
  onWindow number s fun i =>
    (s, Answer.ok (windowBytes (s.views.get i) ++ [flagByte (s.views.get i).gliding]))

/-- VIEW READ (R72). -/
def execViewRead (tag number : Byte) (s : State) : Host.Outcome State Fault Refusal :=
  respond (.viewRead tag number) s (viewReadStep number)

/-- The restore-view write to window 0 (R74). -/
def State.restoreView (s : State) (zoom cx cy : Nat) : State :=
  s.setWindow 0 { s.views.get 0 with
    target := zoomInRange zoom, cx := columnInRange cx, cy := rowInRange cy }

/-- The windows that a glide step brings to their targets (R63). -/
def reachedWindows (views : Table Window 4) : List (Fin 4) :=
  (List.finRange 4).filter fun i => (views.get i).gliding && !((views.get i).glide.gliding)

/-- The order in which the reached windows raise VIEW_REACHED: which is last is open (notes/assumptions/5.md). -/
def raiseOrder (choice : Nat) (reached : List (Fin 4)) : List (Fin 4) :=
  match reached with
  | [] => []
  | [i] => [i]
  | _ =>
    let k := Config.raisedLast choice % reached.length
    reached.eraseIdx k ++ (reached[k]?).toList

/-- Views' frame-start request: every gliding window takes one step, and VIEW_REACHED is raised for each that
reaches its target (R61 to R63). -/
def State.glideStep (s : State) : State :=
  let reached := reachedWindows s.views
  let s' := s.withViews (s.views.map Window.glide)
  let raised := (raiseOrder s.openChoice reached).foldl
    (fun t i => t.raise (.viewReached i (s'.views.get i).zoom)) s'
  if 1 < reached.length then raised.withOpenChoice (s.openChoice + 1) else raised

end Sys2Proof.Machine
end

