-- ==== Sys2Proof/Machine/StorePages.lean ====
section
/-! DEFINITION. The page requests and the flash events that end them: tombstones (R155, R156), recall (R157, R158)
and export (R159). -/

namespace Sys2Proof.Machine

/-- The checks PAGE DELETE, PAGE RECALL and PAGE READ share, in order: the lesson, its delete, the page (R156, R157,
R159). -/
def Store.findPage (s : Store) (id ordinal : Nat) : Except Reason PageRecord :=
  match s.lesson id with
  | none => .error .noSuchLesson
  | some l =>
    if l.deleting then .error .deleting
    else
      match l.pages.find? (·.ordinal == ordinal) with
      | some p => .ok p
      | none => .error .noSuchPage

/-- A deferring store request by the store state (R134, R169). -/
def whenReadyDeferring (s : State) (k : State × Option Answer) : State × Option Answer :=
  match s.store.state with
  | .mounting | .formatting => (s, some Answer.busy)
  | .unmounted | .fault => (s, some (Answer.refused .notMounted))
  | .ready => k

/-! ### Page delete and tombstones -/

/-- The step of PAGE DELETE: refused at once, or a tombstone asked for and the reply deferred (R156). -/
def pageDeleteStep (tag : Byte) (id ordinal : Nat) (s : State) : State × Option Answer :=
  whenReadyDeferring s <|
    match s.store.findPage id ordinal with
    | .error r => (s, some (Answer.refused r))
    | .ok p => ((s.withStore (s.store.ask (.tombstone id ordinal p.cell (some tag)))).arbitratePort, none)

/-- PAGE DELETE (R156). -/
def execPageDelete (tag lesson ordinal : Byte) (s : State) : Host.Outcome State Fault Refusal :=
  respondOrDefer (.pageDelete tag lesson ordinal) s (pageDeleteStep tag lesson.toNat ordinal.toNat)

/-- A tombstone's effect on its cell and its page list, with PROGRAM_FAIL on failure (R155, R156). -/
def State.tombstoned (s : State) (id ordinal cell : Nat) (success : Bool) : State :=
  let store := (s.store.setCell cell (if success then .dead else .bad)).changeLesson id fun l =>
    { l with pages := l.pages.filter fun p => !(p.ordinal == ordinal && p.cell == cell) }
  if success then s.withStore store else (s.withStore store).recordError .store .programFail cell

/-- The end of a page delete's tombstone: the entry goes if R142 calls for it, and the deferred reply is formed
(R156). -/
def State.endPageDelete (s : State) (id : Nat) (tag : Byte) (success : Bool) : State :=
  let gone := s.store.directory.any fun l => l.id == id && s.store.removable l
  (s.withStore (s.store.prune id)).formReply pageDeleteCode tag
    (Answer.ok [if gone then 1 else 0, flagByte success])

/-- The end of a lesson delete's tombstone: counted, and the delete goes on or ends (R155). -/
def State.endLessonTombstone (s : State) (success : Bool) : State :=
  match s.store.deleteWork with
  | some d =>
    let d' : DeleteWork :=
      ⟨d.lesson, d.tombstoned + (if success then 1 else 0), d.failed + (if success then 0 else 1)⟩
    (s.withStore { s.store with deleteWork := some d' }).continueDelete d'
  | none => s

/-- TOMBSTONE_END (R155, R156). -/
def execTombstoneEnd (success : Bool) (s : State) : Host.Outcome State Fault Refusal :=
  match s.store.port.inFlight with
  | some (.tombstone id ordinal cell replyTag) =>
    let s' := s.endStep.tombstoned id ordinal cell success
    match replyTag with
    | some tag => finish (s'.endPageDelete id tag success).afterStep
    | none => finish (s'.endLessonTombstone success).afterStep
  | _ => ignored s

/-! ### Recall -/

/-- The step of PAGE RECALL, its checks in order (R157). -/
def pageRecallStep (id ordinal : Nat) (restoreView : Bool) (s : State) : State × Answer :=
  whenReady s <|
    match s.store.findPage id ordinal with
    | .error r => (s, Answer.refused r)
    | .ok p =>
      if s.store.recallLoad.isSome then (s, Answer.busy)
      else
        match s.slots.allocateLoading id ordinal with
        | (_, .busy) => (s, Answer.busy)
        | (_, .none) => (s, Answer.refused .noSlot)
        | (slots, .slot i) =>
          let store := { s.store with recallLoad := some ⟨id, ordinal, p.cell, i, restoreView⟩ }
          (((s.withSlots slots).withStore (store.ask (.recallRead p.cell))).arbitratePort,
            Answer.accepted [lowByte i.val])

/-- PAGE RECALL (R157). -/
def execPageRecall (tag lesson ordinal restoreView : Byte) (s : State) : Host.Outcome State Fault Refusal :=
  respond (.pageRecall tag lesson ordinal restoreView) s
    (pageRecallStep lesson.toNat ordinal.toNat (onOff restoreView))

/-- The header of a recalled cell is the one recorded: magic and CRC right, lesson and ordinal those of the load
(R158). -/
def recallMatches (r : RecallLoad) (h : List Byte) : Bool :=
  headerSound h && headerLesson h == r.lesson && headerOrdinal h == r.ordinal

/-- A recall that succeeded: the slot completes with RECALL, the view is restored if so asked, RECALL_DONE (R158). -/
def State.recallDone (s : State) (r : RecallLoad) (c : CellRead) : State :=
  let s1 := (s.withSlots (s.slots.completeLoading r.slot c.image)).withStore { s.store with recallLoad := none }
  let s2 :=
    if r.restoreView then
      s1.restoreView (headerHalf c.header 18) (headerHalf c.header 20) (headerHalf c.header 22)
    else s1
  s2.raise (.recallDone r.lesson r.ordinal r.slot false r.restoreView)

/-- A recall that failed: the slot abandoned, READ_FAIL, RECALL_DONE with status FAILED (R158). -/
def State.recallFailed (s : State) (r : RecallLoad) : State :=
  (((s.withSlots s.slots.abandonLoading).withStore { s.store with recallLoad := none }).recordError .store .readFail
    r.cell).raise (.recallDone r.lesson r.ordinal r.slot true r.restoreView)

/-- RECALL_READ_END (R158). -/
def execRecallReadEnd (read : Option CellRead) (s : State) : Host.Outcome State Fault Refusal :=
  match s.store.port.inFlight, s.store.recallLoad with
  | some (.recallRead _), some r =>
    let s' := s.endStep
    match read with
    | some c =>
      if recallMatches r c.header then finish (s'.recallDone r c).arbitratePort
      else finish (s'.recallFailed r).arbitratePort
    | none => finish (s'.recallFailed r).arbitratePort
  | _, _ => ignored s

/-! ### Export -/

/-- The length an export reads: clamped to 1..1024, then cut at the image end (R159). -/
def exportLength (offset length : Nat) : Nat :=
  min (clamp 1 Config.maxExport length) (Config.imageBytes - offset)

/-- The PAGE READ results (R192). -/
def pageReadBytes (offset : Nat) (data : List Byte) (length : Nat) : List Byte :=
  le32 offset ++ le16 length ++ data

/-- The step of PAGE READ: refused or answered at once, or an export read asked for and the reply deferred (R159). Past
the image end R159 gives the reply no offset and no length, so both are carried as 0 (R192; DEDUCED,
notes/assumptions/15.md). -/
def pageReadStep (tag : Byte) (id ordinal offset length : Nat) (s : State) : State × Option Answer :=
  whenReadyDeferring s <|
    match s.store.findPage id ordinal with
    | .error r => (s, some (Answer.refused r))
    | .ok p =>
      if Config.imageBytes ≤ offset then (s, some (Answer.inForce false (pageReadBytes 0 [] 0)))
      else
        let n := exportLength offset length
        ((s.withStore (s.store.ask (.exportRead tag p.cell offset n (n != length)))).arbitratePort, none)

/-- PAGE READ (R159). -/
def execPageRead (tag lesson ordinal : Byte) (offset : Word) (length : Half) (s : State) :
    Host.Outcome State Fault Refusal :=
  respondOrDefer (.pageRead tag lesson ordinal offset length) s
    (pageReadStep tag lesson.toNat ordinal.toNat offset.toNat length.toNat)

/-- EXPORT_READ_END: the deferred reply with the bytes, or READ_FAILED with a READ_FAIL record (R159). -/
def execExportReadEnd (data : Option (List Byte)) (s : State) : Host.Outcome State Fault Refusal :=
  match s.store.port.inFlight with
  | some (.exportRead tag cell offset length adjusted) =>
    let s' := s.endStep
    match data with
    | some bytes =>
      finish (s'.formReply pageReadCode tag
        (Answer.inForce (!adjusted) (pageReadBytes offset (bytes.take length) length))).arbitratePort
    | none =>
      finish ((s'.recordError .store .readFail cell).formReply pageReadCode tag
        (Answer.refused .readFailed)).arbitratePort
  | _ => ignored s

end Sys2Proof.Machine
end

