-- ==== Sys2Proof/Machine/ProjectorOutput.lean ====
section
/-! DEFINITION. Projector output: frame start and frame end (R99 to R101, R105, R107, R109), and its requests (R97, R98,
R103, R104, R106, R112). -/

namespace Sys2Proof.Machine

/-- The frame being scanned ends or is abandoned: pins released, jobs discarded, latch absent (R101). -/
def State.endScan (s : State) : State :=
  match s.output.latch with
  | some _ =>
    ((s.withSlots s.slots.releasePins).withPipe { s.pipe with jobs := [] }).withOutput { s.output with latch := none }
  | none => s

/-- The staged table copied into the active table, and commit-pending cleared (R104). -/
def Output.copyStaged (o : Output) : Output := { o with active := o.staged, commitPending := false }

/-- Steps 1 and 2 of a frame start: the copy of a pending commit and the frame counter (R99, R100). -/
def Output.startFrame (o : Output) : Output :=
  let o' := if o.commitPending then o.copyStaged else o
  { o' with frameCounter := o.frameCounter + 1 }

/-- The tags a pane's pin request names, in order of preference; none for the test card (R107). -/
def pinRequest (p : Pane) (page : PageState) : List Tag :=
  match p.source with
  | .live => if p.hold && page == .motion then [.settled, .live] else [.live]
  | .settled => [.settled]
  | .freezeA => [.freezeA]
  | .freezeB => [.freezeB]
  | .recalled => [.recalled]
  | .test => []

/-- One pane resolved: its latch and the slot table after its pin request (R100 step 4, R107). -/
def resolvePane (mode : Fin 4) (page : PageState) (slots : Slots) (p : Pane) : Slots × PaneLatch :=
  let clip := clipRect mode p.rect
  if !p.enabled || !clip.shown then (slots, ⟨clip, .nothing⟩)
  else if p.source = .test then (slots, ⟨clip, .testCard⟩)
  else
    match slots.pin (pinRequest p page) with
    | (slots', some i) => (slots', ⟨clip, .slot i⟩)
    | (slots', none) => (slots', ⟨clip, .absent p.absent⟩)

/-- A tag move taken whole, as the command it is (R10, R13, R16, R20, R21). -/
def runMove (m : TagMove) (s : State) : State :=
  match m with
  | .frameEnd => stateAfter (execFrameEnd s) s
  | .recallReadEnd read => stateAfter (execRecallReadEnd read s) s
  | .freeze tag which source => stateAfter (execFreeze tag which source s) s
  | .unfreeze tag which => stateAfter (execUnfreeze tag which s) s

/-- The tag moves taken before the next pane's turn, one after another. -/
def runMoves (moves : List TagMove) (s : State) : State := moves.foldl (fun t m => runMove m t) s

/-- One pane's turn in the whole part: its pin request, then the tag moves taken before the next pane's (R109). -/
def resolveTurn (mode : Fin 4) (page : PageState) (p : Pane) (moves : List TagMove) (s : State) : State × PaneLatch :=
  let (slots, latch) := resolvePane mode page s.slots p
  (runMoves moves (s.withSlots slots), latch)

/-- The four panes resolved in order 0, 1, 2, 3, each pin request a step of its own (R109; notes/assumptions/10.md). -/
def resolvePanes (mode : Fin 4) (page : PageState) (panes : Table Pane 4) (between : Between) (s : State) :
    State × Table PaneLatch 4 :=
  let r0 := resolveTurn mode page (panes.get 0) between.after0 s
  let r1 := resolveTurn mode page (panes.get 1) between.after1 r0.1
  let r2 := resolveTurn mode page (panes.get 2) between.after2 r1.1
  let r3 := resolveTurn mode page (panes.get 3) [] r2.1
  (r3.1, ⟨[r0.2, r1.2, r2.2, r3.2], rfl⟩)

/-- The pane job of a pane that resolved to a slot: its rectangle derived by views, its profile's values copied, its
steps computed (R61, R76, R77, R79). -/
def paneJob (views : Table Window 4) (profiles : Table Profile 4) (n : Fin 4) (p : Pane) (l : PaneLatch) :
    Option PaneJob :=
  match l.shows with
  | .slot i =>
    let rect := (views.get p.window).rectFor l.rect.w l.rect.h
    some ⟨n, i, l.rect.w, l.rect.h, rect, p.profile, profiles.get p.profile, pipeStep rect.w l.rect.w,
      pipeStep rect.h l.rect.h⟩
  | _ => none

/-- The pane jobs of a frame (R77). -/
def paneJobs (views : Table Window 4) (profiles : Table Profile 4) (panes : Table Pane 4)
    (latches : Table PaneLatch 4) : List PaneJob :=
  (List.finRange 4).filterMap fun n => paneJob views profiles n (panes.get n) (latches.get n)

/-- The interval timer's count at a RUN frame start (R100 step 7, R118). -/
def State.countInterval (s : State) : State := s.withCapture s.capture.countFrame

/-- A frame start in RUN from its step 3 onward: the page state and the background are read, then the pins are taken,
the glides and rectangles, the pane jobs, the interval count (R100). DESIGN CHOICE: at the frame start that enters RUN too
the one glide step is taken here, at R100 step 5 after the pins, and not at R99 step 3 before them
(notes/assumptions/16.md). -/
def State.runFrame (s : State) (between : Between) : State :=
  let page := s.watch.page
  let background := s.output.background
  let (resolved, latches) := resolvePanes s.output.mode page s.output.active between s
  let s1 := resolved.withOutput { resolved.output with latch := some ⟨some page, background, latches⟩ }
  let s2 := s1.glideStep
  (s2.withPipe
    { s2.pipe with jobs := paneJobs s2.views s2.pipe.profiles s2.output.active latches }).countInterval

/-- What is taken during the composed frame start at hand: the schedule's front entry, which it uses up (R109;
notes/assumptions/10.md). -/
def State.takeBetween (s : State) : Between × State :=
  match s.schedule.between with
  | [] => (.none, s)
  | b :: rest => (b, s.withSchedule { s.schedule with between := rest })

/-- A composed frame start from its step 3 onward, with what the schedule gives it. -/
def State.runScheduled (s : State) : State :=
  let (between, s') := s.takeBetween
  s'.runFrame between

/-- The latch of a pane that is not composed: its clipped rectangle, showing nothing (R95, R105; DEDUCED,
notes/assumptions/20.md). -/
def idleLatch (mode : Fin 4) (p : Pane) : PaneLatch := ⟨clipRect mode p.rect, .nothing⟩

/-- A frame start in STARTING from its step 3 onward while the starting count is below 3: the glides, the count, and
background alone (R99). The latch holds no page state, and the clipped rectangles of the active panes (R94, R105), which
R99 does not mention (DEDUCED, notes/assumptions/20.md). -/
def State.startingFrame (s : State) : State :=
  let latches := s.output.active.map (idleLatch s.output.mode)
  s.glideStep.withOutput
    { s.output with
      startCount := s.output.startCount + 1
      latch := some ⟨none, s.output.background, latches⟩ }

/-- Entry into RUN at a frame start of STARTING (R99 step 5). R99 step 3's glide is not taken here: this frame start's one
glide step is R100's (notes/assumptions/16.md). -/
def State.enterRun (s : State) : State :=
  (s.withOutput { s.output with state := .run }).raise (.outputState .run s.output.mode s.output.frameCounter)

/-- OUTPUT_FRAME_START (R96, R99, R100). A frame whose end was not given ends first: its frame end lies before the
next frame start (R96; notes/assumptions/9.md). Tag moves can fall between pin requests alone, so a frame start in OFF
and one of STARTING leave the schedule as it is (R99). -/
def execOutputFrameStart (s : State) : Host.Outcome State Fault Refusal :=
  let s' := s.endScan
  let begun := s'.withOutput s'.output.startFrame
  match s.output.state with
  | .off => ignored s
  | .starting =>
    if s.output.startCount < 3 then finish begun.startingFrame else finish begun.enterRun.runScheduled
  | .run => finish begun.runScheduled

/-- OUTPUT_FRAME_END (R101). -/
def execOutputFrameEnd (s : State) : Host.Outcome State Fault Refusal :=
  match s.output.latch with
  | some _ => finish s.endScan
  | none => ignored s

/-- The step of OUTPUT START (R97). -/
def outputStartStep (mode : Byte) (s : State) : State × Answer :=
  match index4 mode with
  | some m =>
    let s' := s.endScan
    (s'.withOutput { s'.output with state := .starting, mode := m, startCount := 0 }, Answer.ok [])
  | none => (s, Answer.refused .noSuchMode)

/-- OUTPUT START (R97). -/
def execOutputStart (tag mode : Byte) (s : State) : Host.Outcome State Fault Refusal :=
  respond (.outputStart tag mode) s (outputStartStep mode)

/-- The step of OUTPUT STOP (R98). -/
def outputStopStep (s : State) : State × Answer :=
  match s.output.state with
  | .off => (s, Answer.ok [])
  | _ =>
    let s1 := s.endScan
    let o := if s1.output.commitPending then s1.output.copyStaged else s1.output
    ((s1.withOutput { o with state := .off, startCount := 0 }).raise
      (.outputState .off s.output.mode s.output.frameCounter), Answer.ok [])

/-- OUTPUT STOP (R98). -/
def execOutputStop (tag : Byte) (s : State) : Host.Outcome State Fault Refusal :=
  respond (.outputStop tag) s outputStopStep

/-- The step of PANE SET: its checks in order, then the record in range replaces the staged one (R103). -/
def paneSetStep (pane enabled : Byte) (x y w h : Half) (source hold window profile absentY absentCb absentCr : Byte)
    (s : State) : State × Answer :=
  match index4 pane with
  | none => (s, Answer.refused .noSuchPane)
  | some n =>
    match paneSource source with
    | none => (s, Answer.refused .noSuchSource)
    | some src =>
      match index4 window with
      | none => (s, Answer.refused .noSuchWindow)
      | some v =>
        match index4 profile with
        | none => (s, Answer.refused .noSuchProfile)
        | some p =>
          let record : Pane :=
            ⟨onOff enabled, paneRect x y w h, src, onOff hold, v, p, ⟨absentY, absentCb, absentCr⟩⟩
          (s.withOutput { s.output with staged := s.output.staged.set n record },
            Answer.inForce (paneUnchanged enabled x y w h hold) (paneBytes record))

/-- PANE SET (R103). -/
def execPaneSet (tag pane enabled : Byte) (x y w h : Half)
    (source hold window profile absentY absentCb absentCr : Byte) (s : State) : Host.Outcome State Fault Refusal :=
  respond (.paneSet tag pane enabled x y w h source hold window profile absentY absentCb absentCr) s
    (paneSetStep pane enabled x y w h source hold window profile absentY absentCb absentCr)

/-- The step of PANE COMMIT (R104). -/
def paneCommitStep (s : State) : State × Answer :=
  match s.output.state with
  | .off => (s.withOutput { s.output with active := s.output.staged }, Answer.ok [])
  | _ => (s.withOutput { s.output with commitPending := true }, Answer.ok [])

/-- PANE COMMIT (R104). -/
def execPaneCommit (tag : Byte) (s : State) : Host.Outcome State Fault Refusal :=
  respond (.paneCommit tag) s paneCommitStep

/-- The step of PANE READ (R106). -/
def paneReadStep (pane : Byte) (s : State) : State × Answer :=
  match index4 pane with
  | some n =>
    (s, Answer.ok (paneBytes (s.output.staged.get n) ++ paneBytes (s.output.active.get n) ++
      [flagByte s.output.commitPending]))
  | none => (s, Answer.refused .noSuchPane)

/-- PANE READ (R106). -/
def execPaneRead (tag pane : Byte) (s : State) : Host.Outcome State Fault Refusal :=
  respond (.paneRead tag pane) s (paneReadStep pane)

/-- The step of BACKGROUND SET (R112). -/
def backgroundSetStep (luma cb cr : Byte) (s : State) : State × Answer :=
  (s.withOutput { s.output with background := ⟨luma, cb, cr⟩ }, Answer.ok [])

/-- BACKGROUND SET (R112). -/
def execBackgroundSet (tag luma cb cr : Byte) (s : State) : Host.Outcome State Fault Refusal :=
  respond (.backgroundSet tag luma cb cr) s (backgroundSetStep luma cb cr)

end Sys2Proof.Machine
end

