-- ==== Sys2Proof/Machine/SystemRequests.lean ====
section
/-! DEFINITION. The link's own requests (R171 to R174) and the two resets (R23, R41, R58, R75, R87, R93, R114, R132,
R160, R174, R175, R188). -/

namespace Sys2Proof.Machine

/-- Every block in its reset state at a rate index; external memory's bytes are not cleared (R23), and the waiting
commands and the count of open choices are the model's own. -/
def State.resetBlocks (s : State) (rate : Fin 4) : State :=
  { State.reset with
    slots := s.slots.afterReset
    link := Link.resetAt rate
    openChoice := s.openChoice
    schedule := s.schedule
    pending := s.pending }

/-- POWER_ON_RESET: every block, the rate index to 3, any frame being sent stopped (R175). -/
def execPowerOnReset (s : State) : Host.Outcome State Fault Refusal := .next (s.resetBlocks 3)

/-- PING (R171). -/
def execPing (tag : Byte) (s : State) : Host.Outcome State Fault Refusal :=
  respond (.ping tag) s fun s => (s, Answer.ok (pingBytes s))

/-- STATUS (R172). -/
def execStatus (tag : Byte) (s : State) : Host.Outcome State Fault Refusal :=
  respond (.status tag) s fun s => (s, Answer.ok (statusBytes s))

/-- The answer of LINK RATE: the index in force after the reply, which takes effect at its last character (R173). -/
def linkRateAnswer (index : Byte) : Answer :=
  ⟨.ofUnchanged (decide (index.toNat ≤ 3)), [lowByte (rateOf index).val], .setRate (rateOf index)⟩

/-- LINK RATE (R173). -/
def execLinkRate (tag index : Byte) (s : State) : Host.Outcome State Fault Refusal :=
  respond (.linkRate tag index) s fun s => (s, linkRateAnswer index)

/-- RESTART: OK; the reset follows the reply's last character (R174). -/
def execRestart (tag : Byte) (s : State) : Host.Outcome State Fault Refusal :=
  respond (.restart tag) s fun s => (s, ⟨.ok, [], .restart⟩)

end Sys2Proof.Machine
end

