-- ==== Sys2Proof/Machine/LinkReceive.lean ====
section
/-! DEFINITION. The message link: characters and frames received (R162 to R165), the hand and the waiting place
(R166), dispatch (R167), and the end of a frame sent (R166, R170, R173, R174). -/

namespace Sys2Proof.Machine

/-- A request handed to the block that owns it (R167 step 3). An event is no request and changes nothing. -/
def runRequest (i : Instr) (s : State) : Host.Outcome State Fault Refusal :=
  match i with
  | .ping t => execPing t s
  | .status t => execStatus t s
  | .linkRate t i => execLinkRate t i s
  | .restart t => execRestart t s
  | .freeze t f o => execFreeze t f o s
  | .unfreeze t f => execUnfreeze t f s
  | .slotList t => execSlotList t s
  | .intakeEnable t => execIntakeEnable t s
  | .intakeDisable t => execIntakeDisable t s
  | .statsRead t => execStatsRead t s
  | .focusAreaSet t x y w h => execFocusAreaSet t x y w h s
  | .watchSet t e m r l q => execWatchSet t e m r l q s
  | .watchRead t => execWatchRead t s
  | .viewSet t w z x y r => execViewSet t w z x y r s
  | .viewNudge t w x y => execViewNudge t w x y s
  | .viewRead t w => execViewRead t w s
  | .profileSet t p g h l => execProfileSet t p g h l s
  | .profileRead t p => execProfileRead t p s
  | .outputStart t m => execOutputStart t m s
  | .outputStop t => execOutputStop t s
  | .paneSet t n e x y w h o k v p a b c => execPaneSet t n e x y w h o k v p a b c s
  | .paneCommit t => execPaneCommit t s
  | .paneRead t n => execPaneRead t n s
  | .backgroundSet t y b r => execBackgroundSet t y b r s
  | .captureSet t m k f h r => execCaptureSet t m k f h r s
  | .captureArm t => execCaptureArm t s
  | .captureNow t => execCaptureNow t s
  | .intervalSet t p q => execIntervalSet t p q s
  | .captureRead t => execCaptureRead t s
  | .storeMount t => execStoreMount t s
  | .storeFormat t => execStoreFormat t s
  | .storeUnmount t => execStoreUnmount t s
  | .storeStatus t => execStoreStatus t s
  | .lessonOpen t title => execLessonOpen t title s
  | .lessonResume t l => execLessonResume t l s
  | .lessonClose t => execLessonClose t s
  | .lessonList t f => execLessonList t f s
  | .lessonPages t l f => execLessonPages t l f s
  | .lessonDelete t l => execLessonDelete t l s
  | .pageDelete t l o => execPageDelete t l o s
  | .pageRecall t l o r => execPageRecall t l o r s
  | .pageRead t l o f n => execPageRead t l o f n s
  | .noticeLevelsSet t a b c d e f g h i j k l m n => execNoticeLevelsSet t a b c d e f g h i j k l m n s
  | .noticeLevelsRead t => execNoticeLevelsRead t s
  | .errorRead t => execErrorRead t s
  | .errorClear t r => execErrorClear t r s
  | .powerOnReset | .frameStart | .lineArrival _ | .frameEnd | .lossTimeout | .outputFrameStart | .outputFrameEnd
  | .intervalExpiry | .keySample _ | .interByteTimeout | .frameCompletion _ | .transmitterFree | .identityReadEnd _
  | .headerReadEnd _ | .formatEraseEnd _ | .saveEraseEnd _ | .programEnd _ | .commitEnd _ | .reclaimEraseEnd _
  | .tombstoneEnd _ | .recallReadEnd _ | .exportReadEnd _ | .characterArrival _ => ignored s

/-- A request taken into the hand and dispatched (R166, R167); the hand is empty when it is called. -/
def State.dispatch (s : State) (r : Request) : Host.Outcome State Fault Refusal :=
  match decodeRequest r with
  | .unknown => finish ((s.takeInHand r).formReply r.code r.tag ⟨.unknownRequest, [], .nothing⟩)
  | .badLength => finish ((s.takeInHand r).formReply r.code r.tag ⟨.badLength, [], .nothing⟩)
  | .command i => runRequest i s

/-- The placement of a request that passed its checks (R166). -/
def State.place (s : State) (r : Request) : Host.Outcome State Fault Refusal :=
  match s.link.hand with
  | none => s.dispatch r
  | some _ => finish (s.keepWaiting r)

/-- The receiver hunting: no partial frame, the timer stopped (R162). -/
def Link.hunting (l : Link) : Link := { l with receiver := .hunt, partialFrame := none, interByteTimer := .stopped }

/-- The bytes of the partial frame received so far. -/
def Link.received (l : Link) : List Byte := l.partialFrame.getD []

/-- The discard of a partial frame of `n` bytes: LINK_FRAMING, and the receiver hunts (R162). -/
def State.discardPartial (s : State) (n : Nat) : State :=
  (s.withLink s.link.hunting).recordError .link .linkFraming n

/-- The payload length a frame announces (R163). -/
def announced (frame : List Byte) : Nat := (half (frame.getD 4 0) (frame.getD 5 0)).toNat

/-- The request a complete frame carries (R190). -/
def frameRequest (frame : List Byte) : Request :=
  ⟨frame.getD 2 0, frame.getD 3 0, (frame.drop 6).take (announced frame)⟩

/-- The frame's CRC is right: over type, code, tag, length and payload (R165 step 1). -/
def frameSound (frame : List Byte) : Bool :=
  let n := announced frame
  crcBytes ((frame.drop 1).take (5 + n)) == (frame.drop (6 + n)).take 2

/-- A frame's completion: the receiver hunts; CRC, type, then placement (R165). -/
def State.completeFrame (s : State) (frame : List Byte) : Host.Outcome State Fault Refusal :=
  let s' := s.withLink s.link.hunting
  if !frameSound frame then finish (s'.recordError .link .linkCrc (frame.getD 2 0).toNat)
  else if frame.getD 1 0 != 0x01 then finish s'
  else s'.place (frameRequest frame)

/-- The state with a longer partial frame in a receiver state; the timer starts again (R162). -/
def State.receiving (s : State) (r : Receiver) (frame : List Byte) : State :=
  s.withLink { s.link with receiver := r, partialFrame := some frame, interByteTimer := .running }

/-- The receiver state a header of six bytes leads to, if its length is at most 1100 (R163). -/
def State.checkLength (s : State) (frame : List Byte) : State :=
  let n := announced frame
  if Config.maxPayload < n then s.discardPartial frame.length
  else if n = 0 then s.receiving .check frame
  else s.receiving .body frame

/-- A good character by the receiver state (R162). -/
def State.goodCharacter (s : State) (b : Byte) : Host.Outcome State Fault Refusal :=
  let frame := s.link.received ++ [b]
  match s.link.receiver with
  | .hunt => if b = Config.startByte then finish (s.receiving .head [b]) else ignored s
  | .head => if frame.length < 6 then finish (s.receiving .head frame) else finish (s.checkLength frame)
  | .body =>
    if frame.length < 6 + announced frame then finish (s.receiving .body frame) else finish (s.receiving .check frame)
  | .check =>
    if frame.length < 8 + announced frame then finish (s.receiving .check frame) else s.completeFrame frame

/-- CHARACTER_ARRIVAL (R162, R163); the second CRC byte completes the frame (R165). -/
def execCharacterArrival (c : Character) (s : State) : Host.Outcome State Fault Refusal :=
  match c with
  | .good b => s.goodCharacter b
  | .faulty =>
    match s.link.receiver with
    | .hunt => ignored s
    | _ => finish (s.discardPartial s.link.received.length)

/-- The partial frame lacks only its second CRC byte (R162). -/
def Link.lacksLastByte (l : Link) : Bool :=
  l.receiver == .check && l.received.length + 1 == 8 + announced l.received

/-- FRAME_COMPLETION: the second CRC byte arrives (R165). Where the frame being received lacks more, or none is being
received, no frame completes and nothing changes (notes/assumptions/2.md). -/
def execFrameCompletion (crcLow : Byte) (s : State) : Host.Outcome State Fault Refusal :=
  if s.link.lacksLastByte then s.completeFrame (s.link.received ++ [crcLow]) else ignored s

/-- INTER_BYTE_TIMEOUT (R164). -/
def execInterByteTimeout (s : State) : Host.Outcome State Fault Refusal :=
  match s.link.partialFrame with
  | some frame => finish (s.discardPartial frame.length)
  | none => ignored s

/-- The rate change that follows LINK RATE's reply (R173). -/
def State.switchRate (s : State) (index : Fin 4) : State :=
  if index = s.link.rateIndex then s
  else
    let s' := s.withLink { s.link with rateIndex := index }
    match s.link.partialFrame with
    | some frame => s'.discardPartial frame.length
    | none => s'

/-- The departure of the answered request: the hand empties and the waiting request moves up and is dispatched
(R166). -/
def State.depart (s : State) : Host.Outcome State Fault Refusal :=
  let emptied := s.withLink { s.link with hand := none, waitingPlace := none }
  match s.link.waitingPlace with
  | some r => emptied.dispatch r
  | none => finish emptied

/-- TRANSMITTER_FREE: the last character of the frame being sent ends (R166, R170, R173, R174). -/
def execTransmitterFree (s : State) : Host.Outcome State Fault Refusal :=
  let freed := s.withLink { s.link with transmitter := .idle }
  match s.link.transmitter with
  | .idle => ignored s
  | .notice _ => finish freed
  | .reply r =>
    match r.after with
    | .nothing => freed.depart
    | .setRate index => (freed.switchRate index).depart
    | .restart => finish (freed.resetBlocks s.link.rateIndex)

end Sys2Proof.Machine
end

