-- ==== Sys2Proof/Machine/Dispatch.lean ====
section
/-! DEFINITION. The effect of every command on everything but the queue: one arm per row of the operation table. -/

namespace Sys2Proof.Machine

def exec (i : Instr) (s : State) : Host.Outcome State Fault Refusal :=
  match i with
  | .powerOnReset => Sys2Proof.Machine.execPowerOnReset s
  | .frameStart => Sys2Proof.Machine.execFrameStart s
  | .lineArrival line => Sys2Proof.Machine.execLineArrival line s
  | .frameEnd => Sys2Proof.Machine.execFrameEnd s
  | .lossTimeout => Sys2Proof.Machine.execLossTimeout s
  | .outputFrameStart => Sys2Proof.Machine.execOutputFrameStart s
  | .outputFrameEnd => Sys2Proof.Machine.execOutputFrameEnd s
  | .intervalExpiry => Sys2Proof.Machine.execIntervalExpiry s
  | .keySample pressed => Sys2Proof.Machine.execKeySample pressed s
  | .interByteTimeout => Sys2Proof.Machine.execInterByteTimeout s
  | .frameCompletion crcLow => Sys2Proof.Machine.execFrameCompletion crcLow s
  | .transmitterFree => Sys2Proof.Machine.execTransmitterFree s
  | .identityReadEnd size => Sys2Proof.Machine.execIdentityReadEnd size s
  | .headerReadEnd header => Sys2Proof.Machine.execHeaderReadEnd header s
  | .formatEraseEnd success => Sys2Proof.Machine.execFormatEraseEnd success s
  | .saveEraseEnd success => Sys2Proof.Machine.execSaveEraseEnd success s
  | .programEnd success => Sys2Proof.Machine.execProgramEnd success s
  | .commitEnd success => Sys2Proof.Machine.execCommitEnd success s
  | .reclaimEraseEnd success => Sys2Proof.Machine.execReclaimEraseEnd success s
  | .tombstoneEnd success => Sys2Proof.Machine.execTombstoneEnd success s
  | .recallReadEnd read => Sys2Proof.Machine.execRecallReadEnd read s
  | .exportReadEnd data => Sys2Proof.Machine.execExportReadEnd data s
  | .ping tag => Sys2Proof.Machine.execPing tag s
  | .status tag => Sys2Proof.Machine.execStatus tag s
  | .linkRate tag rateIndex => Sys2Proof.Machine.execLinkRate tag rateIndex s
  | .restart tag => Sys2Proof.Machine.execRestart tag s
  | .freeze tag which source => Sys2Proof.Machine.execFreeze tag which source s
  | .unfreeze tag which => Sys2Proof.Machine.execUnfreeze tag which s
  | .slotList tag => Sys2Proof.Machine.execSlotList tag s
  | .intakeEnable tag => Sys2Proof.Machine.execIntakeEnable tag s
  | .intakeDisable tag => Sys2Proof.Machine.execIntakeDisable tag s
  | .statsRead tag => Sys2Proof.Machine.execStatsRead tag s
  | .focusAreaSet tag x y w h => Sys2Proof.Machine.execFocusAreaSet tag x y w h s
  | .watchSet tag enable threshold rise length quorum => Sys2Proof.Machine.execWatchSet tag enable threshold rise length quorum s
  | .watchRead tag => Sys2Proof.Machine.execWatchRead tag s
  | .viewSet tag window zoom cx cy rate => Sys2Proof.Machine.execViewSet tag window zoom cx cy rate s
  | .viewNudge tag window dx dy => Sys2Proof.Machine.execViewNudge tag window dx dy s
  | .viewRead tag window => Sys2Proof.Machine.execViewRead tag window s
  | .profileSet tag profile gain threshold limit => Sys2Proof.Machine.execProfileSet tag profile gain threshold limit s
  | .profileRead tag profile => Sys2Proof.Machine.execProfileRead tag profile s
  | .outputStart tag mode => Sys2Proof.Machine.execOutputStart tag mode s
  | .outputStop tag => Sys2Proof.Machine.execOutputStop tag s
  | .paneSet tag pane enabled x y w h source hold window profile absentY absentCb absentCr => Sys2Proof.Machine.execPaneSet tag pane enabled x y w h source hold window profile absentY absentCb absentCr s
  | .paneCommit tag => Sys2Proof.Machine.execPaneCommit tag s
  | .paneRead tag pane => Sys2Proof.Machine.execPaneRead tag pane s
  | .backgroundSet tag luma cb cr => Sys2Proof.Machine.execBackgroundSet tag luma cb cr s
  | .captureSet tag mode mask floor holdoff restart => Sys2Proof.Machine.execCaptureSet tag mode mask floor holdoff restart s
  | .captureArm tag => Sys2Proof.Machine.execCaptureArm tag s
  | .captureNow tag => Sys2Proof.Machine.execCaptureNow tag s
  | .intervalSet tag prescale postscale => Sys2Proof.Machine.execIntervalSet tag prescale postscale s
  | .captureRead tag => Sys2Proof.Machine.execCaptureRead tag s
  | .storeMount tag => Sys2Proof.Machine.execStoreMount tag s
  | .storeFormat tag => Sys2Proof.Machine.execStoreFormat tag s
  | .storeUnmount tag => Sys2Proof.Machine.execStoreUnmount tag s
  | .storeStatus tag => Sys2Proof.Machine.execStoreStatus tag s
  | .lessonOpen tag title => Sys2Proof.Machine.execLessonOpen tag title s
  | .lessonResume tag lesson => Sys2Proof.Machine.execLessonResume tag lesson s
  | .lessonClose tag => Sys2Proof.Machine.execLessonClose tag s
  | .lessonList tag first => Sys2Proof.Machine.execLessonList tag first s
  | .lessonPages tag lesson first => Sys2Proof.Machine.execLessonPages tag lesson first s
  | .lessonDelete tag lesson => Sys2Proof.Machine.execLessonDelete tag lesson s
  | .pageDelete tag lesson ordinal => Sys2Proof.Machine.execPageDelete tag lesson ordinal s
  | .pageRecall tag lesson ordinal restoreView => Sys2Proof.Machine.execPageRecall tag lesson ordinal restoreView s
  | .pageRead tag lesson ordinal offset length => Sys2Proof.Machine.execPageRead tag lesson ordinal offset length s
  | .noticeLevelsSet tag l1 l2 l3 l4 l5 l6 l7 l8 l9 l10 l11 l12 l13 l14 => Sys2Proof.Machine.execNoticeLevelsSet tag l1 l2 l3 l4 l5 l6 l7 l8 l9 l10 l11 l12 l13 l14 s
  | .noticeLevelsRead tag => Sys2Proof.Machine.execNoticeLevelsRead tag s
  | .errorRead tag => Sys2Proof.Machine.execErrorRead tag s
  | .errorClear tag record => Sys2Proof.Machine.execErrorClear tag record s
  | .characterArrival c => Sys2Proof.Machine.execCharacterArrival c s

end Sys2Proof.Machine
end

