-- ==== Sys2Proof/Machine/FlashTraffic.lean ====
section
/-! DEFINITION. What the step in flight does at the flash device over the store port: the reads of a mount, a recall
and an export (R136, R158, R159), the erases from the highest erase block down (R135), and the programs of a header with
its image, of a commit mark and of a tombstone mark (R149, R150, R155, R194). -/

namespace Sys2Proof.Machine

/-- One operation at the flash device. A place is the number of a byte of the flash, from its first byte up (R133). -/
inductive FlashOp where
  | readIdentity
  | read (first length : Nat)
  | eraseBlock (first length : Nat)
  | program (place : Nat) (value : Byte)
  deriving DecidableEq, Repr

/-- The place of a byte of a cell: cell i starts at byte i × 16,777,216 of the flash (R133). -/
def cellPlace (cell offset : Nat) : Nat := cell * Config.cellBytes + offset

/-- The place of a byte of a cell's image, which starts at byte 4096 of the cell (R133). -/
def imagePlace (cell offset : Nat) : Nat := cellPlace cell (Config.imageOffset + offset)

/-- The bytes of a slot's image as the store writer reads them: row by row, top row first, left to right (R9, R24,
R133). -/
def Slot.imageBytes (x : Slot) (slot : Nat) : List Byte :=
  (List.range Config.frameHeight).flatMap fun row =>
    (List.range Config.lineBytes).map fun off => imageByte slot x.image row off

/-- The first bytes of a cell's erase blocks, lowest first. -/
def blockStarts (size : Nat) : List Nat := (List.range (Config.cellBytes / size)).map fun k => k * size

/-- A cell's erase: its blocks from the highest down to the lowest, so the header area is erased last (R135). The size
of a block is open (notes/assumptions/25.md). -/
def eraseOps (cell : Nat) : List FlashOp :=
  (blockStarts Config.eraseBlockBytes).reverse.map fun first => .eraseBlock (cellPlace cell first) Config.eraseBlockBytes

/-- Bytes programmed one after another from a place up. -/
def programOps (first : Nat) (bytes : List Byte) : List FlashOp :=
  bytes.zipIdx.map fun p => .program (first + p.2) p.1

/-- The image that the store writer reads during PROGRAM: that of the slot named by the entry it is writing (R9,
R149). -/
def State.writerImage (s : State) : List Byte :=
  match s.store.queue with
  | e :: _ => (s.slots.get e.slot).imageBytes e.slot.val
  | [] => []

/-- The header bytes of the program in hand (R149). -/
def Store.writerHeader (s : Store) : List Byte := (s.attempt.map (·.header)).getD []

/-- The offset of the commit mark in a cell (R194). -/
def commitMark : Nat := 50

/-- The offset of the tombstone mark in a cell (R194). -/
def tombstoneMark : Nat := 51

/-- What a step does at the flash device while it holds the port; that each area read is one read is the model's choice
(notes/assumptions/25.md). -/
def State.stepOps (s : State) : PortStep → List FlashOp
  | .identityRead => [.readIdentity]
  | .headerRead cell => [.read (cellPlace cell 0) Config.imageOffset]
  | .exportRead _ cell offset length _ => [.read (imagePlace cell offset) length]
  | .recallRead cell =>
    [.read (cellPlace cell 0) Config.imageOffset, .read (imagePlace cell 0) Config.imageBytes]
  | .formatErase cell | .saveErase cell | .reclaimErase cell => eraseOps cell
  | .saveProgram cell =>
    programOps (cellPlace cell 0) s.store.writerHeader ++ programOps (imagePlace cell 0) s.writerImage
  | .saveCommit cell => [.program (cellPlace cell commitMark) 0x00]
  | .tombstone _ _ cell _ => [.program (cellPlace cell tombstoneMark) 0x00]

/-- What the step now holding the store port does at the flash device, in order; nothing while the port is free (R154;
notes/assumptions/12.md). -/
def State.flashOps (s : State) : List FlashOp :=
  match s.store.port.inFlight with
  | some x => s.stepOps x
  | none => []

end Sys2Proof.Machine
end

