-- ==== Sys2Proof/Machine/LinkWire.lean ====
section
/-! DEFINITION. The two wires of the link as levels, high or low: a character's ten bits, the transmit wire while it
idles and while it sends (R161, R175), and the characters that the receiver reads from its line (R161, R162). -/

namespace Sys2Proof.Machine

/-- The level of a stop bit, at which a wire idles: high, since a stop bit that reads low is a fault (R161, R175). -/
def stopLevel : Bool := true

/-- The level of a start bit: low, since a line held low reads as characters (R161; DEDUCED, notes/assumptions/26.md). -/
def startLevel : Bool := false

/-- The ten levels of a character in the order in which they are sent: the start bit, eight data bits, least significant
first, no parity bit, the stop bit (R161). That a data bit of 1 is high is PRESUMED (notes/assumptions/26.md). -/
def characterLevels (b : Byte) : List Bool :=
  startLevel :: (List.range 8).map (fun i => b.getLsbD i) ++ [stopLevel]

/-- Bit times of a character (R161). -/
def characterBits : Nat := 10

/-- The byte of eight data bits, least significant first (R161). -/
def dataByte (bits : List Bool) : Byte :=
  BitVec.ofNat 8 (bits.foldr (fun bit n => (if bit then 1 else 0) + 2 * n) 0)

/-- The character of ten levels that begin with a start bit: a fault if its stop bit reads low (R161). -/
def readCharacter (levels : List Bool) : Character :=
  if levels.getD 9 startLevel = stopLevel then .good (dataByte ((levels.drop 1).take 8)) else .faulty

/-- The characters on a line sampled once a bit time, given the levels of the character that is arriving: a low level on
an idle line begins a character, and its tenth level ends it (R161; notes/assumptions/26.md). -/
def readLine (arriving : List Bool) : List Bool → List Character
  | [] => []
  | level :: rest =>
    match arriving, level with
    | [], true => readLine [] rest
    | _, _ =>
      let levels := arriving ++ [level]
      if levels.length = characterBits then readCharacter levels :: readLine [] rest else readLine levels rest

/-- What the levels of an idle receive line bring the part: an arrival for each character, in their order (R161, R162). -/
def lineArrivals (levels : List Bool) : List Instr := (readLine [] levels).map .characterArrival

/-- The levels of the frame being sent, one per bit time: its bytes' characters with no idle time between them (R161). -/
def Transmitter.levels (t : Transmitter) : List Bool := t.wire.flatMap characterLevels

/-- The level of the part's transmit wire, so many periods of the 48 MHz reference clock after the frame being sent
began: each level lasts for the rate index's divisor, and outside a frame the wire idles at the stop-bit level (R161,
R175). -/
def Link.wireLevel (l : Link) (clock : Nat) : Bool :=
  l.transmitter.levels.getD (clock / Config.rateDivisor l.rateIndex) stopLevel

end Sys2Proof.Machine
end

