-- ==== Sys2Proof/Safety.lean ====
section
/-! DEFINITION. The laws the spec lays down over the whole state, each as a decidable property, and the words the
statements use: the link after an answer, the range an event leaves alone, the images a frame is measured by. -/

namespace Sys2Proof.Machine

/-! ### Slots, pins, queue -/

/-- The five tags of which each is on at most one slot (R4). -/
def singleTags : List Tag := [.live, .settled, .freezeA, .freezeB, .recalled]

/-- Phases, tags and pins agree in every slot (R2): READY exactly when a tag or a pin holds the slot; at most one
slot is FILLING and at most one is LOADING; each of five tags is on at most one slot (R4). -/
abbrev Slots.Law (t : Slots) : Prop :=
  (∀ i : Fin 12, (t.get i).phase = .ready ↔ ((t.get i).tags ≠ TagSet.empty ∨ (t.get i).pins ≠ 0)) ∧
  (∀ i j : Fin 12, (t.get i).phase = .filling → (t.get j).phase = .filling → i = j) ∧
  (∀ i j : Fin 12, (t.get i).phase = .loading → (t.get j).phase = .loading → i = j) ∧
  ∀ tag ∈ singleTags, ∀ i j : Fin 12, (t.get i).carries tag = true → (t.get j).carries tag = true → i = j

/-- The slots shown by the panes of a frame latch, in pane order. -/
def FrameLatch.shownSlots (l : FrameLatch) : List (Fin 4 × Fin 12) :=
  (List.finRange 4).filterMap fun n =>
    match (l.panes.get n).shows with
    | .slot i => some (n, i)
    | _ => none

/-- The panes of the output frame being scanned that resolved to a slot (R5). -/
def State.scannedPanes (s : State) : List (Fin 4 × Fin 12) :=
  match s.output.latch with
  | some l => l.shownSlots
  | none => []

/-- Pin counts and pane jobs are those of the output frame being scanned (R5, R76); only a frame of RUN shows slots
(R5, R95), and no frame is scanned in OFF (R95). -/
abbrev State.PinLaw (s : State) : Prop :=
  (∀ i : Fin 12, (s.slots.get i).pins = s.scannedPanes.countP fun p => p.2 == i) ∧
  s.pipe.jobs.map (fun j => (j.pane, j.slot)) = s.scannedPanes ∧
  (s.output.state ≠ .run → s.scannedPanes = []) ∧
  (s.output.state = .off → s.output.latch = none)

/-- The save queue and the CAPTURE tags agree (R4, R147): at most four entries, no two naming one frame; the slots
carrying CAPTURE are those of the entries, one each, READY and holding the frame the entry names. -/
abbrev State.QueueLaw (s : State) : Prop :=
  s.store.queue.length ≤ Config.queueCapacity ∧
  (s.store.queue.map (·.frame)).Nodup ∧
  (s.store.queue.map (·.slot)).Nodup ∧
  (∀ e ∈ s.store.queue, (s.slots.get e.slot).phase = .ready ∧ (s.slots.get e.slot).origin = some (.sensor e.frame)) ∧
  ∀ i : Fin 12, (s.slots.get i).carries .capture = true ↔ i ∈ s.store.queue.map (·.slot)

/-- The slot holds what its phase and origin say (R3): nothing in FREE; no focus measure while it fills or loads; a
focus measure exactly with a SENSOR origin in READY. -/
abbrev Slot.OriginLaw (x : Slot) : Prop :=
  match x.phase, x.origin with
  | .free, o => o = none ∧ x.focus = none
  | .filling, some (.sensor _) => x.focus = none
  | .loading, some (.store _ _) => x.focus = none
  | .ready, some (.sensor _) => x.focus ≠ none
  | .ready, some (.store _ _) => x.focus = none
  | _, _ => False

/-- The slot that intake fills (R25). -/
def Intake.fillingSlot (i : Intake) : Option (Fin 12) := i.current.bind (·.slot)

/-- The work in hand and the slots it uses agree: the current frame record is present in FILLING and DROPPING, with a
slot in FILLING alone (R25); its slot is the one FILLING slot, with the frame's number as origin (R3); the recall
load's slot is the one LOADING slot, with its page as origin (R133, R157); the loss timer runs in WAITING (R25). -/
abbrev State.WorkLaw (s : State) : Prop :=
  (∀ i : Fin 12, (s.slots.get i).OriginLaw) ∧
  (match s.intake.state, s.intake.current with
    | .filling, some f => f.number = s.intake.counter ∧
        (match f.slot with
          | some i => (s.slots.get i).phase = .filling ∧ (s.slots.get i).origin = some (.sensor f.number)
          | none => False)
    | .dropping, some f => f.number = s.intake.counter ∧ f.slot = none
    | .filling, none | .dropping, none => False
    | _, c => c = none) ∧
  (∀ i : Fin 12, (s.slots.get i).phase = .filling → s.intake.fillingSlot = some i) ∧
  (match s.store.recallLoad with
    | some r => (s.slots.get r.slot).phase = .loading ∧ (s.slots.get r.slot).origin = some (.store r.lesson r.ordinal)
    | none => True) ∧
  (∀ i : Fin 12, (s.slots.get i).phase = .loading → s.store.recallLoad.map (·.slot) = some i) ∧
  (s.intake.lossTimer = .running ↔ s.intake.state = .waiting)

/-! ### Ranges of the other blocks -/

/-- A focus area as R38 leaves it: even values, 64 × 64 at least, wholly inside the frame. -/
abbrev Rect.AreaLaw (a : Rect) : Prop :=
  a.x % 2 = 0 ∧ a.y % 2 = 0 ∧ a.w % 2 = 0 ∧ a.h % 2 = 0 ∧ 64 ≤ a.w ∧ 64 ≤ a.h ∧
    a.x + a.w ≤ Config.frameWidth ∧ a.y + a.h ≤ Config.frameHeight

/-- A slot's numbers (R1): a focus measure of 0..65280, a pin count of 0..4. -/
abbrev Slot.RangeLaw (x : Slot) : Prop := (x.focus.all fun fm => fm ≤ 65280) = true ∧ x.pins ≤ 4

/-- The rows of a tile that lie above line `m` (R35). -/
def tileRowsBelow (k : Fin 192) (m : Nat) : Nat :=
  min m (Config.tileSide * (k.val / Config.tileColumns) + Config.tileSide) -
    Config.tileSide * (k.val / Config.tileColumns)

/-- The running sums of a frame are those of the rows summed so far, every difference and luma at most 255 (R29, R34 to
R36): a row's differences are summed once the row below has arrived. -/
abbrev CurrentFrame.SumLaw (f : CurrentFrame) : Prop :=
  let rows := min f.lines Config.frameHeight
  let focusRows := if f.lines < Config.frameHeight then f.lines - 1 else Config.frameHeight
  f.sums.luma ≤ 255 * (Config.frameWidth * rows) ∧
  (∀ k : Fin 192, f.sums.tiles.get k ≤ 255 * (Config.tileSide * tileRowsBelow k rows)) ∧
  f.sums.focus ≤ 255 * (f.area.w * (min focusRows (f.area.y + f.area.h) - f.area.y))

/-- The statistics record (R37). -/
abbrev Statistics.Law (r : Statistics) : Prop := r.meanLuma ≤ 255 ∧ r.focus ≤ 65280 ∧ r.movingTiles ≤ 192

/-- Intake's areas, its drop counter, its statistics record and the frame arriving (R25, R29, R37, R38). -/
abbrev Intake.Law (i : Intake) : Prop :=
  i.area.AreaLaw ∧ i.drops ≤ 65535 ∧ i.stats.Law ∧
    (match i.current with | some f => f.area.AreaLaw ∧ f.SumLaw | none => True)

/-- A tile's mean (R43): absent, or 0..255. -/
abbrev Tile.MeanLaw (t : Tile) : Prop := (t.mean.all fun m => m ≤ 255) = true

/-- A tile record's counter and state (R43, R46). -/
abbrev Tile.Law (w : WatchSettings) (t : Tile) : Prop :=
  t.counter ≤ w.length ∧ (t.state = .moving → 1 ≤ t.counter) ∧ (t.state = .still → t.counter + 1 ≤ w.length)

/-- The watch's records (R42, R43, R46, R48, R55). -/
abbrev Watch.Law (w : Watch) : Prop :=
  (1 ≤ w.settings.threshold ∧ w.settings.threshold ≤ 63) ∧ (1 ≤ w.settings.rise ∧ w.settings.rise ≤ 15) ∧
  (1 ≤ w.settings.length ∧ w.settings.length ≤ 15) ∧ (1 ≤ w.settings.quorum ∧ w.settings.quorum ≤ 192) ∧
  (∀ t ∈ w.tiles.toList, Tile.Law w.settings t ∧ t.MeanLaw ∧ (t.mean = none ↔ w.meansPresent = false)) ∧
  w.movingTiles = w.tiles.toList.countP (fun t => t.state == .moving) ∧
  (w.page = .off ↔ w.settings.enable = false) ∧ (w.page = .off → w.movingTiles = 0)

/-- A window record (R59, R60). -/
abbrev Window.Law (w : Window) : Prop :=
  (256 ≤ w.zoom ∧ w.zoom ≤ 2048) ∧ (256 ≤ w.target ∧ w.target ≤ 2048) ∧ w.rate ≤ 255 ∧ w.cx ≤ 2591 ∧ w.cy ≤ 1943

/-- A profile, or a pane job's copy of one (R76). -/
abbrev Profile.Law (p : Profile) : Prop := p.gain ≤ 63 ∧ p.threshold ≤ 63 ∧ p.limit ≤ 127

/-- A pane record's rectangle (R102). -/
abbrev Pane.Law (p : Pane) : Prop :=
  p.rect.x % 2 = 0 ∧ p.rect.y % 2 = 0 ∧ p.rect.w % 2 = 0 ∧ p.rect.h % 2 = 0 ∧
    p.rect.x ≤ 65534 ∧ p.rect.y ≤ 65534 ∧ p.rect.w ≤ 65534 ∧ p.rect.h ≤ 65534

/-- Output's tables and its starting count (R94, R102). -/
abbrev Output.Law (o : Output) : Prop :=
  (∀ p ∈ o.staged.toList, p.Law) ∧ (∀ p ∈ o.active.toList, p.Law) ∧ o.startCount ≤ 3

/-- The capture unit (R115, R116, R117, R120). -/
abbrev Capture.Law (c : Capture) : Prop :=
  c.settings.floor ≤ 65280 ∧ c.settings.holdoff ≤ 255 ∧ c.holdoffCounter ≤ c.settings.holdoff ∧
  (c.armed = true → c.settings.mode = .single) ∧
  (1 ≤ c.prescale ∧ c.prescale ≤ 255) ∧ (1 ≤ c.postscale ∧ c.postscale ≤ 16) ∧
  c.frameCount < c.prescale ∧ c.postCount < c.postscale ∧ c.keyCounter ≤ 15 ∧
  (c.keyPressed = true → 1 ≤ c.keyCounter) ∧ (c.keyPressed = false → c.keyCounter ≤ 14)

/-- A notice record of a kind (R176): level 0..7; pending with a count of 1..255 and a payload of the kind, or not
pending with neither. -/
abbrev NoticeRecord.Law (r : NoticeRecord) (k : Fin 14) : Prop :=
  r.level ≤ 7 ∧
  match r.pending, r.payload with
  | true, some p => 1 ≤ r.count ∧ r.count ≤ 255 ∧ p.kind = k
  | false, none => r.count = 0
  | _, _ => False

/-- The error table (R184): at most eight records, no two of one source and kind, counts of 1..255. -/
abbrev ErrorTable.Law (t : ErrorTable) : Prop :=
  t.records.length ≤ Config.errorCapacity ∧ (t.records.map fun e => (e.source, e.kind)).Nodup ∧
    ∀ e ∈ t.records, 1 ≤ e.count ∧ e.count ≤ 255

/-- The receiver and its partial frame (R161 to R163): a partial frame exactly outside HUNT, with the timer; it starts
with the start byte, and its length is one the receiver's state allows. A request waits only behind one in the hand
(R166). -/
abbrev Link.Law (l : Link) : Prop :=
  (match l.receiver, l.partialFrame with
    | .hunt, none => l.interByteTimer = .stopped
    | .hunt, some _ => False
    | _, none => False
    | r, some p =>
      l.interByteTimer = .running ∧ p.head? = some Config.startByte ∧
        match r with
        | .head => p.length < 6
        | .body => 6 ≤ p.length ∧ p.length < 6 + announced p ∧ announced p ≤ Config.maxPayload
        | .check => 6 + announced p ≤ p.length ∧ p.length < 8 + announced p ∧ announced p ≤ Config.maxPayload
        | .hunt => False) ∧
  (l.waitingPlace ≠ none → l.hand ≠ none)

/-- The measures and view a save-queue entry carries (R122, R124). -/
abbrev SaveEntry.RangeLaw (e : SaveEntry) : Prop :=
  e.focus ≤ 65280 ∧ (256 ≤ e.zoom ∧ e.zoom ≤ 2048) ∧ e.cx ≤ 2591 ∧ e.cy ≤ 1943

/-- The values of the slot records, intake with its statistics, the watch, the views, the profiles and pane jobs, output,
capture, the notice records, the error table, the link and the save queue's entries lie in the ranges their rules give.
What the lesson store holds besides is ranged by `Store.Law`. -/
abbrev State.RangeLaw (s : State) : Prop :=
  (∀ i, (s.slots.get i).RangeLaw) ∧ (∀ e ∈ s.store.queue, e.RangeLaw) ∧
  s.intake.Law ∧ s.watch.Law ∧ (∀ w ∈ s.views.toList, w.Law) ∧ (∀ p ∈ s.pipe.profiles.toList, p.Law) ∧
  (∀ j ∈ s.pipe.jobs, j.values.Law) ∧ s.output.Law ∧ s.capture.Law ∧ (∀ k, (s.notices.get k).Law k) ∧
  s.errors.Law ∧ s.link.Law

/-! ### The lesson store -/

/-- The steps of a mount or format hold the port only in MOUNTING and FORMATTING, and never wait (R154). What is known
of the flash by store state (R133, R134, R136, R139). -/
abbrev Store.MediaLaw (s : Store) : Prop :=
  (∀ x ∈ s.port.waiting, x.rank ≠ 0) ∧
  (s.state ≠ .ready → s.directory = [] ∧ s.queue = []) ∧
  match s.state with
  | .unmounted | .fault => s.cellCount = 0 ∧ s.cells = [] ∧ s.port.inFlight.all (fun x => x.rank != 0) = true
  | .ready =>
    s.cells.length = s.cellCount ∧ Config.minCells ≤ s.cellCount ∧ s.cellCount ≤ Config.maxCells ∧ s.scan = [] ∧
      s.port.inFlight.all (fun x => x.rank != 0) = true
  | .mounting =>
    match s.port.inFlight with
    | some .identityRead => s.cellCount = 0 ∧ s.cells = [] ∧ s.scan = []
    | some (.headerRead c) =>
      s.cells.length = c ∧ c < s.cellCount ∧ Config.minCells ≤ s.cellCount ∧ s.cellCount ≤ Config.maxCells
    | _ => False
  | .formatting =>
    match s.port.inFlight with
    | some .identityRead => s.cellCount = 0 ∧ s.cells = []
    | some (.formatErase c) =>
      s.scan = [] ∧ s.cells.length = s.cellCount ∧ c < s.cellCount ∧ Config.minCells ≤ s.cellCount ∧
        s.cellCount ≤ Config.maxCells
    | _ => False

/-- The headers kept by a scan (R137): lesson, ordinal and title in range, one per cell in cell order. -/
abbrev Store.ScanLaw (s : Store) : Prop :=
  (∀ h ∈ s.scan, 1 ≤ h.lesson ∧ h.lesson ≤ 64 ∧ 1 ≤ h.ordinal ∧ h.ordinal ≤ 255 ∧ h.title.length ≤ 24 ∧
    h.cell < s.cells.length) ∧
  (s.scan.map (·.cell)).Pairwise (· < ·)

/-- The ordinals of the save-queue entries that name a lesson. -/
def Store.queuedOrdinals (s : Store) (id : Nat) : List Nat :=
  (s.queue.filter fun e => e.lesson == id).map (·.ordinal)

/-- A lesson entry (R142): its pages rise strictly by ordinal in 1..255, and its next ordinal exceeds every ordinal
saved or queued for it; under delete it is closed and no entry names it (R155). -/
abbrev Store.LessonLaw (s : Store) (l : Lesson) : Prop :=
  1 ≤ l.id ∧ l.id ≤ 64 ∧ l.title.length ≤ 24 ∧ 1 ≤ l.next ∧ l.next ≤ 256 ∧
  (l.pages.map (·.ordinal)).Pairwise (· < ·) ∧
  (∀ p ∈ l.pages, 1 ≤ p.ordinal ∧ p.ordinal ≤ 255 ∧ p.ordinal < l.next ∧ p.ordinal ∉ s.queuedOrdinals l.id) ∧
  (∀ o ∈ s.queuedOrdinals l.id, o < l.next) ∧
  (l.deleting = true → l.isOpen = false ∧ s.queuedOrdinals l.id = [] ∧
    s.deleteWork.map (·.lesson) = some l.id)

/-- The lesson directory and the save queue (R133, R142, R147): ids rise strictly, at most one lesson is open, every
queued entry names a lesson of the directory and an ordinal of its own in 1..255. -/
abbrev Store.DirectoryLaw (s : Store) : Prop :=
  (s.directory.map (·.id)).Pairwise (· < ·) ∧
  (s.directory.filter (·.isOpen)).length ≤ 1 ∧
  (∀ l ∈ s.directory, s.LessonLaw l) ∧
  (∀ e ∈ s.queue, 1 ≤ e.ordinal ∧ e.ordinal ≤ 255 ∧ e.lesson ∈ s.directory.map (·.id)) ∧
  (s.queue.map fun e => (e.lesson, e.ordinal)).Nodup

/-! ### Cells, port, writer, replies -/

/-- The steps of the port: the one in flight, then those waiting (R133, R154). -/
def Port.steps (p : Port) : List PortStep := p.inFlight.toList ++ p.waiting

/-- The cells of the page records of every lesson. -/
def Store.pageCells (s : Store) : List Nat := s.directory.flatMap fun l => l.pages.map (·.cell)

/-- The pages that the port's tombstones name: lesson, ordinal, cell. -/
def Port.tombstones (p : Port) : List (Nat × Nat × Nat) :=
  p.steps.filterMap fun
    | .tombstone lesson ordinal cell _ => some (lesson, ordinal, cell)
    | _ => none

/-- The cell table and the page lists agree (R135). In READY every USED cell stands exactly once in one lesson's page
list and every page's cell is USED; the pages whose tombstones hold or wait for the port are in their lists, none named
twice (R155, R156). During a mount the USED cells are those of the candidates found so far (R137); during a format no
cell is USED, and the cells are erased in index order (R139). -/
abbrev Store.CellLaw (s : Store) : Prop :=
  match s.state with
  | .ready =>
    s.pageCells.Nodup ∧ (∀ c ∈ s.pageCells, s.cells[c]? = some .used) ∧
      (∀ k ∈ List.range s.cells.length, s.cells[k]? = some .used → k ∈ s.pageCells) ∧
      s.port.tombstones.Nodup ∧
      ∀ t ∈ s.port.tombstones, ∃ l ∈ s.directory, l.id = t.1 ∧ ∃ p ∈ l.pages, p.ordinal = t.2.1 ∧ p.cell = t.2.2
  | .mounting =>
    (∀ c ∈ s.cells, c = .erased ∨ c = .used ∨ c = .dead ∨ c = .bad) ∧
      ∀ k ∈ List.range s.cells.length, s.cells[k]? = some .used ↔ ∃ h ∈ s.scan, h.candidate = true ∧ h.cell = k
  | .formatting =>
    match s.port.inFlight with
    | some (.formatErase c) =>
      ∀ k ∈ List.range s.cells.length,
        (k < c → s.cells[k]? = some .erased ∨ s.cells[k]? = some .bad) ∧
          (k = c → s.cells[k]? = some .erasing) ∧ (c < k → s.cells[k]? = some .dead)
    | _ => True
  | .unmounted | .fault => True

/-- The recall reads among the port's steps. -/
def Port.recallReads (p : Port) : List Nat :=
  p.steps.filterMap fun
    | .recallRead c => some c
    | _ => none

/-- The lessons whose delete has its tombstone at the port (R155). -/
def Port.deletes (p : Port) : List Nat :=
  p.steps.filterMap fun
    | .tombstone lesson _ _ none => some lesson
    | _ => none

/-- The lessons whose pages are being deleted by PAGE DELETE (R156). -/
def Port.pageDeletes (p : Port) : List Nat :=
  p.steps.filterMap fun
    | .tombstone lesson _ _ (some _) => some lesson
    | _ => none

/-- The export reads among the port's steps. -/
def Port.exports (p : Port) : Nat :=
  p.steps.countP fun
    | .exportRead .. => true
    | _ => false

/-- The store port (R154): nothing waits at a free port; a recall accepted and a lesson delete in progress have their one
step at the port, and at most one export is there; the lesson under delete is in the directory, and no page of it is
being deleted by a request (R155, R156). Outside READY no step waits and no work is in hand (R136, R139,
R140), and in UNMOUNTED and FAULT the port is free. -/
abbrev Store.PortLaw (s : Store) : Prop :=
  (s.port.inFlight = none → s.port.waiting = []) ∧
  (s.state ≠ .ready →
    s.port.waiting = [] ∧ s.recallLoad = none ∧ s.deleteWork = none ∧ s.writer = .idle ∧ s.attempt = none) ∧
  ((s.state = .unmounted ∨ s.state = .fault) → s.port.inFlight = none) ∧
  s.port.recallReads = (s.recallLoad.map (·.cell)).toList ∧
  s.port.deletes = (s.deleteWork.map (·.lesson)).toList ∧ s.port.exports ≤ 1 ∧
  (∀ d ∈ s.deleteWork.toList, ∃ l ∈ s.directory, l.id = d.lesson ∧ l.deleting = true) ∧
  ∀ l ∈ s.directory, l.deleting = true → l.id ∉ s.port.pageDeletes

/-- The writer's steps at the port: the erases, programs and commits of saves, and the erases of reclaim (R154). -/
def Port.writerSteps (p : Port) : List PortStep := p.steps.filter fun x => x.rank == 4 || x.rank == 5

/-- The cells being erased or written, lowest first. -/
def Store.cellsInHand (s : Store) : List (Nat × CellState) :=
  (s.cells.zipIdx.filter fun p => p.1 == .erasing || p.1 == .writing).map fun p => (p.2, p.1)

/-- An attempt whose program waits has no stamp; once it is granted the attempt holds the stamp it took and the header of
the head entry under that stamp (R149). -/
abbrev Store.ProgramLaw (s : Store) (a : Attempt) : Prop :=
  match s.queue with
  | [] => False
  | e :: _ =>
    if s.port.inFlight = some (.saveProgram a.cell) then
      (a.stamp.any fun n => decide (a.header = programHeader e n (s.titleOf e.lesson))) = true
    else a.stamp = none ∧ a.header = []

/-- The cell that the writer's one step erases for reclaim. -/
def Port.reclaimCell (p : Port) : Option Nat :=
  match p.writerSteps with
  | [.reclaimErase c] => some c
  | _ => none

/-- The writer's state, its attempt record, its one step at the port and the one cell it erases or writes agree (R147,
R154); a save in hand has an entry at the head of the queue; an IDLE writer has nothing to save and nothing to reclaim
(R148, R152); a reclaim erase has an entry queued behind it only while it is in flight (R153). -/
abbrev Store.WriterAgrees (s : Store) : Prop :=
  match s.writer, s.attempt with
  | .idle, none => s.port.writerSteps = [] ∧ s.cellsInHand = [] ∧ s.queue = [] ∧ .dead ∉ s.cells
  | .erase, some a =>
    s.port.writerSteps = [.saveErase a.cell] ∧ s.cellsInHand = [(a.cell, .erasing)] ∧ s.queue ≠ [] ∧
      a.stamp = none ∧ a.header = []
  | .program, some a =>
    s.port.writerSteps = [.saveProgram a.cell] ∧ s.cellsInHand = [(a.cell, .writing)] ∧ s.ProgramLaw a
  | .commit, some a =>
    s.port.writerSteps = [.saveCommit a.cell] ∧ s.cellsInHand = [(a.cell, .writing)] ∧ s.queue ≠ [] ∧ a.stamp ≠ none
  | .reclaim, none =>
    s.port.reclaimCell ≠ none ∧ s.cellsInHand = s.port.reclaimCell.toList.map (fun c => (c, .erasing)) ∧
      (s.queue ≠ [] → s.port.inFlight = s.port.reclaimCell.map .reclaimErase)
  | _, _ => False

/-- The writer in READY (R147): it agrees with its attempt, the port and the cell table, and an attempt has tried one to
three cells (R151). -/
abbrev Store.WriterLaw (s : Store) : Prop :=
  s.state = .ready → s.WriterAgrees ∧ ∀ a ∈ s.attempt.toList, 1 ≤ a.tries ∧ a.tries ≤ Config.maxTries

/-- The deferred replies still to be formed: those of the exports and page deletes at the port (R168, R169). -/
def Port.deferred (p : Port) : Nat :=
  p.steps.countP fun
    | .exportRead .. => true
    | .tombstone _ _ _ replyTag => replyTag.isSome
    | _ => false

/-- The replies of the link: one waiting, one on the wire (R166, R169). -/
def Link.replies (l : Link) : Nat :=
  (if l.waitingReply.isSome then 1 else 0) + (match l.transmitter with | .reply _ => 1 | _ => 0)

/-- A request in the hand has exactly one reply deferred, waiting or being sent, and without one there is none (R166,
R169). -/
abbrev State.AnswerLaw (s : State) : Prop :=
  s.store.port.deferred + s.link.replies = if s.link.hand.isSome then 1 else 0

/-- What the store knows of its flash, its scan and its lessons. -/
abbrev Store.BookLaw (s : Store) : Prop := s.MediaLaw ∧ s.ScanLaw ∧ s.DirectoryLaw

/-- The store's laws together. -/
abbrev Store.Law (s : Store) : Prop := s.BookLaw ∧ s.CellLaw ∧ s.PortLaw ∧ s.WriterLaw

/-- Every law of the whole part. -/
abbrev State.Law (s : State) : Prop :=
  s.slots.Law ∧ s.PinLaw ∧ s.QueueLaw ∧ s.WorkLaw ∧ s.RangeLaw ∧ s.store.Law ∧ s.AnswerLaw

/-! ### Words of the statements -/

/-- No request stands unanswered: the hand is empty and no reply waits (R166, R169). -/
abbrev Link.Free (l : Link) : Prop := l.hand = none ∧ l.waitingReply = none

/-- The command that a tag move taken between two pin requests is (R109). -/
def moveCommand : TagMove → Instr
  | .frameEnd => .frameEnd
  | .recallReadEnd read => .recallReadEnd read
  | .freeze tag which source => .freeze tag which source
  | .unfreeze tag which => .unfreeze tag which

/-- The link once a request stands in the hand and its step's reply is formed: the reply goes out at once on an idle
transmitter, ahead of any notice, and waits otherwise (R166, R169, R170). -/
def Link.answered (l : Link) (request : Request) (status : Status) (results : List Byte)
    (after : AfterReply := .nothing) : Link :=
  match l.transmitter with
  | .idle =>
    { l with
      hand := some request
      transmitter := .reply ⟨request.code, request.tag, status, results, after⟩
      waitingReply := none }
  | _ => { l with hand := some request, waitingReply := some ⟨request.code, request.tag, status, results, after⟩ }

/-- OK where nothing was brought into range, ADJUSTED where something was (R168). -/
def okIf (p : Prop) [Decidable p] : Status := if p then .ok else .adjusted

/-- The command comes from a port or a timer of the part's own: it is no request, brings no character, ends no frame of
the link and is no reset. A FREEZE, an UNFREEZE or a CAPTURE NOW may be taken during it (R109, R124). -/
def isPlainEvent : Instr → Bool
  | .powerOnReset | .transmitterFree | .characterArrival _ | .frameCompletion _ => false
  | i => (encodeRequest i).isNone

/-- The values that only requests and resets write: focus area (R38), watch settings (R55), profiles (R76), staged
layout (R102), background (R112), mode (R94), capture settings (R115), interval values (R118), notice levels (R176),
and the rate index, which changes after LINK RATE's reply (R161, R173). -/
structure HostSettings where
  area : Rect
  watch : WatchSettings
  profiles : Table Profile 4
  staged : Table Pane 4
  background : Colour
  mode : Fin 4
  capture : CaptureSettings
  prescale : Nat
  postscale : Nat
  levels : List Nat
  rateIndex : Fin 4
  deriving DecidableEq, Repr

/-- The host's settings as they stand. -/
def State.settings (s : State) : HostSettings :=
  ⟨s.intake.area, s.watch.settings, s.pipe.profiles, s.output.staged, s.output.background, s.output.mode,
    s.capture.settings, s.capture.prescale, s.capture.postscale, s.notices.toList.map (·.level), s.link.rateIndex⟩

/-- The luma of a pixel of a whole image: column `x` of row `y` (R24). -/
def frameLuma (img : Image) (x y : Nat) : Nat := ((img.getD y []).getD (2 * x + 1) 0).toNat

/-- The part once the output frame being scanned has ended or been abandoned (R19, R101): no pin, no pane job, no
latch, and every READY slot without a tag FREE. Between frames nothing changes. -/
def State.scanEnded (s : State) : State :=
  if s.output.latch = none then s
  else
    { s with
      slots := s.slots.map fun x =>
        if x.pins = 0 then x
        else if x.phase = .ready ∧ x.tags = TagSet.empty then
          { x with pins := 0, phase := .free, origin := none, focus := none }
        else { x with pins := 0 }
      pipe := { s.pipe with jobs := [] }
      output := { s.output with latch := none } }

/-- The store requests other than STORE STATUS (R134). -/
def isStoreRequest : Instr → Bool
  | .storeMount _ | .storeFormat _ | .storeUnmount _ | .lessonOpen .. | .lessonResume .. | .lessonClose _
  | .lessonList .. | .lessonPages .. | .lessonDelete .. | .pageDelete .. | .pageRecall .. | .pageRead .. => true
  | _ => false

/-- The store with nothing known of the flash and its identity read in flight (R136, R139). -/
def Store.identityAsked (s : Store) (state : StoreState) : Store :=
  { s with
    state := state, fault := .none, cellCount := 0, cells := [], directory := [], scan := []
    port := { s.port with inFlight := some .identityRead } }

/-- The commands of a list given one after another. -/
def runAll : List Instr → State → Host.Outcome State Fault Refusal
  | [], s => .next s
  | c :: rest, s =>
    match exec c s with
    | .next t => runAll rest t
    | o => o

end Sys2Proof.Machine
end

