-- ==== Sys2Proof/WellFormed.lean ====
section
/-! DEFINITION. Which terms are commands the ports can deliver: the lengths the ports fix (R24, R133, R159, section
9.8). Every fixed-width operand is well-formed by its type. -/

namespace Sys2Proof

/-- A whole page image: 1944 rows of 5184 bytes (R24, R133). -/
def wholeImage (img : Image) : Bool :=
  img.length == Config.frameHeight && img.all fun row => row.length == Config.lineBytes

/-- A header area as read: at least the 52 bytes of the layout, at most the 4096 of the area (R133). -/
def headerArea (h : List Byte) : Bool := decide (52 ≤ h.length ∧ h.length ≤ Config.imageOffset)

/-- A cell as a recall reads it (R158). -/
def CellRead.wf (c : CellRead) : Bool := headerArea c.header && wholeImage c.image

/-- A tag move as a port or the link can deliver it. -/
def TagMove.wf : TagMove → Bool
  | .recallReadEnd (some c) => c.wf
  | .recallReadEnd none | .frameEnd | .freeze .. | .unfreeze .. => true

/-- Every tag move taken during an output frame start is one the part can be given. -/
def Between.wf (b : Between) : Bool := (b.after0 ++ b.after1 ++ b.after2).all TagMove.wf

/-- Everything scheduled is something the part can be given. -/
def Schedule.wf (x : Schedule) : Bool := x.between.all Between.wf

/-- The command is one the ports can deliver. -/
def Instr.wf : Instr → Bool
  | .headerReadEnd (some h) => headerArea h
  | .recallReadEnd (some c) => c.wf
  | .exportReadEnd (some d) => decide (1 ≤ d.length ∧ d.length ≤ Config.maxExport)
  | .lessonOpen _ title => decide (title.length ≤ 255)
  | .headerReadEnd none | .recallReadEnd none | .exportReadEnd none
  | .powerOnReset | .frameStart | .lineArrival _ | .frameEnd | .lossTimeout | .outputFrameStart | .outputFrameEnd
  | .intervalExpiry | .keySample _ | .interByteTimeout | .frameCompletion _ | .transmitterFree | .identityReadEnd _
  | .formatEraseEnd _ | .saveEraseEnd _ | .programEnd _ | .commitEnd _ | .reclaimEraseEnd _ | .tombstoneEnd _
  | .ping _ | .status _ | .linkRate .. | .restart _ | .freeze .. | .unfreeze .. | .slotList _ | .intakeEnable _
  | .intakeDisable _ | .statsRead _ | .focusAreaSet .. | .watchSet .. | .watchRead _ | .viewSet .. | .viewNudge ..
  | .viewRead .. | .profileSet .. | .profileRead .. | .outputStart .. | .outputStop _ | .paneSet .. | .paneCommit _
  | .paneRead .. | .backgroundSet .. | .captureSet .. | .captureArm _ | .captureNow _ | .intervalSet .. | .captureRead _
  | .storeMount _ | .storeFormat _ | .storeUnmount _ | .storeStatus _ | .lessonResume .. | .lessonClose _
  | .lessonList .. | .lessonPages .. | .lessonDelete .. | .pageDelete .. | .pageRecall .. | .pageRead ..
  | .noticeLevelsSet .. | .noticeLevelsRead _ | .errorRead _ | .errorClear .. | .characterArrival _ => true

end Sys2Proof
end

