-- ==== Sys2Proof/Certificates/Slice0/Obligations.lean ====
section
/-! DEFINITION. The statements offered to the provers. Each docstring names the rules of the spec it formalises and
marks what is the model's own choice. -/

open Sys2Proof Sys2Proof.Machine

/-! ### The queue, the codec, whole-machine rules -/

/-- One step runs the command at the front of the queue on the state with the queue's rest; with nothing waiting the
part idles (the model's own convention, notes/assumptions/1.md). -/
def Obligations.StepRunsFrontCommand : Prop :=
  (∀ (c : Instr) (rest : List Instr) (s : State), s.pending = c :: rest →
    step s = exec c { s with pending := rest }) ∧
  ∀ s : State, s.pending = [] → step s = .next s

/-- Every command answers a next state in every state, and touches no waiting command: no fault, no refusal. For an event
that cannot occur in a state, and for states that no run reaches, this is the model's filling (notes/assumptions/2.md,
notes/assumptions/17.md), and the queue is its own (notes/assumptions/1.md). -/
def Obligations.EveryCommandCompletes : Prop :=
  ∀ (c : Instr) (s : State), ∃ t, exec c s = .next t ∧ t.pending = s.pending

/-- Dispatch reads back every request the host can write, and reads no other bytes as a command (R167, R189, R191,
section 9.8). -/
def Obligations.RequestCodecRoundTrip : Prop :=
  (∀ (i : Instr) (r : Request), i.wf = true → encodeRequest i = some r → decodeRequest r = .command i) ∧
  ∀ (i : Instr) (r : Request), decodeRequest r = .command i → encodeRequest i = some r ∧ i.wf = true

/-- A request that is answered at once with BUSY or REFUSED, no other standing unanswered, has changed nothing but the
link that carries the answer (R168). -/
def Obligations.RefusedRequestChangesNothing : Prop :=
  ∀ (i : Instr) (r : Request) (s t : State) (status : Status) (results : List Byte) (after : AfterReply),
    encodeRequest i = some r → s.link.Free → exec i s = .next t →
    t.link = s.link.answered r status results after → (status = .busy ∨ status = .refused) →
    t = { s with link := s.link.answered r status results }

/-- No event of a port or timer changes what the host has set: areas, thresholds, profiles, the staged layout, the
background, the mode, the capture settings, the interval values, the notice levels and the link rate. -/
def Obligations.PortEventsKeepHostSettings : Prop :=
  ∀ (c : Instr) (s t : State), isPlainEvent c = true → exec c s = .next t → t.settings = s.settings

/-! ### Reset -/

/-- After the reset pin every block holds the value its chapter gives; external memory's bytes are as they were, and so is
what the model holds of the world outside, its queue and its schedule. The transmit wire idles at the stop-bit level,
which is high (R161, R175; notes/assumptions/26.md). That no expiry of the interval timer waits, a count the model adds, is
its choice (notes/assumptions/18.md). -/
def Obligations.PowerOnResetState : Prop :=
  ∀ s : State, ∃ t, exec .powerOnReset s = .next t ∧
    (∀ i, t.slots.get i =
      ⟨.free, none, none, ⟨false, false, false, false, false, false⟩, 0, (s.slots.get i).image⟩) ∧
    t.intake = ⟨.disabled, 0, 0, none, .stopped, ⟨648, 486, 1296, 972⟩, ⟨0, 0, 0, 0, false⟩⟩ ∧
    (t.watch.settings = ⟨true, 6, 4, 8, 6⟩ ∧ t.watch.page = .still ∧ t.watch.meansPresent = false ∧
      t.watch.movingTiles = 0 ∧ ∀ k, t.watch.tiles.get k = ⟨none, 0, .still⟩) ∧
    (∀ v, t.views.get v = ⟨256, 256, 16, 1296, 972⟩) ∧
    (t.pipe.jobs = [] ∧ t.pipe.profiles.toList = [⟨0, 0, 0⟩, ⟨12, 4, 24⟩, ⟨24, 4, 40⟩, ⟨40, 8, 64⟩]) ∧
    (t.output.state = .off ∧ t.output.mode = 0 ∧ t.output.startCount = 0 ∧ t.output.frameCounter = 0 ∧
      t.output.commitPending = false ∧ t.output.background = ⟨0, 128, 128⟩ ∧ t.output.latch = none ∧
      t.output.staged = t.output.active ∧
      t.output.active.toList =
        ⟨true, ⟨0, 0, 1920, 1200⟩, .live, false, 0, 2, ⟨0, 128, 128⟩⟩ ::
          List.replicate 3 ⟨false, ⟨0, 0, 0, 0⟩, .live, false, 0, 2, ⟨0, 128, 128⟩⟩) ∧
    t.capture = ⟨⟨.off, ⟨false, false, false⟩, 0, 30, true⟩, false, 0, 60, 10, 0, 0, 0, false, 0⟩ ∧
    t.store = ⟨.unmounted, 0, .none, [], [], [], .idle, none, 0, none, none, ⟨none, []⟩, []⟩ ∧
    t.link = ⟨3, .hunt, none, .stopped, none, none, none, .idle⟩ ∧
    t.notices.toList = [7, 6, 4, 2, 2, 5, 5, 4, 6, 6, 4, 4, 0, 3].map (fun level => ⟨level, false, none, 0⟩) ∧
    (∀ clock, t.link.wireLevel clock = true) ∧ t.errors = ⟨[], false⟩ ∧ t.schedule = s.schedule ∧ t.pending = s.pending

/-! ### The link -/

/-- The receive line's levels, one a bit time, bring a good character for each byte whose ten levels are sent, idle time
before it or none, and a character fault where the stop bit reads low; a line held low reads as a run of faults, one in
ten bit times (R161; the levels and the sampling are the model's, notes/assumptions/26.md). The receiver takes each
character by its state (R162, R163), and 4 ms of silence ends a partial frame (R164). A timeout without a partial frame
cannot occur and changes nothing (notes/assumptions/2.md). -/
def Obligations.ReceiverTakesCharacters : Prop :=
  (let data (b : Byte) : List Bool :=
      [b.getLsbD 0, b.getLsbD 1, b.getLsbD 2, b.getLsbD 3, b.getLsbD 4, b.getLsbD 5, b.getLsbD 6, b.getLsbD 7]
    let sent (c : Nat × Byte × Bool) : List Bool := List.replicate c.1 true ++ false :: data c.2.1 ++ [c.2.2]
    (∀ cs : List (Nat × Byte × Bool), lineArrivals (cs.flatMap sent) =
      cs.map fun c => .characterArrival (if c.2.2 then .good c.2.1 else .faulty)) ∧
    ∀ n : Nat, lineArrivals (List.replicate n false) = List.replicate (n / 10) (.characterArrival .faulty)) ∧
  ∀ (s : State) (b : Byte) (p : List Byte),
    let receiving (r : Receiver) (frame : List Byte) : State :=
      { s with link := { s.link with receiver := r, partialFrame := some frame, interByteTimer := .running } }
    let discarded (n : Nat) : State :=
      State.recordError
        { s with link := { s.link with receiver := .hunt, partialFrame := none, interByteTimer := .stopped } }
        .link .linkFraming n
    (s.link.receiver = .hunt → exec (.characterArrival .faulty) s = .next s ∧
      exec (.characterArrival (.good b)) s = if b = 0xC3 then .next (receiving .head [b]).transmit else .next s) ∧
    (s.link.receiver ≠ .hunt → s.link.partialFrame = some p →
      exec (.characterArrival .faulty) s = .next (discarded p.length).transmit) ∧
    (s.link.receiver = .head → s.link.partialFrame = some p → p.length < 5 →
      exec (.characterArrival (.good b)) s = .next (receiving .head (p ++ [b])).transmit) ∧
    (∀ b0 b1 b2 b3 b4, s.link.receiver = .head → s.link.partialFrame = some p → p = [b0, b1, b2, b3, b4] →
      exec (.characterArrival (.good b)) s =
        if 1100 < b4.toNat + 256 * b.toNat then .next (discarded 6).transmit
        else if b4.toNat + 256 * b.toNat = 0 then .next (receiving .check (p ++ [b])).transmit
        else .next (receiving .body (p ++ [b])).transmit) ∧
    (s.link.receiver = .body → s.link.partialFrame = some p → 6 ≤ p.length →
      exec (.characterArrival (.good b)) s =
        if p.length + 1 < 6 + announced p then .next (receiving .body (p ++ [b])).transmit
        else .next (receiving .check (p ++ [b])).transmit) ∧
    (s.link.receiver = .check → s.link.partialFrame = some p → 6 ≤ p.length → p.length + 1 < 8 + announced p →
      exec (.characterArrival (.good b)) s = .next (receiving .check (p ++ [b])).transmit) ∧
    (s.link.receiver = .check → s.link.partialFrame = some p → p.length + 1 = 8 + announced p →
      exec (.characterArrival (.good b)) s = exec (.frameCompletion b) s) ∧
    (s.link.partialFrame = some p → exec .interByteTimeout s = .next (discarded p.length).transmit) ∧
    (s.link.partialFrame = none → exec .interByteTimeout s = .next s)

/-- A complete frame is checked for its CRC, then its type, then placed: with the hand empty its request runs, or is
answered UNKNOWN_REQUEST or BAD_LENGTH where it is none of the index; with the hand full it waits, and is lost with
LINK_OVERRUN where the waiting place is full too (R165, R166, R167). So runs the frame that R190 lays out for a request,
at its last byte; and a request command given while another stands unanswered, its reply deferred or not, waits or is
lost likewise, and its block takes no step (R166, R169; notes/assumptions/4.md). -/
def Obligations.FrameCompletionChecks : Prop :=
  (∀ (s : State) (b : Byte) (p : List Byte),
    let n := announced p
    let code := p.getD 2 0
    let tag := p.getD 3 0
    let request : Request := ⟨code, tag, (p.drop 6).take n⟩
    let u : State :=
      { s with link := { s.link with receiver := .hunt, partialFrame := none, interByteTimer := .stopped } }
    s.link.receiver = .check → s.link.partialFrame = some p → p.length + 1 = 8 + n →
    (crcBytes ((p.drop 1).take (5 + n)) ≠ [p.getD (6 + n) 0, b] →
      exec (.frameCompletion b) s = .next (u.recordError .link .linkCrc code.toNat).transmit) ∧
    (crcBytes ((p.drop 1).take (5 + n)) = [p.getD (6 + n) 0, b] →
      (p.getD 1 0 ≠ 0x01 → exec (.frameCompletion b) s = .next u.transmit) ∧
      (p.getD 1 0 = 0x01 →
        (s.link.hand ≠ none → s.link.waitingPlace = none →
          exec (.frameCompletion b) s =
            .next (State.transmit { u with link := { u.link with waitingPlace := some request } })) ∧
        (s.link.hand ≠ none → s.link.waitingPlace ≠ none →
          exec (.frameCompletion b) s = .next (u.recordError .link .linkOverrun code.toNat).transmit) ∧
        (s.link.Free →
          (decodeRequest request = .unknown →
            exec (.frameCompletion b) s = .next { u with link := u.link.answered request .unknownRequest [] }) ∧
          (decodeRequest request = .badLength →
            exec (.frameCompletion b) s = .next { u with link := u.link.answered request .badLength [] }) ∧
          ∀ i, decodeRequest request = .command i → exec (.frameCompletion b) s = exec i u)))) ∧
  (∀ (i : Instr) (r : Request) (s : State) (front : List Byte) (last : Byte), i.wf = true →
    encodeRequest i = some r → requestFrame r = front ++ [last] → s.link.receiver = .check →
    s.link.partialFrame = some front → s.link.Free →
    exec (.frameCompletion last) s =
      exec i { s with link := { s.link with receiver := .hunt, partialFrame := none, interByteTimer := .stopped } }) ∧
  ∀ (i : Instr) (r : Request) (s : State), encodeRequest i = some r → s.link.hand ≠ none →
    (s.link.waitingPlace = none →
      exec i s = .next (State.transmit { s with link := { s.link with waitingPlace := some r } })) ∧
    (s.link.waitingPlace ≠ none → exec i s = .next (s.recordError .link .linkOverrun r.code.toNat).transmit)

/-- When the last character of a frame has gone: after a notice the arbiter chooses again; after a reply the hand
empties and a waiting request moves up and is dispatched (R166, R167, R170). On an idle transmitter the event cannot
occur, and changes nothing (notes/assumptions/2.md). -/
def Obligations.TransmitterFreeMovesOn : Prop :=
  ∀ s : State,
    (s.link.transmitter = .idle → exec .transmitterFree s = .next s) ∧
    (∀ n, s.link.transmitter = .notice n →
      exec .transmitterFree s = .next (State.transmit { s with link := { s.link with transmitter := .idle } })) ∧
    ∀ r : Reply, s.link.transmitter = .reply r → r.after = .nothing → s.link.waitingReply = none →
      let u : State := { s with link := { s.link with transmitter := .idle, hand := none, waitingPlace := none } }
      (s.link.waitingPlace = none → exec .transmitterFree s = .next u.transmit) ∧
      ∀ w : Request, s.link.waitingPlace = some w →
        (decodeRequest w = .unknown →
          exec .transmitterFree s = .next { u with link := u.link.answered w .unknownRequest [] }) ∧
        (decodeRequest w = .badLength →
          exec .transmitterFree s = .next { u with link := u.link.answered w .badLength [] }) ∧
        ∀ i : Instr, decodeRequest w = .command i → exec .transmitterFree s = exec i u

/-- LINK RATE answers with the index in force, and the rate changes after the reply's last character: a partial frame is
then discarded, and a request waiting is dispatched next, whatever it is (R173). RESTART answers OK; when the last
character of that reply has gone, every block is as after the reset pin, but for the rate index, which is kept
(R174). A waiting request is dispatched before the arbiter chooses among the notices of the command (the model's choice,
notes/assumptions/22.md). -/
def Obligations.LinkRateAndRestartFollowTheirReplies : Prop :=
  (∀ (tag b : Byte) (s : State), s.link.Free →
    let k : Fin 4 := if h : b.toNat ≤ 3 then ⟨b.toNat, by omega⟩ else 3
    exec (.linkRate tag b) s =
      .next { s with
        link := s.link.answered ⟨0x03, tag, [b]⟩ (okIf (b.toNat ≤ 3)) [BitVec.ofNat 8 (min b.toNat 3)] (.setRate k) }) ∧
  (∀ (s : State) (r : Reply) (k : Fin 4), s.link.transmitter = .reply r → r.after = .setRate k →
    s.link.waitingReply = none →
    let freed : Link := { s.link with transmitter := .idle, hand := none, waitingPlace := none }
    let hunting : Link :=
      { freed with rateIndex := k, receiver := .hunt, partialFrame := none, interByteTimer := .stopped }
    let switched : State :=
      if k = s.link.rateIndex then { s with link := freed }
      else match s.link.partialFrame with
        | none => { s with link := { freed with rateIndex := k } }
        | some p => State.recordError { s with link := hunting } .link .linkFraming p.length
    (s.link.waitingPlace = none → exec .transmitterFree s = .next switched.transmit) ∧
    ∀ w : Request, s.link.waitingPlace = some w →
      (decodeRequest w = .unknown →
        exec .transmitterFree s = .next { switched with link := switched.link.answered w .unknownRequest [] }) ∧
      (decodeRequest w = .badLength →
        exec .transmitterFree s = .next { switched with link := switched.link.answered w .badLength [] }) ∧
      ∀ i : Instr, decodeRequest w = .command i → exec .transmitterFree s = exec i switched) ∧
  (∀ (tag : Byte) (s : State), s.link.Free →
    exec (.restart tag) s = .next { s with link := s.link.answered ⟨0x04, tag, []⟩ .ok [] .restart }) ∧
  ∀ (s : State) (r : Reply), s.link.transmitter = .reply r → r.after = .restart →
    ∃ u, exec .powerOnReset s = .next u ∧
      exec .transmitterFree s = .next { u with link := { u.link with rateIndex := s.link.rateIndex } }

/-! ### Notices and errors -/

/-- One raise of a kind: the payload replaces the latest, and the count starts at 1 or rises to 255 at most (R177). -/
def Obligations.RaiseCoalesces : Prop :=
  ∀ (s : State) (p : NoticePayload),
    let k := p.kind
    let r := s.notices.get k
    (s.raise p).notices.get k =
        ⟨r.level, true, some p, if r.pending = true then min (r.count + 1) 255 else 1⟩ ∧
      (∀ j, j ≠ k → (s.raise p).notices.get j = s.notices.get j) ∧
      s.raise p = { s with notices := (s.raise p).notices }

/-- The transmit arbiter: a frame on the wire is left alone; a waiting reply goes before any notice; otherwise the
eligible pending kind of highest level, then lowest code, is sent and its record clears; otherwise the transmitter
idles (R170, R178, R179). -/
def Obligations.ArbiterSendsReplyThenHighestNotice : Prop :=
  ∀ s : State,
    (s.link.transmitter ≠ .idle → s.transmit = s) ∧
    (∀ r, s.link.transmitter = .idle → s.link.waitingReply = some r →
      s.transmit = { s with link := { s.link with transmitter := .reply r, waitingReply := none } }) ∧
    (s.link.transmitter = .idle → s.link.waitingReply = none →
      ((∀ k, ¬((s.notices.get k).pending = true ∧ 1 ≤ (s.notices.get k).level)) → s.transmit = s) ∧
      ∀ (k : Fin 14) (p : NoticePayload),
        let r := s.notices.get k
        r.pending = true → 1 ≤ r.level → r.level ≤ 7 → r.payload = some p →
        (∀ j, (s.notices.get j).pending = true → 1 ≤ (s.notices.get j).level →
          (s.notices.get j).level < r.level ∨ ((s.notices.get j).level = r.level ∧ k ≤ j)) →
        s.transmit = { s with
          link := { s.link with transmitter := .notice ⟨r.count, p⟩ }
          notices := s.notices.set k ⟨r.level, false, none, 0⟩ })

/-- The recording of an error (R185): a repeat is counted; a new record is appended while there is room, and the first
of an empty table raises ERROR_PENDING; in a full table the error is lost, and the first loss sets overflow and raises
ERROR_PENDING. -/
def Obligations.ErrorRecordingSteps : Prop :=
  ∀ (s : State) (src : ErrorSource) (k : ErrorKind) (detail : Nat),
    let t := s.errors
    let known := ∃ e ∈ t.records, e.source = src ∧ e.kind = k
    let appended : ErrorTable := ⟨t.records ++ [⟨src, k, detail, 1, s.intake.counter⟩], t.overflow⟩
    (known → s.recordError src k detail = { s with
      errors := ⟨t.records.map fun e =>
        if e.source = src ∧ e.kind = k then { e with count := min (e.count + 1) 255 } else e, t.overflow⟩ }) ∧
    (¬known → t.records.length < 8 →
      (t.records ≠ [] → s.recordError src k detail = { s with errors := appended }) ∧
      (t.records = [] → s.recordError src k detail =
        State.raise { s with errors := appended } (.errorPending 1 t.overflow src k))) ∧
    (¬known → 8 ≤ t.records.length →
      (t.overflow = true → s.recordError src k detail = s) ∧
      (t.overflow = false → s.recordError src k detail =
        State.raise { s with errors := ⟨t.records, true⟩ } (.errorPending t.records.length true src k)))

/-- NOTICE LEVELS SET writes the fourteen levels, each above 7 taken as 7, and no pending flag, payload or count (R182);
ERROR CLEAR removes all records or one, and refuses any other value (R187). -/
def Obligations.NoticeAndErrorSettings : Prop :=
  (∀ (tag l1 l2 l3 l4 l5 l6 l7 l8 l9 l10 l11 l12 l13 l14 : Byte) (s : State), s.link.Free →
    let levels := [l1, l2, l3, l4, l5, l6, l7, l8, l9, l10, l11, l12, l13, l14]
    exec (.noticeLevelsSet tag l1 l2 l3 l4 l5 l6 l7 l8 l9 l10 l11 l12 l13 l14) s = .next { s with
      notices := s.notices.mapIdx fun k r => { r with level := min (levels.getD k.val 0).toNat 7 }
      link := s.link.answered ⟨0x70, tag, levels⟩ (okIf (∀ l ∈ levels, l.toNat ≤ 7))
        (levels.map fun l => BitVec.ofNat 8 (min l.toNat 7)) }) ∧
  ∀ (tag n : Byte) (s : State), s.link.Free →
    let answer := s.link.answered ⟨0x73, tag, [n]⟩
    (n = 255 → exec (.errorClear tag n) s = .next { s with errors := ⟨[], false⟩, link := answer .ok [] }) ∧
    (n.toNat < 255 → n.toNat < s.errors.records.length → exec (.errorClear tag n) s = .next { s with
      errors := ⟨s.errors.records.take n.toNat ++ s.errors.records.drop (n.toNat + 1), s.errors.overflow⟩
      link := answer .ok [] }) ∧
    (n.toNat < 255 → s.errors.records.length ≤ n.toNat →
      exec (.errorClear tag n) s = .next { s with link := answer .refused [19] })

/-! ### The transmit wire -/

/-- The bytes of the frame on the transmit wire: start byte, type, code, tag, length, payload and a CRC over all but the
start byte, as R190 lays them out; a reply echoes code and tag and begins with its status (R168, R189); a notice has tag 0
and carries its count and then its kind's fields (R170, R179, R193); numbers go least significant byte first, the CRC most
significant first (R189). An idle transmitter sends nothing. On the wire each byte is a low start bit, its eight data bits, least
significant first, and a high stop bit, ten bit times with no idle time between bytes, a bit time being the rate index's
divisor of the reference clock; after the frame, and without one, the wire is high (R161, R175). That a start bit is low
and a data bit of 1 high is the model's reading (notes/assumptions/26.md). -/
def Obligations.WireBytes : Prop :=
  let byte (n : Nat) : Byte := BitVec.ofNat 8 n
  let flag (b : Bool) : Byte := if b then 1 else 0
  let num2 (n : Nat) : List Byte := [byte n, byte (n / 256)]
  let num4 (n : Nat) : List Byte := [byte n, byte (n / 256), byte (n / 65536), byte (n / 16777216)]
  let framed (type code tag : Byte) (payload : List Byte) : List Byte :=
    let covered := [type, code, tag] ++ num2 payload.length ++ payload
    0xC3 :: covered ++ [byte ((crc16 covered).toNat / 256), byte (crc16 covered).toNat]
  Transmitter.wire .idle = [] ∧
  (∀ r : Reply, Transmitter.wire (.reply r) =
    framed 0x02 r.code r.tag
      ((match r.status with
        | .ok => 0 | .accepted => 1 | .adjusted => 2 | .busy => 3 | .refused => 4 | .unknownRequest => 5
        | .badLength => 6) :: r.results)) ∧
  (∀ (n : NoticeFrame) (code : Byte) (fields : List Byte),
    (match n.payload with
      | .errorPending records overflow source kind =>
        code = 1 ∧ fields = [byte records, flag overflow, source.code, kind.code]
      | .intakeLost counter => code = 2 ∧ fields = num4 counter.toNat
      | .intakeBack frame => code = 3 ∧ fields = num4 frame.toNat
      | .pageDisturbed frame moving => code = 4 ∧ fields = num4 frame.toNat ++ [byte moving]
      | .pageSettled frame focus => code = 5 ∧ fields = num4 frame.toNat ++ num2 focus
      | .captureTaken source frame slot lesson ordinal merged single =>
        code = 6 ∧ fields = [source.code] ++ num4 frame.toNat ++
          [byte slot.val, byte lesson, byte ordinal, byte ((if merged then 1 else 0) + if single then 2 else 0)]
      | .captureMissed source reason frame => code = 7 ∧ fields = [source.code, reason.code] ++ num4 frame.toNat
      | .saveDone lesson ordinal cell stamp frame count =>
        code = 8 ∧ fields = [byte lesson, byte ordinal] ++ num2 cell ++ num4 stamp.toNat ++ num4 frame.toNat ++
          num4 count.toNat
      | .saveFailed lesson ordinal frame cell =>
        code = 9 ∧ fields = [byte lesson, byte ordinal] ++ num4 frame.toNat ++ num2 cell
      | .storeFull lesson ordinal frame count =>
        code = 10 ∧ fields = [byte lesson, byte ordinal] ++ num4 frame.toNat ++ num4 count.toNat
      | .storeState state cells fault lesson done failed =>
        code = 11 ∧ fields = [state.code] ++ num2 cells ++ [fault.code, byte lesson, byte done, byte failed]
      | .recallDone lesson ordinal slot failed restored =>
        code = 12 ∧ fields = [byte lesson, byte ordinal, byte slot.val, flag failed, flag restored]
      | .viewReached window zoom => code = 13 ∧ fields = byte window.val :: num2 zoom
      | .outputState state mode counter => code = 14 ∧ fields = [state.code, byte mode.val] ++ num4 counter.toNat) →
    Transmitter.wire (.notice n) = framed 0x03 code 0 (byte n.count :: fields)) ∧
  ∀ (l : Link) (clock : Nat),
    let bit := clock / (match l.rateIndex with | 0 => 16 | 1 => 32 | 2 => 128 | 3 => 416)
    (∀ b, l.transmitter.wire[bit / 10]? = some b →
      l.wireLevel clock = if bit % 10 = 0 then false else if bit % 10 = 9 then true else b.getLsbD (bit % 10 - 1)) ∧
    (l.transmitter.wire.length ≤ bit / 10 → l.wireLevel clock = true)

/-! ### Slots -/

/-- FREEZE moves its tag to the slot carrying the source tag and answers with that slot; UNFREEZE takes the tag off. A
slot left READY with no tag and no pin becomes FREE in the same step, and no other slot changes (R8, R20, R21). -/
def Obligations.FreezeAndUnfreezeMoveOneTag : Prop :=
  ∀ (cmd which source : Byte) (s : State), s.link.Free → s.slots.Law →
    let freeze : Tag := if which = 0 then .freezeA else .freezeB
    let from_ : Tag := if source = 0 then .live else .settled
    let lost (x : Slot) : Slot :=
      if x.carries freeze then
        let y : Slot := { x with tags := x.tags.put freeze false }
        if y.tags = ⟨false, false, false, false, false, false⟩ ∧ y.pins = 0 then
          { y with phase := .free, origin := none, focus := none }
        else y
      else x
    let answer := s.link.answered ⟨0x10, cmd, [which, source]⟩
    let answerUn := s.link.answered ⟨0x11, cmd, [which]⟩
    ((which ≠ 0 ∧ which ≠ 1 ∨ source ≠ 0 ∧ source ≠ 1) →
      exec (.freeze cmd which source) s = .next { s with link := answer .refused [1] }) ∧
    ((which = 0 ∨ which = 1) → (source = 0 ∨ source = 1) →
      ((∀ i, (s.slots.get i).carries from_ = false) →
        exec (.freeze cmd which source) s = .next { s with link := answer .refused [2] }) ∧
      ∀ i, (s.slots.get i).carries from_ = true →
        exec (.freeze cmd which source) s = .next { s with
          slots := s.slots.mapIdx fun j x => if j = i then { x with tags := x.tags.put freeze true } else lost x
          link := answer .ok ([BitVec.ofNat 8 i.val] ++ originBytes (s.slots.get i).origin) }) ∧
    (which ≠ 0 → which ≠ 1 →
      exec (.unfreeze cmd which) s = .next { s with link := answerUn .refused [1] }) ∧
    ((which = 0 ∨ which = 1) →
      exec (.unfreeze cmd which) s = .next { s with slots := s.slots.map lost, link := answerUn .ok [] })

/-! ### Requests that report and change nothing -/

/-- PING, STATUS, SLOT LIST, WATCH READ, CAPTURE READ, STORE STATUS, NOTICE LEVELS READ and ERROR READ answer OK with
the bytes of R192, and change nothing but the link (R22, R57, R131, R141, R171, R172, R183, R186); so do PROFILE READ and
PANE READ, which report the records of their table, both records of a pane, and refuse a number above 3 (R89, R106). -/
def Obligations.SnapshotRequestsReport : Prop :=
  (∀ (tag : Byte) (s : State), s.link.Free →
    let byte (n : Nat) : Byte := BitVec.ofNat 8 n
    let flag (b : Bool) : Byte := if b then 1 else 0
    let replies (c : Instr) (code : Byte) (results : List Byte) : Prop :=
      exec c s = .next { s with link := s.link.answered ⟨code, tag, []⟩ .ok results }
    replies (.ping tag) 0x01 ([0x60, 0x52, 1, 12] ++ le16 s.store.cellCount) ∧
    replies (.status tag) 0x02
      (le32 s.intake.counter.toNat ++ le16 s.intake.drops ++
        [s.intake.state.code, s.watch.page.code, byte s.watch.movingTiles, s.output.state.code, byte s.output.mode.val] ++
        le32 s.output.frameCounter.toNat ++
        [flag s.output.commitPending, s.store.state.code, byte s.store.queue.length, s.store.writer.code,
          byte (s.slots.toList.countP fun x => x.phase == .free), byte s.errors.records.length, flag s.errors.overflow]) ∧
    replies (.slotList tag) 0x12
      ([byte (s.slots.toList.countP fun x => x.phase == .free)] ++
        (List.finRange 12).flatMap fun i =>
          let x := s.slots.get i
          [byte i.val, x.phase.code] ++ originBytes x.origin ++ [flag x.focus.isSome] ++ le16 (x.focus.getD 0) ++
            [x.tags.byte, byte x.pins]) ∧
    replies (.watchRead tag) 0x21
      ([flag s.watch.settings.enable, byte s.watch.settings.threshold, byte s.watch.settings.rise,
          byte s.watch.settings.length, byte s.watch.settings.quorum, s.watch.page.code, flag s.watch.meansPresent,
          byte s.watch.movingTiles] ++
        s.watch.tiles.toList.map fun t => byte (t.counter % 16 + if t.state = .moving then 128 else 0)) ∧
    replies (.captureRead tag) 0x4C
      ([s.capture.settings.mode.code, s.capture.settings.mask.byte] ++ le16 s.capture.settings.floor ++
        [byte s.capture.settings.holdoff, flag s.capture.settings.restartInterval, flag s.capture.armed,
          byte s.capture.holdoffCounter, byte s.capture.prescale, byte s.capture.postscale, byte s.capture.frameCount,
          byte s.capture.postCount, byte s.capture.keyCounter, flag s.capture.keyPressed]) ∧
    replies (.storeStatus tag) 0x53
      ([s.store.state.code, s.store.fault.code] ++ le16 s.store.cellCount ++
        ([CellState.erased, .used, .dead, .bad, .erasing, .writing].flatMap fun c =>
          le16 (s.store.cells.countP fun x => x == c)) ++
        [byte s.store.directory.length, byte (((s.store.directory.find? (·.isOpen)).map (·.id)).getD 0),
          byte s.store.queue.length, s.store.writer.code] ++
        le32 s.store.stamp.toNat ++ [byte ((s.store.deleteWork.map (·.lesson)).getD 0)]) ∧
    replies (.noticeLevelsRead tag) 0x71
      (s.notices.toList.flatMap fun r => [byte r.level, flag r.pending, byte r.count]) ∧
    replies (.errorRead tag) 0x72
      ([byte s.errors.records.length, flag s.errors.overflow] ++
        s.errors.records.flatMap fun e =>
          [e.source.code, e.kind.code] ++ le32 e.detail ++ [byte e.count] ++ le32 e.frame.toNat)) ∧
  ∀ (tag n : Byte) (s : State), s.link.Free →
    let record (p : Pane) : List Byte :=
      [if p.enabled then 1 else 0] ++ le16 p.rect.x ++ le16 p.rect.y ++ le16 p.rect.w ++ le16 p.rect.h ++
        [p.source.code, if p.hold then 1 else 0, BitVec.ofNat 8 p.window.val, BitVec.ofNat 8 p.profile.val,
          p.absent.luma, p.absent.cb, p.absent.cr]
    let answerProfile := s.link.answered ⟨0x31, tag, [n]⟩
    let answerPane := s.link.answered ⟨0x3C, tag, [n]⟩
    (4 ≤ n.toNat →
      exec (.profileRead tag n) s = .next { s with link := answerProfile .refused [5] } ∧
      exec (.paneRead tag n) s = .next { s with link := answerPane .refused [7] }) ∧
    ∀ i : Fin 4, n.toNat = i.val →
      let p := s.pipe.profiles.get i
      exec (.profileRead tag n) s = .next { s with
        link := answerProfile .ok [BitVec.ofNat 8 p.gain, BitVec.ofNat 8 p.threshold, BitVec.ofNat 8 p.limit] } ∧
      exec (.paneRead tag n) s = .next { s with
        link := answerPane .ok
          (record (s.output.staged.get i) ++ record (s.output.active.get i) ++
            [if s.output.commitPending then 1 else 0]) }

/-! ### Sensor intake -/

/-- A frame start: ignored in DISABLED; otherwise the counter rises by 1, INTAKE_BACK is raised out of LOST, an
unfinished frame is closed with SHORT_FRAME if it was undamaged and its slot freed, and the lowest FREE slot fills, or
the frame is dropped (R6, R26, R27, R28). The SHORT_FRAME of an unfinished frame is dated with the counter before it
rises: R185 allows that or the number after, and the model takes the first (notes/assumptions/19.md).
The arbiter chooses once, after all raises of the command (the model's choice, notes/assumptions/22.md). -/
def Obligations.FrameStartTakesLowestFreeSlot : Prop :=
  ∀ s : State,
    let n := s.intake.counter + 1
    let closed : State :=
      match s.intake.state, s.intake.current with
      | .lost, _ => s.raise (.intakeBack n)
      | .filling, some f => if f.damaged then s else s.recordError .intake .shortFrame f.lines
      | _, _ => s
    let slots := s.slots.map fun x =>
      if x.phase = .filling then { x with phase := .free, origin := none, focus := none } else x
    let frame (slot : Option (Fin 12)) : CurrentFrame :=
      ⟨n, slot, 0, false, s.intake.area, ⟨0, Table.fill 192 0, 0⟩⟩
    (s.intake.state = .disabled → exec .frameStart s = .next s) ∧
    (s.intake.state ≠ .disabled →
      (∀ i, (slots.get i).phase = .free → (∀ j < i, (slots.get j).phase ≠ .free) →
        exec .frameStart s = .next (State.transmit { closed with
          slots := slots.set i
            { slots.get i with phase := .filling, origin := some (.sensor n), focus := none }
          intake := { s.intake with
            state := .filling, counter := n, lossTimer := .stopped, current := some (frame (some i)) } })) ∧
      ((∀ i, (slots.get i).phase ≠ .free) →
        exec .frameStart s = .next (State.transmit (State.recordError { closed with
          slots := slots
          intake := { s.intake with
            state := .dropping, counter := n, lossTimer := .stopped, current := some (frame none)
            drops := min (s.intake.drops + 1) 65535 } } .intake .frameDropped n.toNat))))

/-- A line: ignored outside FILLING; counted in FILLING; the first of a wrong length damages the frame with
LINE_LENGTH; a whole line of an undamaged frame, with index below 1944, is written at its row and summed (R26, R29). -/
def Obligations.LineArrivalCountsChecksWrites : Prop :=
  ∀ (line : List Byte) (s : State),
    (s.intake.state ≠ .filling → exec (.lineArrival line) s = .next s) ∧
    ∀ f : CurrentFrame, s.intake.state = .filling → s.intake.current = some f →
      let counted : CurrentFrame := { f with lines := f.lines + 1 }
      let holding (g : CurrentFrame) : State := { s with intake := { s.intake with current := some g } }
      (line.length ≠ 5184 → f.damaged = false → exec (.lineArrival line) s =
        .next ((holding { counted with damaged := true }).recordError .intake .lineLength f.lines).transmit) ∧
      (f.damaged = true ∨ (line.length = 5184 ∧ 1944 ≤ f.lines) →
        exec (.lineArrival line) s = .next (holding counted).transmit) ∧
      ∀ i : Fin 12, f.slot = some i → line.length = 5184 → f.damaged = false → f.lines < 1944 →
        let image := Image.writeRow (s.slots.get i).image f.lines line
        exec (.lineArrival line) s = .next (State.transmit
          { holding { counted with sums := f.sums.addLine f.area (imageLuma i.val image) f.lines line } with
            slots := s.slots.set i { s.slots.get i with image := image } })

/-- A good frame end: the slot is completed and LIVE moves to it; a capture begun before it, as the schedule has
it, then takes its joint step (R124; its place among these steps, and the schedule, are the model's,
notes/assumptions/7.md); the holdoff counts, the watch takes the sample, its event takes effect, and the statistics record is written with the watch's answer. A settle moves
SETTLED to the lowest READY slot that holds the frame, and a slot that is left with nothing to hold it becomes FREE
(R8, R10, R12, R13, R30, R31, R51, R52). The arbiter chooses once, after all raises of the command, so a capture's notice
can begin ahead of PAGE_SETTLED (the model's choice, notes/assumptions/22.md). -/
def Obligations.GoodFrameEndHandsOn : Prop :=
  ∀ (s : State) (f : CurrentFrame) (i : Fin 12), s.intake.state = .filling → s.intake.current = some f →
    f.slot = some i → f.damaged = false → f.lines = 1944 →
    let fm := f.sums.focus * 256 / (f.area.w * f.area.h)
    let means := f.sums.tiles.map (· / 26244)
    let w := (s.watch.sample means).1
    let event := (s.watch.sample means).2
    let answer := if w.page = .off then 0 else w.movingTiles
    let lost (tag : Tag) (x : Slot) : Slot :=
      if x.carries tag then
        let y : Slot := { x with tags := x.tags.put tag false }
        if y.phase = .ready ∧ y.tags = ⟨false, false, false, false, false, false⟩ ∧ y.pins = 0 then
          { y with phase := .free, origin := none, focus := none }
        else y
      else x
    let completed (u : State) : State :=
      { u with
        slots := u.slots.mapIdx fun j x =>
          if j = i then { x with phase := .ready, focus := some fm, tags := x.tags.put .live true } else lost .live x
        intake := { s.intake with state := .waiting, current := none, lossTimer := .running } }
    let left (rest : List (Option EarlyCapture)) : State :=
      { s with schedule := { s.schedule with overtaken := rest } }
    ∀ v : State,
      ((s.schedule.overtaken = [] ∧ v = completed s) ∨
        (∃ rest, s.schedule.overtaken = none :: rest ∧ v = completed (left rest)) ∨
        ∃ e rest, s.schedule.overtaken = some e :: rest ∧
          v = (completed ((left rest).beginEarly e).1).endCapture ((left rest).beginEarly e).2) →
      let sampled : State :=
        { v with
          intake := { v.intake with stats := ⟨f.number, f.sums.luma / 5038848, fm, answer, true⟩ }
          capture := { v.capture with holdoffCounter := v.capture.holdoffCounter - 1 }
          watch := w }
      let holds (k : Fin 12) : Prop :=
        (v.slots.get k).phase = .ready ∧ (v.slots.get k).origin = some (.sensor f.number)
      let settled (slots : Slots) : State :=
        (State.raise { sampled with slots := slots } (.pageSettled f.number fm)).trigger .settle (some (f.number, fm))
      (event = none → exec .frameEnd s = .next sampled.transmit) ∧
      (∀ count, event = some (.disturb count) →
        exec .frameEnd s = .next (sampled.raise (.pageDisturbed f.number count)).transmit) ∧
      (event = some .settle →
        ((∀ k, ¬holds k) → exec .frameEnd s = .next (settled v.slots).transmit) ∧
        ∀ k, holds k → (∀ j < k, ¬holds j) →
          exec .frameEnd s = .next (settled (v.slots.mapIdx fun j x =>
            if j = k then { x with tags := x.tags.put .settled true } else lost .settled x)).transmit)

/-- Every other frame end, and the loss of signal: a damaged frame is abandoned with the error of R30 if none was
recorded; a dropped frame just ends; elsewhere a frame end is ignored (R26, R30, R32); none of these overtakes a scheduled
capture (notes/assumptions/7.md); 250 ms in WAITING raise INTAKE_LOST (R33). In other states
the loss timer does not run, and the command changes nothing (notes/assumptions/2.md). The arbiter chooses once, after all
raises of the command (the model's choice, notes/assumptions/22.md). -/
def Obligations.DamagedDroppedAndLostFrames : Prop :=
  ∀ s : State,
    let ended : Intake := { s.intake with state := .waiting, current := none, lossTimer := .running }
    (∀ f, s.intake.state = .filling → s.intake.current = some f → f.damaged = true ∨ f.lines ≠ 1944 →
      let reported :=
        if f.damaged then s
        else if f.lines < 1944 then s.recordError .intake .shortFrame f.lines
        else s.recordError .intake .longFrame f.lines
      exec .frameEnd s = .next (State.transmit { reported with
        slots := s.slots.map fun x =>
          if x.phase = .filling then { x with phase := .free, origin := none, focus := none } else x
        intake := ended })) ∧
    (s.intake.state = .dropping → exec .frameEnd s = .next (State.transmit { s with intake := ended })) ∧
    (s.intake.state ≠ .filling → s.intake.state ≠ .dropping → exec .frameEnd s = .next s) ∧
    (s.intake.state = .waiting → exec .lossTimeout s = .next (State.transmit
      (State.raise { s with intake := { s.intake with state := .lost, lossTimer := .stopped } }
        (.intakeLost s.intake.counter)))) ∧
    (s.intake.state ≠ .waiting → exec .lossTimeout s = .next s)

/-- The 1944 lines of a whole frame, given one after another to a frame just begun, leave the slot holding exactly that
frame, and the running sums equal to the frame's measurements as R34 to R36 define them over the whole picture: the luma
of every pixel, of each tile of 162 × 162, and the sum of |Y − blur| over the focus area, with the frame's edge pixels
repeated outward. -/
def Obligations.WholeFrameIsMeasured : Prop :=
  ∀ (s : State) (f : CurrentFrame) (i : Fin 12) (img : Image), wholeImage img = true →
    s.intake.state = .filling → s.intake.current = some f → f.slot = some i → f.lines = 0 → f.damaged = false →
    f.sums = ⟨0, Table.fill 192 0, 0⟩ → f.area.x + f.area.w ≤ 2592 → f.area.y + f.area.h ≤ 1944 →
    let luma := frameLuma img
    let at_ (x y : Int) : Int := luma (min (max x 0) 2591).toNat (min (max y 0) 1943).toNat
    let blur (x y : Int) : Int :=
      (at_ (x - 1) (y - 1) + 2 * at_ x (y - 1) + at_ (x + 1) (y - 1) + 2 * at_ (x - 1) y + 4 * at_ x y +
        2 * at_ (x + 1) y + at_ (x - 1) (y + 1) + 2 * at_ x (y + 1) + at_ (x + 1) (y + 1) + 8) / 16
    ∃ t, runAll (img.map .lineArrival) s = .next t ∧ (t.slots.get i).image.take 1944 = img ∧
      ∃ g, t.intake.current = some g ∧ g.lines = 1944 ∧ g.damaged = false ∧
        g.sums.luma = ∑ y ∈ Finset.range 1944, ∑ x ∈ Finset.range 2592, luma x y ∧
        (∀ k : Fin 192, g.sums.tiles.get k =
          ∑ y ∈ Finset.range 162, ∑ x ∈ Finset.range 162, luma (162 * (k.val % 16) + x) (162 * (k.val / 16) + y)) ∧
        (g.sums.focus : Int) =
          ∑ y ∈ Finset.range f.area.h, ∑ x ∈ Finset.range f.area.w,
            |at_ (f.area.x + x) (f.area.y + y) - blur (f.area.x + x) (f.area.y + y)|

/-! ### Page watch -/

/-- A tile's sample moves its counter and its state follows the counter's ends (R45, R46): MOVING at a difference of
M or more; the counter stays in 0..L, at least 1 while MOVING and at most L − 1 while STILL. -/
def Obligations.TileCounterFollowsSamples : Prop :=
  ∀ (w : WatchSettings) (t : Tile) (previous new : Nat), 1 ≤ w.rise → 1 ≤ w.length → t.mean = some previous →
    Tile.Law w t →
    let moving := (w.threshold : Int) ≤ |(new : Int) - previous|
    let u := t.judged w new
    u.mean = some new ∧
    (moving → u.counter = min (t.counter + w.rise) w.length) ∧
    (¬moving → u.counter = max (t.counter - 1) 0) ∧
    (u.counter = w.length → u.state = .moving) ∧
    (u.counter = 0 → u.state = .still) ∧
    (1 ≤ u.counter → u.counter ≤ w.length - 1 → u.state = t.state) ∧
    (w.length = 1 → (moving → u.counter = 1 ∧ u.state = .moving) ∧ (¬moving → u.counter = 0 ∧ u.state = .still)) ∧
    u.counter ≤ w.length ∧ (u.state = .moving → 1 ≤ u.counter) ∧ (u.state = .still → u.counter ≤ w.length - 1)

/-- A sample: ignored in OFF; without means it primes; otherwise every tile is judged, the MOVING tiles counted, and the
page disturbed at Q tiles or settled at none (R44, R47, R49, R50). -/
def Obligations.SampleMovesThePage : Prop :=
  ∀ (w : Watch) (means : Table Nat 192),
    let tiles := w.tiles.mapIdx fun k t => t.judged w.settings (means.get k)
    let count := tiles.toList.countP fun t => t.state == .moving
    (w.page = .off → w.sample means = (w, none)) ∧
    (w.page ≠ .off → w.meansPresent = false → w.sample means =
      ({ w with tiles := w.tiles.mapIdx fun k t => { t with mean := some (means.get k) }, meansPresent := true }, none)) ∧
    (w.meansPresent = true → w.page = .still → w.sample means =
      if w.settings.quorum ≤ count then
        ({ w with tiles := tiles, movingTiles := count, page := .motion }, some (.disturb count))
      else ({ w with tiles := tiles, movingTiles := count }, none)) ∧
    (w.meansPresent = true → w.page = .motion → w.sample means =
      if count = 0 then ({ w with tiles := tiles, movingTiles := count, page := .still }, some .settle)
      else ({ w with tiles := tiles, movingTiles := count }, none))

/-! ### Settings requests -/

/-- The settings requests bring each number into its range, write it, answer OK or ADJUSTED with the values in force, and
change nothing else: WATCH SET, which restarts the watch; PROFILE SET; INTERVAL SET, which clears both counts; BACKGROUND
SET, its colour as sent (R55, R56, R88, R112, R119, R130); FOCUS AREA SET, each value even, then the size, then the position
fitting the frame (R38); VIEW SET, which leaves the current zoom, and VIEW NUDGE, the centre alone, with VIEW READ
(R69, R71, R72). INTAKE ENABLE leaves DISABLED for WAITING and elsewhere changes nothing (R39); INTAKE DISABLE enters
DISABLED and gives back the slot being filled; STATS READ reports the record and the focus area, and then clears fresh
(R40). -/
def Obligations.SettingsBroughtIntoRange : Prop :=
  (∀ (tag e m r l q : Byte) (s : State), s.link.Free →
    let m' := max 1 (min m.toNat 63)
    let r' := max 1 (min r.toNat 15)
    let l' := max 1 (min l.toNat 15)
    let q' := max 1 (min q.toNat 192)
    exec (.watchSet tag e m r l q) s = .next { s with
      watch := ⟨Table.fill 192 ⟨none, 0, .still⟩, false, if e = 0 then .off else .still, 0,
        ⟨decide (e ≠ 0), m', r', l', q'⟩⟩
      link := s.link.answered ⟨0x20, tag, [e, m, r, l, q]⟩
        (okIf (e.toNat ≤ 1 ∧ m' = m.toNat ∧ r' = r.toNat ∧ l' = l.toNat ∧ q' = q.toNat))
        [if e = 0 then 0 else 1, BitVec.ofNat 8 m', BitVec.ofNat 8 r', BitVec.ofNat 8 l', BitVec.ofNat 8 q'] }) ∧
  (∀ (tag n g t l : Byte) (s : State), s.link.Free →
    let g' := min g.toNat 63
    let t' := min t.toNat 63
    let l' := min l.toNat 127
    let answer := s.link.answered ⟨0x30, tag, [n, g, t, l]⟩
    (∀ i : Fin 4, n.toNat = i.val → exec (.profileSet tag n g t l) s = .next { s with
      pipe := { s.pipe with profiles := s.pipe.profiles.set i ⟨g', t', l'⟩ }
      link := answer (okIf (g' = g.toNat ∧ t' = t.toNat ∧ l' = l.toNat))
        [n, BitVec.ofNat 8 g', BitVec.ofNat 8 t', BitVec.ofNat 8 l'] }) ∧
    (4 ≤ n.toNat → exec (.profileSet tag n g t l) s = .next { s with link := answer .refused [5] })) ∧
  (∀ (tag p q : Byte) (s : State), s.link.Free →
    let p' := max 1 p.toNat
    let q' := max 1 (min q.toNat 16)
    exec (.intervalSet tag p q) s = .next { s with
      capture := { s.capture with prescale := p', postscale := q', frameCount := 0, postCount := 0 }
      link := s.link.answered ⟨0x4B, tag, [p, q]⟩ (okIf (p' = p.toNat ∧ q' = q.toNat))
        ([BitVec.ofNat 8 p', BitVec.ofNat 8 q'] ++ le16 (p' * q')) }) ∧
  (∀ (tag y cb cr : Byte) (s : State), s.link.Free →
    exec (.backgroundSet tag y cb cr) s = .next { s with
      output := { s.output with background := ⟨y, cb, cr⟩ }
      link := s.link.answered ⟨0x3D, tag, [y, cb, cr]⟩ .ok [] }) ∧
  (∀ (tag : Byte) (s : State), s.link.Free →
    let answerOn := s.link.answered ⟨0x18, tag, []⟩ .ok []
    let answerOff := s.link.answered ⟨0x19, tag, []⟩ .ok []
    let off : Intake := { s.intake with state := .disabled, current := none, lossTimer := .stopped }
    (s.intake.state = .disabled → exec (.intakeEnable tag) s = .next { s with
      intake := { s.intake with state := .waiting, lossTimer := .running }, link := answerOn }) ∧
    (s.intake.state ≠ .disabled → exec (.intakeEnable tag) s = .next { s with link := answerOn }) ∧
    (s.intake.state = .filling → exec (.intakeDisable tag) s = .next { s with
      slots := s.slots.map fun x =>
        if x.phase = .filling then { x with phase := .free, origin := none, focus := none } else x
      intake := off
      link := answerOff }) ∧
    (s.intake.state ≠ .filling → exec (.intakeDisable tag) s = .next { s with intake := off, link := answerOff })) ∧
  (∀ (tag : Byte) (s : State), s.link.Free →
    let r := s.intake.stats
    let a := s.intake.area
    exec (.statsRead tag) s = .next { s with
      intake := { s.intake with stats := { r with fresh := false } }
      link := s.link.answered ⟨0x1A, tag, []⟩ .ok
        (le32 r.frame.toNat ++ [BitVec.ofNat 8 r.meanLuma] ++ le16 r.focus ++
          [BitVec.ofNat 8 r.movingTiles, if r.fresh then 1 else 0] ++ le16 a.x ++ le16 a.y ++ le16 a.w ++ le16 a.h) }) ∧
  (∀ (tag : Byte) (x y w h : Half) (s : State), s.link.Free →
    let w' := max 64 (min (2 * (w.toNat / 2)) 2592)
    let h' := max 64 (min (2 * (h.toNat / 2)) 1944)
    let x' := min (2 * (x.toNat / 2)) (2592 - w')
    let y' := min (2 * (y.toNat / 2)) (1944 - h')
    exec (.focusAreaSet tag x y w h) s = .next { s with
      intake := { s.intake with area := ⟨x', y', w', h'⟩ }
      link := s.link.answered ⟨0x1B, tag, halfBytes x ++ halfBytes y ++ halfBytes w ++ halfBytes h⟩
        (okIf (x' = x.toNat ∧ y' = y.toNat ∧ w' = w.toNat ∧ h' = h.toNat))
        (le16 x' ++ le16 y' ++ le16 w' ++ le16 h') }) ∧
  ∀ (tag n : Byte) (z x y r : Half) (s : State), s.link.Free →
    let record (v : Window) : List Byte := le16 v.zoom ++ le16 v.target ++ [BitVec.ofNat 8 v.rate] ++ le16 v.cx ++ le16 v.cy
    let answerSet := s.link.answered
      ⟨0x28, tag, [n] ++ halfBytes z ++ halfBytes x ++ halfBytes y ++ halfBytes r⟩
    let answerNudge := s.link.answered ⟨0x29, tag, [n] ++ halfBytes x ++ halfBytes y⟩
    let answerRead := s.link.answered ⟨0x2A, tag, [n]⟩
    (4 ≤ n.toNat →
      exec (.viewSet tag n z x y r) s = .next { s with link := answerSet .refused [4] } ∧
      exec (.viewNudge tag n x y) s = .next { s with link := answerNudge .refused [4] } ∧
      exec (.viewRead tag n) s = .next { s with link := answerRead .refused [4] }) ∧
    ∀ i : Fin 4, n.toNat = i.val →
      let v := s.views.get i
      let set : Window :=
        { v with
          target := max 256 (min z.toNat 2048), cx := min x.toNat 2591, cy := min y.toNat 1943, rate := min r.toNat 255 }
      let dx := max (-1024) (min x.toInt 1023)
      let dy := max (-1024) (min y.toInt 1023)
      let nudged : Window :=
        { v with
          cx := (max 0 (min ((v.cx : Int) + dx) 2591)).toNat
          cy := (max 0 (min ((v.cy : Int) + dy) 1943)).toNat }
      exec (.viewSet tag n z x y r) s = .next { s with
        views := s.views.set i set
        link := answerSet
          (okIf (set.target = z.toNat ∧ set.cx = x.toNat ∧ set.cy = y.toNat ∧ set.rate = r.toNat)) (record set) } ∧
      exec (.viewNudge tag n x y) s = .next { s with
        views := s.views.set i nudged
        link := answerNudge
          (okIf (dx = x.toInt ∧ dy = y.toInt ∧ (nudged.cx : Int) = v.cx + dx ∧ (nudged.cy : Int) = v.cy + dy))
          (record nudged) } ∧
      exec (.viewRead tag n) s = .next { s with
        link := answerRead .ok (record v ++ [if v.zoom = v.target then 0 else 1]) }

/-! ### View windows -/

/-- A glide step moves the current zoom toward the target by the rate, never past it, and to it at rate 0; every other
field stays, and a window at rest is unchanged; ceil(distance ÷ rate) steps reach the target (R62). At a frame start every
window takes its step, and VIEW_REACHED is raised once for each window that the step brings to its target (R61, R63);
which of several stands in the record is left open by the spec (R177; notes/assumptions/5.md). -/
def Obligations.GlidesReachTheirTargets : Prop :=
  (∀ v : Window,
    let g := v.glide
    g = { v with zoom := g.zoom } ∧
    (v.rate = 0 → g.zoom = v.target) ∧
    (v.zoom < v.target → 0 < v.rate → g.zoom = min (v.zoom + v.rate) v.target) ∧
    (v.target < v.zoom → 0 < v.rate → g.zoom = max (v.zoom - v.rate) v.target) ∧
    (v.zoom = v.target → g = v) ∧
    (0 < v.rate → (Window.glide^[(((v.target : Int) - v.zoom).natAbs + v.rate - 1) / v.rate] v).zoom = v.target)) ∧
  ∀ s : State,
    let views := s.views.map Window.glide
    let reached := (List.finRange 4).filter fun i =>
      (s.views.get i).zoom != (s.views.get i).target && ((views.get i).zoom == (views.get i).target)
    let r := s.notices.get 12
    s.glideStep.views = views ∧
    (reached = [] → s.glideStep = { s with views := views }) ∧
    (reached ≠ [] → ∃ i ∈ reached,
      s.glideStep = { s with
        views := views
        notices := s.notices.set 12 ⟨r.level, true, some (.viewReached i (views.get i).target),
          min ((if r.pending then r.count else 0) + reached.length) 255⟩
        openChoice := if reached.length = 1 then s.openChoice else s.openChoice + 1 })

/-- The rectangle a pane shows: the fit rectangle of its shape, divided by the zoom, about the requested centre and kept
inside the frame, at least 2 × 2 (R65, R66, R67). -/
def Obligations.RectangleStaysInsideFrame : Prop :=
  ∀ (v : Window) (wp hp : Nat), Window.Law v → 16 ≤ wp → wp ≤ 1920 → 16 ≤ hp → hp ≤ 1200 →
    let wmax := if 2592 * hp ≤ 1944 * wp then 2592 else 1944 * wp / hp
    let hmax := if 2592 * hp ≤ 1944 * wp then 2592 * hp / wp else 1944
    let r := v.rectFor wp hp
    r.w = wmax * 256 / v.zoom ∧ r.h = hmax * 256 / v.zoom ∧
    (r.x : Int) = max 0 (min ((v.cx : Int) - (r.w / 2 : Nat)) (2592 - r.w)) ∧
    (r.y : Int) = max 0 (min ((v.cy : Int) - (r.h / 2 : Nat)) (1944 - r.h)) ∧
    2 ≤ r.w ∧ 2 ≤ r.h ∧ r.x + r.w ≤ 2592 ∧ r.y + r.h ≤ 1944

/-! ### The pixel pipe -/

/-- Stages 4 to 6 of the pipe: detail, coring, gain, limit and clamp. The detail lies in −255..255; a gain of 63 or less
scales it to −1004..1004 before the limit; the result lies in 0..255, differs from the resampled luma by at most the limit,
and equals it where gain or limit is 0 or the detail is (R84, R85, R86). -/
def Obligations.SharpeningIsBounded : Prop :=
  ∀ (p : Profile) (luma blur : Nat), luma ≤ 255 → blur ≤ 255 →
    let d : Int := luma - blur
    let cored : Int := if (p.threshold : Int) < d then d - p.threshold
      else if d < -(p.threshold : Int) then d + p.threshold else 0
    let scaled : Int := ((p.gain : Int) * cored + 8) / 16
    let g : Int := max (-(p.limit : Int)) (min scaled p.limit)
    let out := sharpen p luma blur
    (-255 ≤ d ∧ d ≤ 255) ∧ (p.gain ≤ 63 → -1004 ≤ scaled ∧ scaled ≤ 1004) ∧
      (out : Int) = max 0 (min (luma + g) 255) ∧ out ≤ 255 ∧ |(out : Int) - luma| ≤ p.limit ∧
      (p.gain = 0 ∨ p.limit = 0 ∨ luma = blur → out = luma)

/-- The pixel that the pipe delivers for a pane job, from a whole image: positions, source indices and weights of R80, the
two blends of R81 with the frame's edges repeated outward, chroma on its own grid of one column per pair, a pair sharing
its column (R82), and the blur of the resampled luma on the pane's own grid, its edges repeated outward (R83); the luma
is then sharpened (R92). Resampling and blur never leave the range of the pixels they are made of, and a weight lies in
0..255. -/
def Obligations.PipePixelsAreResampled : Prop :=
  (∀ (j : PaneJob) (img : Image) (col row : Nat), wholeImage img = true → col < j.width → row < j.height →
    let kept (k limit : Int) : Nat := (max 0 (min k limit)).toNat
    let luma (x y : Int) : Int := frameLuma img (kept x 2591) (kept y 1943)
    let byteAt (y off : Nat) : Int := (((img.getD y []).getD off 0).toNat : Int)
    let cb (x y : Int) : Int := byteAt (kept y 1943) (4 * kept x 1295)
    let cr (x y : Int) : Int := byteAt (kept y 1943) (4 * kept x 1295 + 2)
    let at_ (start i step : Int) : Int := start + i * step + (step - 4096) / 2
    let k (p : Int) : Int := p / 4096
    let f (p : Int) : Int := (p - k p * 4096) / 16
    let mix (g a b : Int) : Int := ((256 - g) * a + g * b + 128) / 256
    let resampled (source : Int → Int → Int) (px py : Int) : Int :=
      mix (f py) (mix (f px) (source (k px) (k py)) (source (k px + 1) (k py)))
        (mix (f px) (source (k px) (k py + 1)) (source (k px + 1) (k py + 1)))
    let rowAt (r : Int) : Int := at_ (j.rect.y * 4096) r j.stepY
    let y (c r : Int) : Int := resampled luma (at_ (j.rect.x * 4096) c j.stepX) (rowAt r)
    let chromaAt : Int := at_ (j.rect.x * 2048) (col / 2 : Nat) j.stepX
    let e (dc dr : Int) : Int := y (kept (col + dc) (j.width - 1)) (kept (row + dr) (j.height - 1))
    let blur : Int :=
      (e (-1) (-1) + 2 * e 0 (-1) + e 1 (-1) + 2 * e (-1) 0 + 4 * e 0 0 + 2 * e 1 0 + e (-1) 1 + 2 * e 0 1 + e 1 1 + 8) / 16
    (j.resampledLuma img col row : Int) = y col row ∧
      j.pixel img col row =
        ⟨BitVec.ofNat 8 (sharpen j.values (y col row).toNat blur.toNat),
          BitVec.ofInt 8 (resampled cb chromaAt (rowAt row)), BitVec.ofInt 8 (resampled cr chromaAt (rowAt row))⟩) ∧
  ∀ (f : Nat → Nat → Nat) (lastX lastY lo hi : Nat), (∀ x ≤ lastX, ∀ y ≤ lastY, lo ≤ f x y ∧ f x y ≤ hi) →
    (∀ px py : Int, lo ≤ resampleAt f lastX lastY px py ∧ resampleAt f lastX lastY px py ≤ hi ∧ weight px ≤ 255) ∧
    ∀ x ≤ lastX, ∀ y ≤ lastY,
      lo ≤ blurAt f (lastX + 1) (lastY + 1) x y ∧ blurAt f (lastX + 1) (lastY + 1) x y ≤ hi

/-! ### Projector output -/

/-- OUTPUT START, OUTPUT STOP, PANE SET and PANE COMMIT: what each changes and replies, in each output state, with the
refusals in their order; a frame being scanned is abandoned by a start and by a stop (R97, R98, R103, R104). -/
def Obligations.OutputAndPaneRequests : Prop :=
  (∀ (tag mode : Byte) (s : State), s.link.Free →
    let answer := s.link.answered ⟨0x38, tag, [mode]⟩
    (4 ≤ mode.toNat → exec (.outputStart tag mode) s = .next { s with link := answer .refused [6] }) ∧
    ∀ m : Fin 4, mode.toNat = m.val →
      exec (.outputStart tag mode) s = .next { s.scanEnded with
        output := { s.output with state := .starting, mode := m, startCount := 0, latch := none }
        link := answer .ok [] }) ∧
  (∀ (tag : Byte) (s : State), s.link.Free →
    let answer := s.link.answered ⟨0x39, tag, []⟩ .ok []
    (s.output.state = .off → exec (.outputStop tag) s = .next { s with link := answer }) ∧
    (s.output.state ≠ .off →
      exec (.outputStop tag) s = .next { State.raise
        { s.scanEnded with
          output :=
            { s.output with
              state := .off, startCount := 0, latch := none, commitPending := false
              active := if s.output.commitPending then s.output.staged else s.output.active } }
        (.outputState .off s.output.mode s.output.frameCounter) with link := answer })) ∧
  (∀ (tag n e : Byte) (x y w h : Half) (src hold v p cy cb cr : Byte) (s : State), s.link.Free →
    let answer := s.link.answered ⟨0x3A, tag,
      [n, e] ++ halfBytes x ++ halfBytes y ++ halfBytes w ++ halfBytes h ++ [src, hold, v, p, cy, cb, cr]⟩
    let done := exec (.paneSet tag n e x y w h src hold v p cy cb cr) s
    let refused (reason : Byte) := Host.Outcome.next { s with link := answer .refused [reason] }
    (4 ≤ n.toNat → done = refused 7) ∧
    (n.toNat < 4 → 6 ≤ src.toNat → done = refused 8) ∧
    (n.toNat < 4 → src.toNat < 6 → 4 ≤ v.toNat → done = refused 4) ∧
    (n.toNat < 4 → src.toNat < 6 → v.toNat < 4 → 4 ≤ p.toNat → done = refused 5) ∧
    ∀ (pane window profile : Fin 4) (source : PaneSource), n.toNat = pane.val → src = source.code →
      v.toNat = window.val → p.toNat = profile.val →
      let even (q : Half) : Nat := 2 * (q.toNat / 2)
      let flag (b : Byte) : Byte := if b = 0 then 0 else 1
      let changed := 1 < e.toNat ∨ 1 < hold.toNat ∨ x.toNat % 2 = 1 ∨ y.toNat % 2 = 1 ∨ w.toNat % 2 = 1 ∨ h.toNat % 2 = 1
      done = .next { s with
        output :=
          { s.output with
            staged := s.output.staged.set pane
              ⟨decide (e ≠ 0), ⟨even x, even y, even w, even h⟩, source, decide (hold ≠ 0), window, profile, ⟨cy, cb, cr⟩⟩ }
        link := answer (okIf ¬changed)
          ([flag e] ++ le16 (even x) ++ le16 (even y) ++ le16 (even w) ++ le16 (even h) ++
            [src, flag hold, v, p, cy, cb, cr]) }) ∧
  ∀ (tag : Byte) (s : State), s.link.Free →
    exec (.paneCommit tag) s = .next { s with
      output :=
        if s.output.state = .off then { s.output with active := s.output.staged }
        else { s.output with commitPending := true }
      link := s.link.answered ⟨0x3B, tag, []⟩ .ok [] }

/-- A frame start in STARTING with a count below 3: a pending commit is copied, the frame counter rises, the windows
glide, the count rises, and every active pixel at the port is the background, with
data enable active (R95, R99; notes/assumptions/24.md); that the latch then holds no page
state, and the clipped rectangles of panes that show nothing, is the model's reading (notes/assumptions/20.md). A frame end
releases all that the frame held (R101); no frame is being scanned without a latch. In OFF the port's syncs and data
enable are inactive and its data lines at 0 (R95), and there is no frame start; a frame start that finds the last frame
unended ends it first. What the stray events do is the model's (notes/assumptions/2.md, notes/assumptions/9.md). -/
def Obligations.StartingFramesAndFrameEnds : Prop :=
  ∀ s : State,
    (s.output.state = .starting → s.output.startCount < 3 → s.output.latch = none →
      let mode := s.output.mode
      let wa := match mode with | 0 => 1920 | 1 => 1280 | 2 => 1024 | 3 => 1920
      let ha := match mode with | 0 => 1080 | 1 => 800 | 2 => 768 | 3 => 1200
      let clip (r : Rect) : Rect :=
        if wa ≤ r.x ∨ ha ≤ r.y then ⟨r.x, r.y, 0, 0⟩ else ⟨r.x, r.y, min r.w (wa - r.x), min r.h (ha - r.y)⟩
      let active := if s.output.commitPending then s.output.staged else s.output.active
      let t := State.transmit { s.glideStep with
        output :=
          { s.output with
            active := active
            commitPending := false
            frameCounter := s.output.frameCounter + 1
            startCount := s.output.startCount + 1
            latch := some ⟨none, s.output.background, active.mapIdx fun _ p => ⟨clip p.rect, .nothing⟩⟩ } }
      exec .outputFrameStart s = .next t ∧
        ∀ x y, x < wa → y < ha →
          (t.portLevels x y).dataEnable = true ∧ (t.portLevels x y).data = s.output.background) ∧
    (s.output.latch ≠ none → exec .outputFrameEnd s = .next s.scanEnded.transmit) ∧
    (s.output.latch = none → exec .outputFrameEnd s = .next s) ∧
    (s.output.state = .off → exec .outputFrameStart s = .next s ∧
      ∀ x y, s.portLevels x y = ⟨false, false, false, ⟨0, 0, 0⟩⟩) ∧
    (s.output.state ≠ .off → exec .outputFrameStart s = exec .outputFrameStart s.scanEnded)

/-- A composed frame start, in RUN or at the end of STARTING: a pending commit is copied and the frame counter rises;
entry into RUN raises OUTPUT_STATE; the page state and the background are read once; then, pane by pane in order, every
enabled pane whose clipped rectangle is at least 16 × 16 shows the slot of the first tag of its source that is on a slot,
which it pins, its test card or its absent colour, as the tags stand at its turn, after the tag moves scheduled before it
(R99, R100, R105, R107, R109). Then the windows glide; each pane that shows a slot gets a pane job with the rectangle of its
glided window and its profile's values; and the interval timer counts last, an expiry waiting for its own command (R76,
R77, R79, R118). The schedule of the moves and the places at which they can fall, one glide step at the entry into RUN
and its place after the pins, the expiry's wait, and the link's one choice after all raises are the model's
(notes/assumptions/10.md, notes/assumptions/16.md, notes/assumptions/18.md, notes/assumptions/22.md). -/
def Obligations.RunFrameStart : Prop :=
  ∀ (s t1 t2 t3 : State) (between : Between) (left : Schedule), s.output.latch = none →
    ((s.schedule.between = [] ∧ between = .none ∧ left = s.schedule) ∨
      ∃ rest, s.schedule.between = between :: rest ∧ left = { s.schedule with between := rest }) →
    (s.output.state = .run ∨ (s.output.state = .starting ∧ 3 ≤ s.output.startCount)) →
    let begun : Output :=
      { s.output with
        state := .run
        active := if s.output.commitPending then s.output.staged else s.output.active
        commitPending := false
        frameCounter := s.output.frameCounter + 1 }
    let u : State :=
      if s.output.state = .run then { s with output := begun, schedule := left }
      else State.raise { s with output := begun, schedule := left } (.outputState .run begun.mode begun.frameCounter)
    let wa := match begun.mode with | 0 => 1920 | 1 => 1280 | 2 => 1024 | 3 => 1920
    let ha := match begun.mode with | 0 => 1080 | 1 => 800 | 2 => 768 | 3 => 1200
    let clip (r : Rect) : Rect :=
      if wa ≤ r.x ∨ ha ≤ r.y then ⟨r.x, r.y, 0, 0⟩ else ⟨r.x, r.y, min r.w (wa - r.x), min r.h (ha - r.y)⟩
    let tags (p : Pane) : List Tag :=
      match p.source with
      | .live => if p.hold = true ∧ s.watch.page = .motion then [.settled, .live] else [.live]
      | .settled => [.settled]
      | .freezeA => [.freezeA]
      | .freezeB => [.freezeB]
      | .recalled => [.recalled]
      | .test => []
    let shows (t : State) (n : Fin 4) : PaneShows :=
      let p := begun.active.get n
      if p.enabled = false ∨ (clip p.rect).w < 16 ∨ (clip p.rect).h < 16 then .nothing
      else if p.source = .test then .testCard
      else match (tags p).findSome? t.slots.carrier with
        | some i => .slot i
        | none => .absent p.absent
    let pinned (t : State) (n : Fin 4) : State :=
      { t with slots := t.slots.mapIdx fun i x => { x with pins := x.pins + if shows t n = .slot i then 1 else 0 } }
    runAll (between.after0.map moveCommand) (pinned u 0) = .next t1 →
    runAll (between.after1.map moveCommand) (pinned t1 1) = .next t2 →
    runAll (between.after2.map moveCommand) (pinned t2 2) = .next t3 →
    let shown (n : Fin 4) : PaneShows := shows (match n with | 0 => u | 1 => t1 | 2 => t2 | 3 => t3) n
    let g := (pinned t3 3).glideStep
    let job (n : Fin 4) : Option PaneJob :=
      let p := begun.active.get n
      match shown n with
      | .slot i =>
        let c := clip p.rect
        let r := (g.views.get p.window).rectFor c.w c.h
        some ⟨n, i, c.w, c.h, r, p.profile, s.pipe.profiles.get p.profile, 4096 * r.w / c.w, 4096 * r.h / c.h⟩
      | _ => none
    let d := g.capture
    let wraps := d.frameCount + 1 = d.prescale
    let expires := wraps ∧ d.postCount + 1 = d.postscale
    exec .outputFrameStart s = .next (State.transmit
      { g with
        capture :=
          { d with
            frameCount := if wraps then 0 else d.frameCount + 1
            postCount := if expires then 0 else if wraps then d.postCount + 1 else d.postCount
            expiries := if expires then d.expiries + 1 else d.expiries }
        output :=
          { begun with
            latch := some ⟨some s.watch.page, s.output.background,
              begun.active.mapIdx fun n p => ⟨clip p.rect, shown n⟩⟩ }
        pipe := { s.pipe with jobs := (List.finRange 4).filterMap job } })

/-- Two races with the slot store. A good frame end taken between two pin requests of one output frame: of two panes
naming LIVE, the one before it is pinned to the old slot, which keeps its frame, and the one after it to the new slot
(R18, R109). A capture that chose the LIVE frame before a good frame end and tags after it: where nothing but LIVE held the
slot the capture is missed with STALE, and where the slot was pinned it is taken of that older frame (R14, R122, R124;
01_frame_slots.md 1.4). What such a capture reads before the frame end, and does after it, is what its command reads and
does (R121, R122, R129), an expiry that waits being used up (R118). That the schedule holds what falls inside a command,
that an expiry waits, and that the reply of such a capture goes before that frame end's notices are the model's
(notes/assumptions/7.md, notes/assumptions/10.md, notes/assumptions/18.md, notes/assumptions/22.md). -/
def Obligations.SlotStoreRaces : Prop :=
  (∀ (s : State) (f : CurrentFrame) (i j : Fin 12) (n : Word) (after1 after2 : List TagMove)
    (rest : List Between), s.schedule.between = ⟨[.frameEnd], after1, after2⟩ :: rest →
    s.output.state = .run → s.output.latch = none → s.output.commitPending = false → s.slots.Law → s.WorkLaw →
    s.intake.state = .filling → s.intake.current = some f → f.slot = some j → f.damaged = false → f.lines = 1944 →
    (s.slots.get i).carries .live = true → (s.slots.get i).origin = some (.sensor n) →
    (∀ k : Fin 4, k = 0 ∨ k = 1 →
      let p := s.output.active.get k
      p.enabled = true ∧ p.source = .live ∧ p.hold = false ∧
        16 ≤ (clipRect s.output.mode p.rect).w ∧ 16 ≤ (clipRect s.output.mode p.rect).h) →
    ∃ t latch, exec .outputFrameStart s = .next t ∧
      t.output.latch = some latch ∧ (latch.panes.get 0).shows = .slot i ∧ (latch.panes.get 1).shows = .slot j ∧
      (t.slots.get i).origin = some (.sensor n) ∧ (t.slots.get i).image = (s.slots.get i).image ∧
      (t.slots.get j).origin = some (.sensor f.number) ∧ (t.slots.get j).image = (s.slots.get j).image ∧
      (t.slots.get i).phase = .ready ∧ (t.slots.get j).phase = .ready ∧
      1 ≤ (t.slots.get i).pins ∧ 1 ≤ (t.slots.get j).pins) ∧
  (∀ (s : State) (f : CurrentFrame) (i j : Fin 12) (n : Word) (fm : Nat) (l : Lesson) (tag : Byte)
    (rest : List (Option EarlyCapture)), s.schedule.overtaken = some (.request tag) :: rest →
    s.link.Free → s.slots.Law → s.store.state = .ready → s.store.directory.filter (·.isOpen) = [l] → l.next ≤ 255 →
    (∀ e ∈ s.store.queue, e.frame ≠ n) → s.store.queue.length < 4 →
    s.intake.state = .filling → s.intake.current = some f → f.slot = some j → f.damaged = false → f.lines = 1944 →
    (s.slots.get j).phase = .filling → (s.slots.get i).tags = ⟨true, false, false, false, false, false⟩ →
    (s.slots.get i).origin = some (.sensor n) → (s.slots.get i).focus = some fm →
    (∀ k, k ≠ i → (s.slots.get k).origin ≠ some (.sensor n)) →
    let answer := s.link.answered ⟨0x4A, tag, []⟩ .ok
    let single : Byte := if s.capture.settings.mode = .single then 2 else 0
    ((s.slots.get i).pins = 0 →
      ∃ t, exec .frameEnd s = .next t ∧
        t.link = answer ([1, 6] ++ le32 n.toNat ++ [0, 0, 0, 0]) ∧ (t.slots.get i).phase = .free) ∧
    ((s.slots.get i).pins ≠ 0 →
      ∃ t, exec .frameEnd s = .next t ∧
        t.link = answer ([0, 0] ++ le32 n.toNat ++
          [BitVec.ofNat 8 i.val, BitVec.ofNat 8 l.id, BitVec.ofNat 8 l.next, single]) ∧
        (t.slots.get i).phase = .ready ∧ (t.slots.get i).origin = some (.sensor n))) ∧
  ∀ s : State,
    let c := s.capture
    let v := s.views.get 0
    let reading (src : Trigger) : CaptureRead :=
      ⟨src, s.slots.liveFrame, v.zoom, v.cx, v.cy, s.output.frameCounter⟩
    let begun (src : Trigger) : Option BegunCapture := if c.gate src then some ⟨reading src, none⟩ else none
    (c.expiries = 0 → s.beginEarly .interval = (s, none)) ∧
    (∀ n, c.expiries = n + 1 →
      s.beginEarly .interval = ({ s with capture := { c with expiries := n } }, begun .interval)) ∧
    s.beginEarly .key =
      ({ s with capture := (c.sampleKey true).1 }, if (c.sampleKey true).2 then begun .key else none) ∧
    (∀ tag : Byte,
      (s.link.hand = none → s.beginEarly (.request tag) =
        ({ s with link := { s.link with hand := some ⟨0x4A, tag, []⟩ } }, some ⟨reading .request, some tag⟩)) ∧
      (s.link.hand ≠ none → s.link.waitingPlace = none → s.beginEarly (.request tag) =
        ({ s with link := { s.link with waitingPlace := some ⟨0x4A, tag, []⟩ } }, none)) ∧
      (s.link.hand ≠ none → s.link.waitingPlace ≠ none → s.beginEarly (.request tag) =
        (s.recordError .link .linkOverrun 0x4A, none))) ∧
    s.endCapture none = s ∧
    ∀ r : CaptureRead,
      let u := (s.completeCapture r).1
      s.endCapture (some ⟨r, none⟩) = u ∧
      ∀ tag, s.endCapture (some ⟨r, some tag⟩) = { u with
        link := { u.link with waitingReply := some ⟨0x4A, tag, .ok, (s.completeCapture r).2.bytes, .nothing⟩ } }

/-- Composition: each raster pixel shows the highest-numbered pane that covers it and shows anything, or the
background; a pane resolved to a slot gives its job's pixel; the test card's bars are floor(8i ÷ Wp), with the chroma of
the pair's first column (R110, R111). While the raster runs the port carries that pixel unchanged, with data enable
active, at every active position of a frame being scanned (R95, R110); that data enable marks those positions is the
model's reading (notes/assumptions/24.md). -/
def Obligations.CompositionOrder : Prop :=
  ∀ (s : State) (l : FrameLatch) (x y : Nat), s.output.latch = some l →
    let covers (n : Fin 4) : Prop :=
      let r := (l.panes.get n).rect
      (l.panes.get n).shows ≠ .nothing ∧ r.x ≤ x ∧ x < r.x + r.w ∧ r.y ≤ y ∧ y < r.y + r.h
    (s.output.state ≠ .off → x < Config.activeWidth s.output.mode → y < Config.activeHeight s.output.mode →
      (s.portLevels x y).dataEnable = true ∧ some (s.portLevels x y).data = s.rasterPixel x y) ∧
    ((∀ n, ¬covers n) → s.rasterPixel x y = some l.background) ∧
    ∀ n, covers n → (∀ m, n < m → ¬covers m) →
      let r := (l.panes.get n).rect
      (∀ c, (l.panes.get n).shows = .absent c → s.rasterPixel x y = some c) ∧
      ((l.panes.get n).shows = .testCard →
        let bar (i : Nat) : Colour :=
          ([⟨255, 128, 128⟩, ⟨226, 1, 149⟩, ⟨179, 171, 1⟩, ⟨150, 44, 21⟩, ⟨105, 212, 235⟩, ⟨76, 85, 255⟩, ⟨29, 255, 107⟩,
            ⟨0, 128, 128⟩] : List Colour).getD (8 * i / r.w) ⟨0, 128, 128⟩
        let i := x - r.x
        s.rasterPixel x y = some ⟨(bar i).luma, (bar (2 * (i / 2))).cb, (bar (2 * (i / 2))).cr⟩) ∧
      ∀ j ∈ s.pipe.jobs, (l.panes.get n).shows = .slot j.slot → j.pane = n → (s.pipe.jobs.map (·.pane)).Nodup →
        s.rasterPixel x y = some (j.pixel (s.slots.get j.slot).image (x - r.x) (y - r.y))

/-! ### Capture -/

/-- CAPTURE SET brings its values into range, writes all five settings, clears armed on a change of mode and lowers the
holdoff counter to the new setting; CAPTURE ARM arms in SINGLE alone (R127, R128). -/
def Obligations.CaptureSetAndArm : Prop :=
  (∀ (tag mode mask : Byte) (floor : Half) (holdoff restart : Byte) (s : State), s.link.Free →
    let answer := s.link.answered ⟨0x48, tag, [mode, mask] ++ halfBytes floor ++ [holdoff, restart]⟩
    let done := exec (.captureSet tag mode mask floor holdoff restart) s
    (3 ≤ mode.toNat → done = .next { s with link := answer .refused [6] }) ∧
    ∀ m : CaptureMode, mode = m.code →
      let f := min floor.toNat 65280
      done = .next { s with
        capture :=
          { s.capture with
            settings := ⟨m, ⟨mask.getLsbD 0, mask.getLsbD 1, mask.getLsbD 2⟩, f, holdoff.toNat, decide (restart ≠ 0)⟩
            armed := if m = s.capture.settings.mode then s.capture.armed else false
            holdoffCounter := min s.capture.holdoffCounter holdoff.toNat }
        link := answer (okIf (mask.toNat < 8 ∧ f = floor.toNat ∧ restart.toNat ≤ 1))
          ([mode, mask &&& 7] ++ le16 f ++ [holdoff, if restart = 0 then 0 else 1]) }) ∧
  ∀ (tag : Byte) (s : State), s.link.Free →
    exec (.captureArm tag) s =
      if s.capture.settings.mode = .single then
        .next { s with
          capture := { s.capture with armed := true }
          link := s.link.answered ⟨0x49, tag, []⟩ .ok [] }
      else .next { s with link := s.link.answered ⟨0x49, tag, []⟩ .refused [9] }

/-- The gate (R121): a SETTLE, INTERVAL or KEY trigger passes when the mode is not OFF, its source is selected, the
holdoff counter is 0 and, in SINGLE, armed is set; otherwise it is ignored. INTERVAL_EXPIRY judges one expiry of the
timer, once, as a trigger of the LIVE frame (R118, R122), and leaves the counts; with no expiry waiting it cannot occur and
changes nothing. That an expiry waits for its command, and how long, is the model's form (notes/assumptions/18.md, with
notes/assumptions/2.md). The arbiter chooses once, after all that a capture raises (notes/assumptions/22.md). -/
def Obligations.GateJudgesTriggers : Prop :=
  ∀ s : State,
    let c := s.capture
    let open_ (selected : Bool) : Prop :=
      c.settings.mode ≠ .off ∧ selected = true ∧ c.holdoffCounter = 0 ∧ (c.settings.mode = .single → c.armed = true)
    (∀ (src : Trigger) (named : Option (Word × Nat)),
      let selected : Bool := match src with
        | .settle => c.settings.mask.settle
        | .interval => c.settings.mask.interval
        | .key => c.settings.mask.key
        | .request => false
      ((src = .request ∨ open_ selected) → s.trigger src named = (s.takeCapture src named).1) ∧
      (¬(src = .request ∨ open_ selected) → s.trigger src named = s)) ∧
    (c.expiries = 0 → exec .intervalExpiry s = .next s) ∧
    ∀ m, c.expiries = m + 1 →
      let u : State := { s with capture := { c with expiries := m } }
      (¬open_ c.settings.mask.interval → exec .intervalExpiry s = .next u.transmit) ∧
      (open_ c.settings.mask.interval →
        ((∀ i, (s.slots.get i).carries .live = false) →
          exec .intervalExpiry s = .next (u.takeCapture .interval none).1.transmit) ∧
        ∀ i n fm, (s.slots.get i).carries .live = true → (∀ j, (s.slots.get j).carries .live = true → j = i) →
          (s.slots.get i).origin = some (.sensor n) → (s.slots.get i).focus = some fm →
          exec .intervalExpiry s = .next (u.takeCapture .interval (some (n, fm))).1.transmit)

/-- The interval timer and the key filter (R118, R120, R121). The timer takes one count per composed frame start; an expiry
then waits for its INTERVAL_EXPIRY (the model's form, notes/assumptions/18.md), which a good frame end can overtake between
the reads and the tag (SlotStoreRaces). From both counts 0 it expires once in every P × S counts, and at the P × S-th both
counts are 0 again. At each key sample the counter moves by one within 0..15, the latch changes at the counter's ends
alone, and the change to pressed is the press event, a trigger of source KEY; fifteen pressed samples from 0 make exactly
one press event, at the last. The arbiter chooses once, after all that a capture raises (notes/assumptions/22.md). -/
def Obligations.TimerAndKeyTriggers : Prop :=
  (∀ s : State,
    let c := s.capture
    (c.frameCount + 1 ≠ c.prescale →
      s.countInterval = { s with capture := { c with frameCount := c.frameCount + 1 } }) ∧
    (c.frameCount + 1 = c.prescale → c.postCount + 1 ≠ c.postscale →
      s.countInterval = { s with capture := { c with frameCount := 0, postCount := c.postCount + 1 } }) ∧
    (c.frameCount + 1 = c.prescale → c.postCount + 1 = c.postscale →
      s.countInterval = { s with
        capture := { c with frameCount := 0, postCount := 0, expiries := c.expiries + 1 } })) ∧
  (∀ c : Capture, 1 ≤ c.prescale → 1 ≤ c.postscale → c.frameCount = 0 → c.postCount = 0 → ∀ n : Nat,
    Capture.countFrame^[n] c =
      { c with
        frameCount := n % c.prescale
        postCount := n / c.prescale % c.postscale
        expiries := c.expiries + n / (c.prescale * c.postscale) }) ∧
  (∀ (s : State) (pressed : Bool),
    let c := s.capture
    let k := if pressed then min (c.keyCounter + 1) 15 else max (c.keyCounter - 1) 0
    (k = 15 → c.keyPressed = false →
      exec (.keySample pressed) s = .next (State.transmit
        (State.trigger { s with capture := { c with keyCounter := 15, keyPressed := true } } .key s.slots.liveFrame))) ∧
    (k = 0 → c.keyPressed = true →
      exec (.keySample pressed) s =
        .next (State.transmit { s with capture := { c with keyCounter := 0, keyPressed := false } })) ∧
    (¬(k = 15 ∧ c.keyPressed = false) → ¬(k = 0 ∧ c.keyPressed = true) →
      exec (.keySample pressed) s = .next (State.transmit { s with capture := { c with keyCounter := k } }))) ∧
  ∀ c : Capture, c.keyCounter = 0 → c.keyPressed = false → ∀ n : Nat,
    let after (k : Nat) : Capture := (fun d => (d.sampleKey true).1)^[k] c
    ((after n).sampleKey true).2 = decide (n = 14)

/-- The outcome of a capture from its reads on, its reasons in their order: NO_FRAME, BLURRED, NO_LESSON, LESSON_FULL, the
merge with the entry that names the frame, QUEUE_FULL, STALE, and the append (R122 to R126). A miss raises its notice and
changes nothing else; a capture taken loads the holdoff, clears armed in SINGLE and clears the interval counts if so set.
An entry that joins the queue withdraws a reclaim erase that waits: the step is no longer asked for, its cell is DEAD again
and the writer IDLE (R153), and the writer begins (R148). A capture that nothing overtakes reads and completes at once. -/
def Obligations.CaptureOutcomes : Prop :=
  (∀ (s : State) (src : Trigger) (named : Option (Word × Nat)),
    let v := s.views.get 0
    s.takeCapture src named = s.completeCapture ⟨src, named, v.zoom, v.cx, v.cy, s.output.frameCounter⟩) ∧
  ∀ (s : State) (src : Trigger) (frame : Word) (fm zoom cx cy : Nat) (count : Word),
    let done := s.completeCapture ⟨src, some (frame, fm), zoom, cx, cy, count⟩
    let missed (r : MissReason) : State × CaptureOutcome := (s.raise (.captureMissed src r frame), .missed r frame)
    let c := s.capture
    let single := decide (c.settings.mode = .single)
    let taken : Capture :=
      { c with
        holdoffCounter := c.settings.holdoff
        armed := if single then false else c.armed
        frameCount := if c.settings.restartInterval then 0 else c.frameCount
        postCount := if c.settings.restartInterval then 0 else c.postCount }
    let sharp := ¬((src = .settle ∨ src = .interval) ∧ fm < c.settings.floor)
    s.completeCapture ⟨src, none, zoom, cx, cy, count⟩ =
      (s.raise (.captureMissed src .noFrame 0), .missed .noFrame 0) ∧
    (¬sharp → done = missed .blurred) ∧
    (sharp → (s.store.state ≠ .ready ∨ ∀ l ∈ s.store.directory, l.isOpen = false) → done = missed .noLesson) ∧
    ∀ l : Lesson, sharp → s.store.state = .ready → s.store.directory.filter (·.isOpen) = [l] →
      (255 < l.next → done = missed .lessonFull) ∧
      (∀ e ∈ s.store.queue, l.next ≤ 255 → e.frame = frame → (s.store.queue.map (·.frame)).Nodup →
        done =
          (State.raise { s with capture := taken } (.captureTaken src frame e.slot e.lesson e.ordinal true single),
            .taken frame e.slot e.lesson e.ordinal true single)) ∧
      (l.next ≤ 255 → (∀ e ∈ s.store.queue, e.frame ≠ frame) →
        (4 ≤ s.store.queue.length → done = missed .queueFull) ∧
        (s.store.queue.length < 4 →
          ((∀ i, ¬((s.slots.get i).phase = .ready ∧ (s.slots.get i).origin = some (.sensor frame))) →
            done = missed .stale) ∧
          ∀ i : Fin 12, (s.slots.get i).phase = .ready → (s.slots.get i).origin = some (.sensor frame) →
            (∀ j, (s.slots.get j).phase = .ready → (s.slots.get j).origin = some (.sensor frame) → i ≤ j) →
            let entry : SaveEntry := ⟨i, frame, l.id, l.next, src, fm, zoom, cx, cy, count⟩
            let grown : Store :=
              { s.store with
                directory := s.store.directory.map fun m => if m.id = l.id then { m with next := m.next + 1 } else m
                queue := s.store.queue ++ [entry] }
            let joined (store : Store) : State × CaptureOutcome :=
              (State.arbitratePort (State.runWriter (State.raise
                { s with
                  slots := s.slots.set i
                    { s.slots.get i with tags := { (s.slots.get i).tags with capture := true } }
                  store := store, capture := taken }
                (.captureTaken src frame i l.id l.next false single))),
              .taken frame i l.id l.next false single)
            ((∀ x, .reclaimErase x ∉ s.store.port.waiting) → done = joined grown) ∧
            ∀ x before after, s.store.port.waiting = before ++ .reclaimErase x :: after →
              (∀ y, .reclaimErase y ∉ before) →
              done = joined { grown with
                cells := s.store.cells.set x .dead
                writer := .idle
                port := ⟨s.store.port.inFlight, before ++ after⟩ }))

/-- CAPTURE NOW is taken as a capture of the LIVE frame at once, whatever the gate, and its OK reply carries the
outcome (R129). -/
def Obligations.CaptureNowReplies : Prop :=
  ∀ (tag : Byte) (s u : State) (named : Option (Word × Nat)), s.link.Free →
    ((named = none ∧ ∀ i, (s.slots.get i).carries .live = false) ∨
      ∃ i n fm, named = some (n, fm) ∧ (s.slots.get i).carries .live = true ∧
        (∀ j, (s.slots.get j).carries .live = true → j = i) ∧
        (s.slots.get i).origin = some (.sensor n) ∧ (s.slots.get i).focus = some fm) →
    let answer := s.link.answered ⟨0x4A, tag, []⟩ .ok
    (∀ frame slot lesson ordinal merged single,
      s.takeCapture .request named = (u, .taken frame slot lesson ordinal merged single) →
      exec (.captureNow tag) s = .next { u with
        link := answer ([0, 0] ++ le32 frame.toNat ++
          [BitVec.ofNat 8 slot.val, BitVec.ofNat 8 lesson, BitVec.ofNat 8 ordinal,
            (if merged then 1 else 0) + (if single then 2 else 0)]) }) ∧
    ∀ reason frame, s.takeCapture .request named = (u, .missed reason frame) →
      exec (.captureNow tag) s = .next { u with
        link := answer ([1, reason.code] ++ le32 frame.toNat ++ [0, 0, 0, 0]) }

/-! ### The lesson store: states, mount, format -/

/-- How the store state receives a store request (R134): BUSY in MOUNTING and FORMATTING; in UNMOUNTED and FAULT a mount
or a format starts with the identity read, and every other request is NOT_MOUNTED; in READY a mount is OK, a format is
refused for an open lesson, then for queued saves, then BUSY for work in hand, and an unmount is BUSY for queued saves or
work in hand and otherwise forgets the flash (R136, R139, R140). That an accepted format sets the fault reason to none and
keeps the stamp counter is the model's reading (notes/assumptions/14.md). -/
def Obligations.StoreStatesReceiveRequests : Prop :=
  (∀ (i : Instr) (r : Request) (s : State), isStoreRequest i = true → encodeRequest i = some r → s.link.Free →
    ((s.store.state = .mounting ∨ s.store.state = .formatting) →
      exec i s = .next { s with link := s.link.answered r .busy [] }) ∧
    ((s.store.state = .unmounted ∨ s.store.state = .fault) → (∀ tag, i ≠ .storeMount tag ∧ i ≠ .storeFormat tag) →
      exec i s = .next { s with link := s.link.answered r .refused [10] })) ∧
  ∀ (tag : Byte) (s : State), s.link.Free →
    let mount := s.link.answered ⟨0x50, tag, []⟩
    let format := s.link.answered ⟨0x51, tag, []⟩
    let unmount := s.link.answered ⟨0x52, tag, []⟩
    let working := s.store.port.inFlight ≠ none ∨ s.store.recallLoad ≠ none ∨ s.store.deleteWork ≠ none
    let anyOpen := ∃ l ∈ s.store.directory, l.isOpen = true
    let formatting : State :=
      { s with store := s.store.identityAsked .formatting, link := format .accepted [] }
    ((s.store.state = .unmounted ∨ s.store.state = .fault) →
      exec (.storeMount tag) s =
        .next { s with store := s.store.identityAsked .mounting, link := mount .accepted [] } ∧
      exec (.storeFormat tag) s = .next formatting) ∧
    (s.store.state = .ready →
      exec (.storeMount tag) s = .next { s with link := mount .ok [] } ∧
      (anyOpen → exec (.storeFormat tag) s = .next { s with link := format .refused [14] }) ∧
      (¬anyOpen → s.store.queue ≠ [] → exec (.storeFormat tag) s = .next { s with link := format .refused [15] }) ∧
      (¬anyOpen → s.store.queue = [] → working → exec (.storeFormat tag) s = .next { s with link := format .busy [] }) ∧
      (¬anyOpen → s.store.queue = [] → ¬working → exec (.storeFormat tag) s = .next formatting) ∧
      ((s.store.queue ≠ [] ∨ working) → exec (.storeUnmount tag) s = .next { s with link := unmount .busy [] }) ∧
      (¬(s.store.queue ≠ [] ∨ working) → exec (.storeUnmount tag) s = .next { State.raise
        { s with
          store := { s.store with state := .unmounted, cellCount := 0, cells := [], directory := [], stamp := 0 } }
        (.storeState .unmounted 0 s.store.fault 0 0 0) with link := unmount .ok [] }))

/-- The flash events of a mount and a format: the identity read gives the cell count or ends in FAULT (R136, R139); each
header read is classified by the first row that applies and the next is asked for, and the last finishes the mount
(R137, R138); each format erase leaves its cell ERASED or BAD, and the last makes an empty READY store (R139). The end of
a step that is not in flight cannot occur and changes nothing (notes/assumptions/2.md); that the stamp counter stays until a
format's end, and in FAULT, and that a byte missing from a read counts as 0xFF, are the model's readings
(notes/assumptions/14.md, notes/assumptions/12.md). The arbiter chooses once, after all raises of the command (the model's
choice, notes/assumptions/22.md). -/
def Obligations.MediaReadsAndErases : Prop :=
  ∀ s : State,
    let flying (x : PortStep) : Store := { s.store with port := { s.store.port with inFlight := some x } }
    let landed : Store := { s.store with port := { s.store.port with inFlight := none } }
    (s.store.port.inFlight = some .identityRead →
      let fault (r : FaultReason) : State :=
        State.raise { s with store := { landed with state := .fault, fault := r, cellCount := 0 } }
          (.storeState .fault 0 r 0 0 0)
      exec (.identityReadEnd none) s = .next (fault .noDevice).transmit ∧
      ∀ size : Nat,
        let c := min (size / 16777216) 1024
        (size < 64 * 16777216 → exec (.identityReadEnd (some size)) s = .next (fault .tooSmall).transmit) ∧
        (64 * 16777216 ≤ size → s.store.state = .mounting → exec (.identityReadEnd (some size)) s =
          .next (State.transmit { s with store := { flying (.headerRead 0) with cellCount := c } })) ∧
        (64 * 16777216 ≤ size → s.store.state = .formatting → exec (.identityReadEnd (some size)) s =
          .next (State.transmit { s with store :=
            { flying (.formatErase 0) with
              cellCount := c, cells := .erasing :: List.replicate (c - 1) .dead } }))) ∧
    (∀ (cell : Nat) (read : Option (List Byte)), s.store.port.inFlight = some (.headerRead cell) →
      let b (i : Nat) : Byte := (read.getD []).getD i 0xFF
      let blank := (List.range 16).map b = List.replicate 16 0xFF
      let passes := [b 0, b 1, b 2, b 3] = [0x57, 0x58, 0x50, 0x31] ∧
        crcBytes ((List.range 48).map b) = [b 48, b 49] ∧ 1 ≤ (b 4).toNat ∧ (b 4).toNat ≤ 64 ∧ 1 ≤ (b 5).toNat
      let page := b 50 = 0 ∧ b 51 = 0xFF
      let found : CellState :=
        if read = none then .bad else if blank then .erased else if passes ∧ page then .used else .dead
      let kept : List ScannedHeader :=
        if read ≠ none ∧ passes then
          [⟨cell, (b 4).toNat, (b 5).toNat, word (b 8) (b 9) (b 10) (b 11),
            (List.range (min (b 7).toNat 24)).map (fun i => b (24 + i)), decide page⟩]
        else []
      let judged : State :=
        { s with store := { s.store with cells := s.store.cells ++ [found], scan := s.store.scan ++ kept } }
      let told : State :=
        if read = none then judged.recordError .store .readFail cell
        else if ¬blank ∧ ¬passes then judged.recordError .store .storeHeaderBad cell else judged
      exec (.headerReadEnd read) s =
        if cell + 1 < s.store.cellCount then
          .next (State.transmit { told with store :=
            { told.store with port := { s.store.port with inFlight := some (.headerRead (cell + 1)) } } })
        else
          .next (State.transmit (State.arbitratePort (State.runWriter (State.raise
            { told with store := told.store.finishMount } (.storeState .ready s.store.cellCount s.store.fault 0 0 0)))))) ∧
    (∀ (cell : Nat) (ok : Bool), s.store.port.inFlight = some (.formatErase cell) →
      let cells := s.store.cells.set cell (if ok then .erased else .bad)
      let told : State :=
        if ok then s else s.recordError .store .eraseFail cell
      exec (.formatEraseEnd ok) s =
        if cell + 1 < s.store.cellCount then
          .next (State.transmit { told with store :=
            { flying (.formatErase (cell + 1)) with cells := cells.set (cell + 1) .erasing } })
        else
          .next (State.transmit (State.raise
            { told with store := { landed with cells := cells, state := .ready, directory := [], stamp := 1 } }
            (.storeState .ready s.store.cellCount s.store.fault 0 0 0)))) ∧
    (∀ size, s.store.port.inFlight ≠ some .identityRead → exec (.identityReadEnd size) s = .next s) ∧
    (∀ read, (∀ cell, s.store.port.inFlight ≠ some (.headerRead cell)) → exec (.headerReadEnd read) s = .next s) ∧
    ∀ ok, (∀ cell, s.store.port.inFlight ≠ some (.formatErase cell)) → exec (.formatEraseEnd ok) s = .next s

/-- The end of a mount: of the candidates of one lesson and ordinal the highest stamp, then the lowest cell, stays USED
and the others become DEAD; the directory lists exactly the pages that stayed, each lesson closed with its pages rising,
its next ordinal one above its highest and the title of a highest-stamp page; the stamp counter is one above the highest
stamp found, wrapping to 0, or 1 (R138). -/
def Obligations.MountBuildsDirectory : Prop :=
  ∀ s : Store, s.ScanLaw →
    let t := s.finishMount
    let stays (h : ScannedHeader) : Prop :=
      h ∈ s.scan ∧ h.candidate = true ∧ ∀ g ∈ s.scan, g.candidate = true → g.lesson = h.lesson → g.ordinal = h.ordinal →
        g ≠ h → g.stamp.toNat < h.stamp.toNat ∨ (g.stamp = h.stamp ∧ h.cell < g.cell)
    (t.state = .ready ∧ t.port.inFlight = none ∧ t.scan = [] ∧ t.cells.length = s.cells.length) ∧
    (∀ (k : Nat) (c : CellState), s.cells[k]? = some c →
      ((c = .used ∧ ¬∃ h, stays h ∧ h.cell = k) → t.cells[k]? = some .dead) ∧
      (¬(c = .used ∧ ¬∃ h, stays h ∧ h.cell = k) → t.cells[k]? = some c)) ∧
    (t.directory.map (·.id)).Pairwise (· < ·) ∧
    (∀ l ∈ t.directory, l.isOpen = false ∧ l.deleting = false ∧ (l.pages.map (·.ordinal)).Pairwise (· < ·) ∧
      (∀ p ∈ l.pages, p.ordinal < l.next) ∧ (∃ p ∈ l.pages, p.ordinal + 1 = l.next) ∧
      ∃ h, stays h ∧ h.lesson = l.id ∧ h.title = l.title ∧
        ∀ g, stays g → g.lesson = l.id → g.stamp.toNat ≤ h.stamp.toNat) ∧
    (∀ (id ordinal cell : Nat) (stamp : Word),
      (∃ l ∈ t.directory, l.id = id ∧ ⟨cell, ordinal, stamp⟩ ∈ l.pages) ↔
        ∃ h, stays h ∧ h.lesson = id ∧ h.ordinal = ordinal ∧ h.cell = cell ∧ h.stamp = stamp) ∧
    (s.scan = [] → t.stamp = 1) ∧
    (s.scan ≠ [] → ∃ h ∈ s.scan, (∀ g ∈ s.scan, g.stamp.toNat ≤ h.stamp.toNat) ∧ t.stamp = h.stamp + 1)

/-- What a save's program writes, the mount finds: the header passes every check with the entry's lesson, ordinal, title,
view and the stamp; it is DEAD until byte 50 is programmed to 0x00, then a candidate page, and DEAD again once byte 51
reads other than 0xFF (R137, R149, R194, R195). -/
def Obligations.ProgrammedHeaderIsFoundAtMount : Prop :=
  ∀ (e : SaveEntry) (stamp : Word) (title : List Byte) (cell : Nat) (mark : Byte),
    1 ≤ e.lesson → e.lesson ≤ 64 → 1 ≤ e.ordinal → e.ordinal ≤ 255 → title.length ≤ 24 →
    e.zoom < 65536 → e.cx < 65536 → e.cy < 65536 → mark ≠ 0xFF →
    let h := programHeader e stamp title
    let committed := h.set 50 0
    let load : RecallLoad := ⟨e.lesson, e.ordinal, cell, e.slot, true⟩
    h.length = 52 ∧ classify (some h) = (.dead, none) ∧ classify (some committed) = (.used, none) ∧
    classify (some (committed.set 51 mark)) = (.dead, none) ∧
    scannedHeader cell committed = some ⟨cell, e.lesson, e.ordinal, stamp, title, true⟩ ∧
    (headerHalf committed 18, headerHalf committed 20, headerHalf committed 22) = (e.zoom, e.cx, e.cy) ∧
    recallMatches load committed = true

/-! ### The writer and the port -/

/-- The writer: it begins the head entry, or reclaims a DEAD cell with nothing queued, when the store is READY and the
writer IDLE; it takes the lowest ERASED cell, else the lowest DEAD one, and drops the entry with STORE_FULL for want of a
stamp or a cell, then the next in turn; an entry that leaves the queue takes its slot's CAPTURE tag and a closed empty
lesson with it (R147, R148, R152, R15, R142). -/
def Obligations.WriterChoosesCells : Prop :=
  (∀ (s : State) (e : SaveEntry) (rest : List SaveEntry) (tries : Nat), s.store.queue = e :: rest →
    let x := s.slots.get e.slot
    let bare : Slot := { x with tags := { x.tags with capture := false } }
    let left : State :=
      { s with
        slots := s.slots.set e.slot
          (if x.tags.capture = true ∧ x.phase = .ready ∧ bare.tags = TagSet.empty ∧ x.pins = 0 then
            { bare with phase := .free, origin := none, focus := none }
          else bare)
        store :=
          { s.store with
            queue := rest, writer := .idle, attempt := none
            directory := s.store.directory.filter fun l => decide
              ¬(l.id = e.lesson ∧ l.isOpen = false ∧ l.pages = [] ∧ ∀ f ∈ rest, f.lesson ≠ l.id) } }
    let dropped : State := left.raise (.storeFull e.lesson e.ordinal e.frame e.outputCount)
    let taking (c : Nat) (cell : CellState) (w : WriterState) (x : PortStep) : State :=
      { s with store :=
          { s.store with
            cells := s.store.cells.set c cell, writer := w, attempt := some ⟨c, tries + 1, none, []⟩
            port := { s.store.port with waiting := s.store.port.waiting ++ [x] } } }
    s.leaveQueue = left ∧
    (s.store.stamp = 0 → s.chooseCell tries = dropped) ∧
    (s.store.stamp ≠ 0 →
      (∀ c, s.store.cells[c]? = some .erased → (∀ k < c, s.store.cells[k]? ≠ some .erased) →
        s.chooseCell tries = taking c .writing .program (.saveProgram c)) ∧
      (.erased ∉ s.store.cells →
        (∀ c, s.store.cells[c]? = some .dead → (∀ k < c, s.store.cells[k]? ≠ some .dead) →
          s.chooseCell tries = taking c .erasing .erase (.saveErase c)) ∧
        (.dead ∉ s.store.cells → s.chooseCell tries = dropped)))) ∧
  ∀ s : State,
    let free := s.store.state = .ready ∧ s.store.writer = .idle
    let usable := s.store.stamp ≠ 0 ∧ (.erased ∈ s.store.cells ∨ .dead ∈ s.store.cells)
    (¬free → s.runWriter = s) ∧
    (free → s.store.queue = [] →
      (.dead ∉ s.store.cells → s.runWriter = s) ∧
      ∀ c, s.store.cells[c]? = some .dead → (∀ k < c, s.store.cells[k]? ≠ some .dead) →
        s.runWriter = { s with store :=
          { s.store with
            cells := s.store.cells.set c .erasing, writer := .reclaim
            port := { s.store.port with waiting := s.store.port.waiting ++ [.reclaimErase c] } } }) ∧
    (free → s.store.queue ≠ [] → usable → s.runWriter = s.chooseCell 0) ∧
    ∀ last : SaveEntry, free → s.store.queue.getLast? = some last → ¬usable →
      let r := s.notices.get 9
      s.runWriter.store.queue = [] ∧
      s.runWriter.notices = s.notices.set 9
        ⟨r.level, true, some (.storeFull last.lesson last.ordinal last.frame last.outputCount),
          min ((if r.pending then r.count else 0) + s.store.queue.length) 255⟩

/-- The store port's arbiter: a step holds the port to its end; of the steps waiting the lowest class is granted, the
oldest within it; the grant of a program takes the stamp counter's value, raises the counter, wrapping to 0, and forms the
header with the lesson's title as it stands (R154, R149). -/
def Obligations.PortGrantsLowestClass : Prop :=
  ∀ s : Store,
    let class_ (x : PortStep) : Nat :=
      match x with
      | .exportRead .. => 1
      | .recallRead _ => 2
      | .tombstone .. => 3
      | .saveErase _ | .saveProgram _ | .saveCommit _ => 4
      | .reclaimErase _ => 5
      | _ => 0
    (s.port.inFlight ≠ none → s.arbitrate = s) ∧ (s.port.waiting = [] → s.arbitrate = s) ∧
    ∀ (front back : List PortStep) (x : PortStep), s.port.inFlight = none → s.port.waiting = front ++ x :: back →
      (∀ y ∈ front, class_ x < class_ y) → (∀ y ∈ back, class_ x ≤ class_ y) →
      let p : Port := ⟨some x, front ++ back⟩
      ((∀ c, x ≠ .saveProgram c) → s.arbitrate = { s with port := p }) ∧
      ∀ c e rest a l, x = .saveProgram c → s.queue = e :: rest → s.attempt = some a → l ∈ s.directory →
        l.id = e.lesson → (s.directory.map (·.id)).Nodup →
        s.arbitrate = { s with
          port := p, stamp := s.stamp + 1
          attempt := some { a with stamp := some s.stamp, header := programHeader e s.stamp l.title } }

/-- The ends of a save's steps and of reclaim: an erased cell goes on to its program and a programmed one to its commit;
a commit makes the cell USED, puts the page at its place in its lesson, removes the entry and raises SAVE_DONE; a failure
makes the cell BAD with an error record, and the writer chooses again until three cells have failed, then drops the entry
with SAVE_FAILED; reclaim leaves its cell ERASED or BAD; the writer then begins what it may and the port's next step is
granted (R149, R150, R151, R152, R147). The end of a step not in flight cannot occur and changes nothing
(notes/assumptions/2.md). The grant follows what the end's work asks for, and the arbiter of the link chooses once, after
all raises of the command (the model's choices, notes/assumptions/22.md). -/
def Obligations.SaveAndReclaimStepsEnd : Prop :=
  ∀ (s : State) (cell : Nat) (ok : Bool),
    let landed : Store := { s.store with port := { s.store.port with inFlight := none } }
    let goOn (t : State) : Host.Outcome State Fault Refusal := .next (State.transmit (State.arbitratePort t))
    let asked (w : WriterState) (cells : List CellState) (x : PortStep) : State :=
      { s with store := { landed with writer := w, cells := cells, port := ⟨none, s.store.port.waiting ++ [x]⟩ } }
    let failed (k : ErrorKind) : State :=
      State.recordError { s with store := { landed with cells := s.store.cells.set cell .bad } } .store k cell
    let again (k : ErrorKind) (e : SaveEntry) (tries : Nat) : State :=
      if tries < 3 then (failed k).chooseCell tries
      else (failed k).leaveQueue.raise (.saveFailed e.lesson e.ordinal e.frame cell)
    (s.store.port.inFlight = some (.saveErase cell) →
      exec (.saveEraseEnd true) s = goOn (asked .program (s.store.cells.set cell .writing) (.saveProgram cell))) ∧
    (s.store.port.inFlight = some (.saveProgram cell) →
      exec (.programEnd true) s = goOn (asked .commit s.store.cells (.saveCommit cell))) ∧
    (∀ e rest a, s.store.queue = e :: rest → s.store.attempt = some a →
      (s.store.port.inFlight = some (.saveErase cell) →
        exec (.saveEraseEnd false) s = goOn (again .eraseFail e a.tries).runWriter) ∧
      (s.store.port.inFlight = some (.saveProgram cell) →
        exec (.programEnd false) s = goOn (again .programFail e a.tries).runWriter) ∧
      (s.store.port.inFlight = some (.saveCommit cell) →
        exec (.commitEnd false) s = goOn (again .programFail e a.tries).runWriter ∧
        ∀ stamp, s.store.DirectoryLaw → a.stamp = some stamp →
          let saved : State :=
            { s with
              slots := State.slots (State.leaveQueue s)
              store :=
                { landed with
                  cells := s.store.cells.set cell .used, queue := rest, writer := .idle, attempt := none
                  directory := s.store.directory.map fun l =>
                    if l.id = e.lesson then
                      { l with
                        pages := l.pages.filter (fun p => decide (p.ordinal < e.ordinal)) ++
                          ⟨cell, e.ordinal, stamp⟩ :: l.pages.filter (fun p => decide (e.ordinal < p.ordinal)) }
                    else l } }
          exec (.commitEnd true) s = goOn (State.runWriter (saved.raise
            (.saveDone e.lesson e.ordinal cell stamp e.frame e.outputCount))))) ∧
    (s.store.port.inFlight = some (.reclaimErase cell) →
      let done : State :=
        { s with store :=
            { landed with writer := .idle, cells := s.store.cells.set cell (if ok then .erased else .bad) } }
      exec (.reclaimEraseEnd ok) s =
        goOn (if ok then done.runWriter else (done.recordError .store .eraseFail cell).runWriter)) ∧
    ((∀ c, s.store.port.inFlight ≠ some (.saveErase c)) → exec (.saveEraseEnd ok) s = .next s) ∧
    ((∀ c, s.store.port.inFlight ≠ some (.saveProgram c)) → exec (.programEnd ok) s = .next s) ∧
    ((∀ c, s.store.port.inFlight ≠ some (.saveCommit c)) → exec (.commitEnd ok) s = .next s) ∧
    ((∀ c, s.store.port.inFlight ≠ some (.reclaimErase c)) → exec (.reclaimEraseEnd ok) s = .next s)

/-- What the step that holds the port does at the flash device (R154). A program writes the header bytes and then the
image read from the slot of the head entry, from byte 4096, each in rising order (R9, R149, R194); a commit writes 0x00 at
byte 50 and a tombstone at byte 51 (R150, R155, R194), each byte counted from its cell's start, which is byte
cell × 16,777,216 of the flash (R133); an erase takes every erase block of its cell once, from the highest down to the lowest, the one with the header area last (R135); a mount reads the identity and each cell's header area
(R136), a recall the header area and the image (R158), an export its bytes of the image (R159). The size of an erase block
is open, and that each of these areas is one read is the model's choice (notes/assumptions/25.md). -/
def Obligations.FlashTraffic : Prop :=
  ∀ s : State,
    let flying (x : PortStep) : Prop := s.store.port.inFlight = some x
    let start (cell : Nat) : Nat := cell * 16777216
    let written (first : Nat) (bytes : List Byte) : List FlashOp :=
      (List.range bytes.length).map fun k => .program (first + k) (bytes.getD k 0)
    let b := Config.eraseBlockBytes
    (s.store.port.inFlight = none → s.flashOps = []) ∧
    (∀ cell a e rest l n img, flying (.saveProgram cell) → s.store.state = .ready → s.store.WriterLaw →
      s.store.attempt = some a → s.store.queue = e :: rest → a.stamp = some n → l ∈ s.store.directory →
      l.id = e.lesson → (s.store.directory.map (·.id)).Nodup →
      (s.slots.get e.slot).image = img → wholeImage img = true →
      s.flashOps =
        written (start cell) (programHeader e n l.title) ++ written (start cell + 4096) img.flatten) ∧
    (∀ cell, flying (.saveCommit cell) → s.flashOps = [.program (start cell + 50) 0x00]) ∧
    (∀ id ordinal cell replyTag, flying (.tombstone id ordinal cell replyTag) →
      s.flashOps = [.program (start cell + 51) 0x00]) ∧
    (∀ cell, flying (.saveErase cell) ∨ flying (.reclaimErase cell) ∨ flying (.formatErase cell) →
      ∃ starts : List Nat, s.flashOps = starts.map (fun first => .eraseBlock (start cell + first) b) ∧
        starts.Pairwise (· > ·) ∧ starts.getLast? = some 0 ∧
        (∀ first ∈ starts, b ∣ first ∧ first + b ≤ 16777216) ∧
        ∀ place < 16777216, ∃ first ∈ starts, first ≤ place ∧ place < first + b) ∧
    (flying .identityRead → s.flashOps = [.readIdentity]) ∧
    (∀ cell, flying (.headerRead cell) → s.flashOps = [.read (start cell) 4096]) ∧
    (∀ cell, flying (.recallRead cell) → s.flashOps =
      [.read (start cell) 4096, .read (start cell + 4096) 10077696]) ∧
    ∀ tag cell offset length adjusted, flying (.exportRead tag cell offset length adjusted) →
      s.flashOps = [.read (start cell + 4096 + offset) length]

/-! ### Lessons and pages -/

/-- The lesson requests in READY: their refusals in order, and what each does to the directory and replies (R142 to R146,
R155). LESSON LIST with a first position above 63 is answered OK without entries, which is the model's choice
(notes/assumptions/23.md). -/
def Obligations.LessonRequests : Prop :=
  ∀ (tag lesson first : Byte) (title : List Byte) (s : State), s.link.Free → s.store.state = .ready → s.store.DirectoryLaw →
    let dir := s.store.directory
    let anyOpen := ∃ l ∈ dir, l.isOpen = true
    let answerOpen := s.link.answered ⟨0x58, tag, title⟩
    let answerResume := s.link.answered ⟨0x59, tag, [lesson]⟩
    let answerPages := s.link.answered ⟨0x5C, tag, [lesson, first]⟩
    let answerDelete := s.link.answered ⟨0x5D, tag, [lesson]⟩
    let withDir (d : List Lesson) (link : Link) : Host.Outcome State Fault Refusal :=
      .next { s with store := { s.store with directory := d }, link := link }
    let saying (link : Link) : Host.Outcome State Fault Refusal := .next { s with link := link }
    let changed (id : Nat) (f : Lesson → Lesson) : List Lesson := dir.map fun m => if m.id = id then f m else m
    (anyOpen → exec (.lessonOpen tag title) s = saying (answerOpen .refused [11])) ∧
    (¬anyOpen → 64 ≤ dir.length → exec (.lessonOpen tag title) s = saying (answerOpen .refused [12])) ∧
    (¬anyOpen → dir.length < 64 → ∀ id : Nat, 1 ≤ id → (∀ l ∈ dir, l.id ≠ id) →
      (∀ k, 1 ≤ k → k < id → ∃ l ∈ dir, l.id = k) →
      exec (.lessonOpen tag title) s = withDir
        (dir.filter (fun l => decide (l.id < id)) ++ ⟨id, title.take 24, true, 1, false, []⟩ ::
          dir.filter (fun l => decide (id < l.id)))
        (answerOpen (okIf (title.length ≤ 24))
          ([BitVec.ofNat 8 id, BitVec.ofNat 8 (min title.length 24)] ++ title.take 24))) ∧
    ((∀ l ∈ dir, l.id ≠ lesson.toNat) →
      exec (.lessonResume tag lesson) s = saying (answerResume .refused [13]) ∧
      exec (.lessonPages tag lesson first) s = saying (answerPages .refused [13]) ∧
      exec (.lessonDelete tag lesson) s = saying (answerDelete .refused [13])) ∧
    (∀ l ∈ dir, l.id = lesson.toNat →
      (l.deleting = true → exec (.lessonResume tag lesson) s = saying (answerResume .refused [16])) ∧
      (l.deleting = false → anyOpen → exec (.lessonResume tag lesson) s = saying (answerResume .refused [11])) ∧
      (l.deleting = false → ¬anyOpen → ∀ next : Nat,
        let used := l.pages.map (·.ordinal) ++ s.store.queuedOrdinals l.id
        (∀ o ∈ used, o < next) → (next = 1 ∨ ∃ o ∈ used, o + 1 = next) →
        exec (.lessonResume tag lesson) s = withDir (changed l.id fun m => { m with isOpen := true, next := next })
          (answerResume .ok
            ([lesson, BitVec.ofNat 8 l.title.length] ++ l.title ++ le16 next))) ∧
      exec (.lessonPages tag lesson first) s = saying (answerPages .ok
        ([BitVec.ofNat 8 l.pages.length, BitVec.ofNat 8 (min (l.pages.length - first.toNat) 40)] ++
          (((l.pages.drop first.toNat).take 40).map fun p =>
            [BitVec.ofNat 8 p.ordinal] ++ le16 p.cell ++ le32 p.stamp.toNat).flatten)) ∧
      (l.isOpen = true → exec (.lessonDelete tag lesson) s = saying (answerDelete .refused [14])) ∧
      (l.isOpen = false → s.store.queuedOrdinals l.id ≠ [] →
        exec (.lessonDelete tag lesson) s = saying (answerDelete .refused [15])) ∧
      (l.isOpen = false → s.store.queuedOrdinals l.id = [] → l.deleting = true →
        exec (.lessonDelete tag lesson) s = saying (answerDelete .refused [16])) ∧
      (l.isOpen = false → s.store.queuedOrdinals l.id = [] → l.deleting = false →
        (s.store.deleteWork ≠ none → exec (.lessonDelete tag lesson) s = saying (answerDelete .busy [])) ∧
        ∀ p more, s.store.deleteWork = none → l.pages = p :: more →
          exec (.lessonDelete tag lesson) s = .next { s with
            store := Store.arbitrate { s.store with
              directory := changed l.id fun m => { m with deleting := true }
              deleteWork := some ⟨l.id, 0, 0⟩
              port := { s.store.port with
                waiting := s.store.port.waiting ++ [.tombstone l.id p.ordinal p.cell none] } }
            link := answerDelete .accepted [] })) ∧
    (¬anyOpen → exec (.lessonClose tag) s = saying (s.link.answered ⟨0x5A, tag, []⟩ .ok [0])) ∧
    (∀ l ∈ dir, l.isOpen = true →
      exec (.lessonClose tag) s = withDir
        (if l.pages = [] ∧ s.store.queuedOrdinals l.id = [] then dir.filter (fun m => decide (m.id ≠ l.id))
          else changed l.id fun m => { m with isOpen := false })
        (s.link.answered ⟨0x5A, tag, []⟩ .ok [BitVec.ofNat 8 l.id])) ∧
    exec (.lessonList tag first) s = saying (s.link.answered ⟨0x5B, tag, [first]⟩ .ok
      ([BitVec.ofNat 8 dir.length, BitVec.ofNat 8 (min (dir.length - first.toNat) 32)] ++
        (((dir.drop first.toNat).take 32).map fun l =>
          [BitVec.ofNat 8 l.id, BitVec.ofNat 8 l.title.length] ++ l.title ++ List.replicate (24 - l.title.length) 0 ++
            [BitVec.ofNat 8 l.pages.length] ++ le16 l.next ++
            [(if l.isOpen then 1 else 0) + (if l.deleting then 2 else 0)]).flatten))

/-- PAGE DELETE, PAGE RECALL and PAGE READ in READY: their shared refusals in order; a delete and an export ask for
their step and defer the reply; a recall allocates the lowest FREE slot, asks for its read and is ACCEPTED (R156, R157,
R159, R6, R169). That the reply past the image end, for which R159 gives no offset and no length, carries both as 0 by
R192's last sentence is the model's reading (notes/assumptions/15.md). -/
def Obligations.PageRequests : Prop :=
  ∀ (tag lesson ordinal restoreView : Byte) (offset : Word) (length : Half) (s : State),
    s.link.Free → s.store.state = .ready → s.store.DirectoryLaw →
    let delete : Instr := .pageDelete tag lesson ordinal
    let load : Instr := .pageRecall tag lesson ordinal restoreView
    let read : Instr := .pageRead tag lesson ordinal offset length
    let dir := s.store.directory
    (∀ c r, (c = delete ∨ c = load ∨ c = read) → encodeRequest c = some r →
      let refused (reason : Byte) : Host.Outcome State Fault Refusal :=
        .next { s with link := s.link.answered r .refused [reason] }
      ((∀ l ∈ dir, l.id ≠ lesson.toNat) → exec c s = refused 13) ∧
      ∀ l ∈ dir, l.id = lesson.toNat →
        (l.deleting = true → exec c s = refused 16) ∧
        (l.deleting = false → (∀ p ∈ l.pages, p.ordinal ≠ ordinal.toNat) → exec c s = refused 17)) ∧
    ∀ l ∈ dir, ∀ p ∈ l.pages, l.id = lesson.toNat → l.deleting = false → p.ordinal = ordinal.toNat →
      let asked (x : PortStep) : Store :=
        Store.arbitrate { s.store with port := { s.store.port with waiting := s.store.port.waiting ++ [x] } }
      let n := min (max 1 (min length.toNat 1024)) (10077696 - offset.toNat)
      let answerLoad := s.link.answered ⟨0x61, tag, [lesson, ordinal, restoreView]⟩
      let readRequest : Request := ⟨0x62, tag, [lesson, ordinal] ++ wordBytes offset ++ halfBytes length⟩
      exec delete s = .next (State.transmit { s with
        store := asked (.tombstone l.id p.ordinal p.cell (some tag))
        link := { s.link with hand := some ⟨0x60, tag, [lesson, ordinal]⟩ } }) ∧
      (10077696 ≤ offset.toNat → exec read s =
        .next { s with link := s.link.answered readRequest .adjusted [0, 0, 0, 0, 0, 0] }) ∧
      (offset.toNat < 10077696 → exec read s = .next (State.transmit { s with
        store := asked (.exportRead tag p.cell offset.toNat n (decide (n ≠ length.toNat)))
        link := { s.link with hand := some readRequest } })) ∧
      (s.store.recallLoad ≠ none → exec load s = .next { s with link := answerLoad .busy [] }) ∧
      (s.store.recallLoad = none → (∀ i, (s.slots.get i).phase ≠ .loading) →
        ((∀ i, (s.slots.get i).phase ≠ .free) → exec load s = .next { s with link := answerLoad .refused [3] }) ∧
        ∀ i, (s.slots.get i).phase = .free → (∀ j, (s.slots.get j).phase = .free → i ≤ j) →
          exec load s = .next { s with
            slots := s.slots.set i
              { s.slots.get i with
                phase := .loading, origin := some (.store l.id p.ordinal), focus := none }
            store := { asked (.recallRead p.cell) with
              recallLoad := some ⟨l.id, p.ordinal, p.cell, i, decide (restoreView ≠ 0)⟩ }
            link := answerLoad .accepted [BitVec.ofNat 8 i.val] })

/-- The ends of a tombstone, a recall read and an export read (R155, R156, R158, R159, R16, R17, R74). A tombstone takes
its page from the list whether it succeeds or not, then answers PAGE DELETE or goes on with the lesson delete; a recall
completes its slot with RECALL or abandons it; an export answers with the bytes read. The end of a step not in flight
cannot occur and changes nothing (notes/assumptions/2.md). That STORE_STATE counts successes and failures apart, and that a
recall's image is placed at its end alone, are the model's readings (notes/assumptions/14.md, notes/assumptions/3.md). The
grant follows what the end's work asks for, and the arbiter of the link chooses once, after all raises of the command (the
model's choices, notes/assumptions/22.md). -/
def Obligations.PageStepsEnd : Prop :=
  ∀ s : State,
    let landed : Store := { s.store with port := { s.store.port with inFlight := none } }
    let goOn (t : State) : Host.Outcome State Fault Refusal := .next (State.transmit (State.arbitratePort t))
    let reply (code tag : Byte) (status : Status) (results : List Byte) : Link :=
      { s.link with waitingReply := some ⟨code, tag, status, results, .nothing⟩ }
    (∀ id ordinal cell replyTag ok, s.store.port.inFlight = some (.tombstone id ordinal cell replyTag) →
      let told : State := if ok then s else s.recordError .store .programFail cell
      let dir := s.store.directory.map fun l =>
        if l.id = id then { l with pages := l.pages.filter fun p => decide ¬(p.ordinal = ordinal ∧ p.cell = cell) } else l
      let store : Store := { landed with cells := s.store.cells.set cell (if ok then .dead else .bad), directory := dir }
      let bare (l : Lesson) : Prop :=
        l.id = id ∧ l.isOpen = false ∧ l.pages = [] ∧ ∀ e ∈ s.store.queue, e.lesson ≠ l.id
      (∀ tag, replyTag = some tag → exec (.tombstoneEnd ok) s = goOn (State.runWriter { told with
        store := { store with directory := dir.filter fun l => decide ¬bare l }
        link := reply 0x60 tag .ok [if ∃ l ∈ dir, bare l then 1 else 0, if ok then 1 else 0] })) ∧
      ∀ d l, replyTag = none → s.store.deleteWork = some d → l ∈ dir → l.id = d.lesson → l.deleting = true →
        (dir.map (·.id)).Nodup →
        let d' : DeleteWork := ⟨d.lesson, d.tombstoned + (if ok then 1 else 0), d.failed + (if ok then 0 else 1)⟩
        (∀ p more, l.pages = p :: more → exec (.tombstoneEnd ok) s = goOn (State.runWriter { told with
          store := { store with
            deleteWork := some d'
            port := ⟨none, s.store.port.waiting ++ [.tombstone d.lesson p.ordinal p.cell none]⟩ } })) ∧
        (l.pages = [] → exec (.tombstoneEnd ok) s = goOn (State.runWriter (State.raise { told with
          store := { store with
            directory := dir.filter fun m => decide (m.id ≠ d.lesson)
            deleteWork := none } }
          (.storeState s.store.state s.store.cellCount s.store.fault d.lesson d'.tombstoned d'.failed))))) ∧
    (∀ c r, s.store.port.inFlight = some (.recallRead c) → s.store.recallLoad = some r →
      let failed : Host.Outcome State Fault Refusal := goOn (State.raise
        (State.recordError
          { s with
            slots := s.slots.map fun x =>
              if x.phase = .loading then { x with phase := .free, origin := none, focus := none } else x
            store := { landed with recallLoad := none } }
          .store .readFail r.cell)
        (.recallDone r.lesson r.ordinal r.slot true r.restoreView))
      exec (.recallReadEnd none) s = failed ∧
      ∀ got : CellRead,
        let b (i : Nat) : Byte := got.header.getD i 0xFF
        let right := [b 0, b 1, b 2, b 3] = [0x57, 0x58, 0x50, 0x31] ∧
          crcBytes ((List.range 48).map b) = [b 48, b 49] ∧ (b 4).toNat = r.lesson ∧ (b 5).toNat = r.ordinal
        (¬right → exec (.recallReadEnd (some got)) s = failed) ∧
        (right → exec (.recallReadEnd (some got)) s = goOn (State.raise
          { s with
            slots := s.slots.mapIdx fun j x =>
              if j = r.slot then
                { x with phase := .ready, image := got.image, tags := { x.tags with recalled := true } }
              else
                let y : Slot := { x with tags := { x.tags with recalled := false } }
                if x.tags.recalled = true ∧ x.phase = .ready ∧ y.tags = TagSet.empty ∧ x.pins = 0 then
                  { y with phase := .free, origin := none, focus := none }
                else y
            store := { landed with recallLoad := none }
            views :=
              if r.restoreView then
                s.views.set 0 { s.views.get 0 with
                  target := max 256 (min ((b 18).toNat + 256 * (b 19).toNat) 2048)
                  cx := min ((b 20).toNat + 256 * (b 21).toNat) 2591
                  cy := min ((b 22).toNat + 256 * (b 23).toNat) 1943 }
              else s.views }
          (.recallDone r.lesson r.ordinal r.slot false r.restoreView)))) ∧
    (∀ tag cell offset length adjusted, s.store.port.inFlight = some (.exportRead tag cell offset length adjusted) →
      (exec (.exportReadEnd none) s = goOn { s.recordError .store .readFail cell with
        store := landed, link := reply 0x62 tag .refused [18] }) ∧
      ∀ data : List Byte, data.length = length →
        exec (.exportReadEnd (some data)) s = goOn { s with
          store := landed
          link := reply 0x62 tag (if adjusted then .adjusted else .ok) (le32 offset ++ le16 length ++ data) }) ∧
    (∀ ok, (∀ id ordinal cell tag, s.store.port.inFlight ≠ some (.tombstone id ordinal cell tag)) →
      exec (.tombstoneEnd ok) s = .next s) ∧
    (∀ got, (∀ c, s.store.port.inFlight ≠ some (.recallRead c)) → exec (.recallReadEnd got) s = .next s) ∧
    ∀ data, (∀ tag cell offset length adjusted,
      s.store.port.inFlight ≠ some (.exportRead tag cell offset length adjusted)) →
      exec (.exportReadEnd data) s = .next s

/-! ### Invariants -/

/-- After reset every law of the whole part holds. -/
def Obligations.LawsHoldAtReset : Prop := State.reset.Law

/-- Every step keeps the slot law: a slot is READY exactly while a tag or a pin holds it, at most one slot fills and one
loads, and each of five tags is on at most one slot (R2, R4). -/
def Obligations.SlotLawKept : Prop :=
  ∀ s t : State, s.slots.Law → step s = .next t → t.slots.Law

/-- Every step keeps the pin law: pins and pane jobs are those of the output frame being scanned, and outside RUN there
are none (R5, R76, R101). -/
def Obligations.PinLawKept : Prop :=
  ∀ s t : State, s.PinLaw → step s = .next t → t.PinLaw

/-- Every step keeps the queue law: at most four entries, no two of one frame, and the CAPTURE tags are on exactly their
slots, which stay READY with the frames the entries name (R4, R124, R147). -/
def Obligations.QueueLawKept : Prop :=
  ∀ s t : State, s.QueueLaw → step s = .next t → t.QueueLaw

/-- Every step keeps the work law: intake's frame record, the FILLING slot, the recall load, the LOADING slot, the
origins and focus measures, and the loss timer agree (R3, R25, R133). -/
def Obligations.WorkLawKept : Prop :=
  ∀ s t : State, s.WorkLaw → step s = .next t → t.WorkLaw

/-- Every step keeps the values of the slot records, the statistics, intake, the watch, the views, the profiles, output,
capture, the notice records, the error table, the link and the save queue's entries in the ranges their rules give (R1,
R25, R37, R38, R43, R55, R59, R76, R94, R102, R115, R124, R161, R176, R184), where the pins are those of the frame being
scanned (R5). -/
def Obligations.RangeLawKept : Prop :=
  ∀ s t : State, s.RangeLaw → s.PinLaw → step s = .next t → t.RangeLaw

/-- Every step keeps the store's books: the cell table and directory that the store state allows, a sound scan, and a
lesson directory whose ids and ordinals rise, whose next ordinals exceed all in use, and whose queue entries name it
(R133, R134, R142, R147). -/
def Obligations.StoreLawKept : Prop :=
  ∀ s t : State, s.store.BookLaw → step s = .next t → t.store.BookLaw

/-- From a state that meets every law, a step keeps the agreement of cell table and page lists: in READY every USED cell
stands exactly once in one lesson's page list and every listed cell is USED, each tombstone at the port names a listed page
and no two name one; a mount's USED cells are its candidates, and a format erases in index order (R135, R137, R139, R155,
R156). -/
def Obligations.CellLawKept : Prop :=
  ∀ s t : State, s.Law → step s = .next t → t.store.CellLaw

/-- From a state that meets every law, a step keeps these: writer state, attempt record, the writer's step at the port and
the one cell in hand agree, a granted program's stamp and header are its attempt's, and an IDLE writer has nothing to save
or reclaim (R147 to R149, R152 to R154); each work in hand has its one step at the port, and outside READY none is in hand
(R154); and a request in the hand has exactly one reply deferred, waiting or being sent (R166, R169). -/
def Obligations.WriterPortAndAnswersAgree : Prop :=
  ∀ s t : State, s.Law → step s = .next t → t.store.WriterLaw ∧ t.store.PortLaw ∧ t.AnswerLaw

/-- A READY slot's image, origin and focus measure never change while it stays READY: across any step the slot keeps
them, or it is FREE afterwards (R2, R3, R5). -/
def Obligations.ReadyImageUnchanged : Prop :=
  ∀ (s t : State) (i : Fin 12), s.slots.Law → s.WorkLaw → step s = .next t → (s.slots.get i).phase = .ready →
    (t.slots.get i).phase = .free ∨
      ((t.slots.get i).phase = .ready ∧ (t.slots.get i).image = (s.slots.get i).image ∧
        (t.slots.get i).origin = (s.slots.get i).origin ∧ (t.slots.get i).focus = (s.slots.get i).focus)
end

