-- ==== Sys2Proof/Laws/State.lean ====
section
/-! SUPPORT. Every block update against every field of the state, so that no proof unfolds a record update. -/

namespace Sys2Proof.Machine

variable (s : State)

/-! `State.withSlots` -/

@[simp] theorem State.withSlots_slots (x : Slots) : (s.withSlots x).slots = x := rfl
@[simp] theorem State.withSlots_intake (x : Slots) : (s.withSlots x).intake = s.intake := rfl
@[simp] theorem State.withSlots_watch (x : Slots) : (s.withSlots x).watch = s.watch := rfl
@[simp] theorem State.withSlots_views (x : Slots) : (s.withSlots x).views = s.views := rfl
@[simp] theorem State.withSlots_pipe (x : Slots) : (s.withSlots x).pipe = s.pipe := rfl
@[simp] theorem State.withSlots_output (x : Slots) : (s.withSlots x).output = s.output := rfl
@[simp] theorem State.withSlots_capture (x : Slots) : (s.withSlots x).capture = s.capture := rfl
@[simp] theorem State.withSlots_store (x : Slots) : (s.withSlots x).store = s.store := rfl
@[simp] theorem State.withSlots_link (x : Slots) : (s.withSlots x).link = s.link := rfl
@[simp] theorem State.withSlots_notices (x : Slots) : (s.withSlots x).notices = s.notices := rfl
@[simp] theorem State.withSlots_errors (x : Slots) : (s.withSlots x).errors = s.errors := rfl
@[simp] theorem State.withSlots_openChoice (x : Slots) : (s.withSlots x).openChoice = s.openChoice := rfl
@[simp] theorem State.withSlots_schedule (x : Slots) : (s.withSlots x).schedule = s.schedule := rfl
@[simp] theorem State.withSlots_pending (x : Slots) : (s.withSlots x).pending = s.pending := rfl

/-! `State.withIntake` -/

@[simp] theorem State.withIntake_slots (x : Intake) : (s.withIntake x).slots = s.slots := rfl
@[simp] theorem State.withIntake_intake (x : Intake) : (s.withIntake x).intake = x := rfl
@[simp] theorem State.withIntake_watch (x : Intake) : (s.withIntake x).watch = s.watch := rfl
@[simp] theorem State.withIntake_views (x : Intake) : (s.withIntake x).views = s.views := rfl
@[simp] theorem State.withIntake_pipe (x : Intake) : (s.withIntake x).pipe = s.pipe := rfl
@[simp] theorem State.withIntake_output (x : Intake) : (s.withIntake x).output = s.output := rfl
@[simp] theorem State.withIntake_capture (x : Intake) : (s.withIntake x).capture = s.capture := rfl
@[simp] theorem State.withIntake_store (x : Intake) : (s.withIntake x).store = s.store := rfl
@[simp] theorem State.withIntake_link (x : Intake) : (s.withIntake x).link = s.link := rfl
@[simp] theorem State.withIntake_notices (x : Intake) : (s.withIntake x).notices = s.notices := rfl
@[simp] theorem State.withIntake_errors (x : Intake) : (s.withIntake x).errors = s.errors := rfl
@[simp] theorem State.withIntake_openChoice (x : Intake) : (s.withIntake x).openChoice = s.openChoice := rfl
@[simp] theorem State.withIntake_schedule (x : Intake) : (s.withIntake x).schedule = s.schedule := rfl
@[simp] theorem State.withIntake_pending (x : Intake) : (s.withIntake x).pending = s.pending := rfl

/-! `State.withWatch` -/

@[simp] theorem State.withWatch_slots (x : Watch) : (s.withWatch x).slots = s.slots := rfl
@[simp] theorem State.withWatch_intake (x : Watch) : (s.withWatch x).intake = s.intake := rfl
@[simp] theorem State.withWatch_watch (x : Watch) : (s.withWatch x).watch = x := rfl
@[simp] theorem State.withWatch_views (x : Watch) : (s.withWatch x).views = s.views := rfl
@[simp] theorem State.withWatch_pipe (x : Watch) : (s.withWatch x).pipe = s.pipe := rfl
@[simp] theorem State.withWatch_output (x : Watch) : (s.withWatch x).output = s.output := rfl
@[simp] theorem State.withWatch_capture (x : Watch) : (s.withWatch x).capture = s.capture := rfl
@[simp] theorem State.withWatch_store (x : Watch) : (s.withWatch x).store = s.store := rfl
@[simp] theorem State.withWatch_link (x : Watch) : (s.withWatch x).link = s.link := rfl
@[simp] theorem State.withWatch_notices (x : Watch) : (s.withWatch x).notices = s.notices := rfl
@[simp] theorem State.withWatch_errors (x : Watch) : (s.withWatch x).errors = s.errors := rfl
@[simp] theorem State.withWatch_openChoice (x : Watch) : (s.withWatch x).openChoice = s.openChoice := rfl
@[simp] theorem State.withWatch_schedule (x : Watch) : (s.withWatch x).schedule = s.schedule := rfl
@[simp] theorem State.withWatch_pending (x : Watch) : (s.withWatch x).pending = s.pending := rfl

/-! `State.withViews` -/

@[simp] theorem State.withViews_slots (x : Table Window 4) : (s.withViews x).slots = s.slots := rfl
@[simp] theorem State.withViews_intake (x : Table Window 4) : (s.withViews x).intake = s.intake := rfl
@[simp] theorem State.withViews_watch (x : Table Window 4) : (s.withViews x).watch = s.watch := rfl
@[simp] theorem State.withViews_views (x : Table Window 4) : (s.withViews x).views = x := rfl
@[simp] theorem State.withViews_pipe (x : Table Window 4) : (s.withViews x).pipe = s.pipe := rfl
@[simp] theorem State.withViews_output (x : Table Window 4) : (s.withViews x).output = s.output := rfl
@[simp] theorem State.withViews_capture (x : Table Window 4) : (s.withViews x).capture = s.capture := rfl
@[simp] theorem State.withViews_store (x : Table Window 4) : (s.withViews x).store = s.store := rfl
@[simp] theorem State.withViews_link (x : Table Window 4) : (s.withViews x).link = s.link := rfl
@[simp] theorem State.withViews_notices (x : Table Window 4) : (s.withViews x).notices = s.notices := rfl
@[simp] theorem State.withViews_errors (x : Table Window 4) : (s.withViews x).errors = s.errors := rfl
@[simp] theorem State.withViews_openChoice (x : Table Window 4) : (s.withViews x).openChoice = s.openChoice := rfl
@[simp] theorem State.withViews_schedule (x : Table Window 4) : (s.withViews x).schedule = s.schedule := rfl
@[simp] theorem State.withViews_pending (x : Table Window 4) : (s.withViews x).pending = s.pending := rfl

/-! `State.withPipe` -/

@[simp] theorem State.withPipe_slots (x : Pipe) : (s.withPipe x).slots = s.slots := rfl
@[simp] theorem State.withPipe_intake (x : Pipe) : (s.withPipe x).intake = s.intake := rfl
@[simp] theorem State.withPipe_watch (x : Pipe) : (s.withPipe x).watch = s.watch := rfl
@[simp] theorem State.withPipe_views (x : Pipe) : (s.withPipe x).views = s.views := rfl
@[simp] theorem State.withPipe_pipe (x : Pipe) : (s.withPipe x).pipe = x := rfl
@[simp] theorem State.withPipe_output (x : Pipe) : (s.withPipe x).output = s.output := rfl
@[simp] theorem State.withPipe_capture (x : Pipe) : (s.withPipe x).capture = s.capture := rfl
@[simp] theorem State.withPipe_store (x : Pipe) : (s.withPipe x).store = s.store := rfl
@[simp] theorem State.withPipe_link (x : Pipe) : (s.withPipe x).link = s.link := rfl
@[simp] theorem State.withPipe_notices (x : Pipe) : (s.withPipe x).notices = s.notices := rfl
@[simp] theorem State.withPipe_errors (x : Pipe) : (s.withPipe x).errors = s.errors := rfl
@[simp] theorem State.withPipe_openChoice (x : Pipe) : (s.withPipe x).openChoice = s.openChoice := rfl
@[simp] theorem State.withPipe_schedule (x : Pipe) : (s.withPipe x).schedule = s.schedule := rfl
@[simp] theorem State.withPipe_pending (x : Pipe) : (s.withPipe x).pending = s.pending := rfl

/-! `State.withOutput` -/

@[simp] theorem State.withOutput_slots (x : Output) : (s.withOutput x).slots = s.slots := rfl
@[simp] theorem State.withOutput_intake (x : Output) : (s.withOutput x).intake = s.intake := rfl
@[simp] theorem State.withOutput_watch (x : Output) : (s.withOutput x).watch = s.watch := rfl
@[simp] theorem State.withOutput_views (x : Output) : (s.withOutput x).views = s.views := rfl
@[simp] theorem State.withOutput_pipe (x : Output) : (s.withOutput x).pipe = s.pipe := rfl
@[simp] theorem State.withOutput_output (x : Output) : (s.withOutput x).output = x := rfl
@[simp] theorem State.withOutput_capture (x : Output) : (s.withOutput x).capture = s.capture := rfl
@[simp] theorem State.withOutput_store (x : Output) : (s.withOutput x).store = s.store := rfl
@[simp] theorem State.withOutput_link (x : Output) : (s.withOutput x).link = s.link := rfl
@[simp] theorem State.withOutput_notices (x : Output) : (s.withOutput x).notices = s.notices := rfl
@[simp] theorem State.withOutput_errors (x : Output) : (s.withOutput x).errors = s.errors := rfl
@[simp] theorem State.withOutput_openChoice (x : Output) : (s.withOutput x).openChoice = s.openChoice := rfl
@[simp] theorem State.withOutput_schedule (x : Output) : (s.withOutput x).schedule = s.schedule := rfl
@[simp] theorem State.withOutput_pending (x : Output) : (s.withOutput x).pending = s.pending := rfl

/-! `State.withCapture` -/

@[simp] theorem State.withCapture_slots (x : Capture) : (s.withCapture x).slots = s.slots := rfl
@[simp] theorem State.withCapture_intake (x : Capture) : (s.withCapture x).intake = s.intake := rfl
@[simp] theorem State.withCapture_watch (x : Capture) : (s.withCapture x).watch = s.watch := rfl
@[simp] theorem State.withCapture_views (x : Capture) : (s.withCapture x).views = s.views := rfl
@[simp] theorem State.withCapture_pipe (x : Capture) : (s.withCapture x).pipe = s.pipe := rfl
@[simp] theorem State.withCapture_output (x : Capture) : (s.withCapture x).output = s.output := rfl
@[simp] theorem State.withCapture_capture (x : Capture) : (s.withCapture x).capture = x := rfl
@[simp] theorem State.withCapture_store (x : Capture) : (s.withCapture x).store = s.store := rfl
@[simp] theorem State.withCapture_link (x : Capture) : (s.withCapture x).link = s.link := rfl
@[simp] theorem State.withCapture_notices (x : Capture) : (s.withCapture x).notices = s.notices := rfl
@[simp] theorem State.withCapture_errors (x : Capture) : (s.withCapture x).errors = s.errors := rfl
@[simp] theorem State.withCapture_openChoice (x : Capture) : (s.withCapture x).openChoice = s.openChoice := rfl
@[simp] theorem State.withCapture_schedule (x : Capture) : (s.withCapture x).schedule = s.schedule := rfl
@[simp] theorem State.withCapture_pending (x : Capture) : (s.withCapture x).pending = s.pending := rfl

/-! `State.withStore` -/

@[simp] theorem State.withStore_slots (x : Store) : (s.withStore x).slots = s.slots := rfl
@[simp] theorem State.withStore_intake (x : Store) : (s.withStore x).intake = s.intake := rfl
@[simp] theorem State.withStore_watch (x : Store) : (s.withStore x).watch = s.watch := rfl
@[simp] theorem State.withStore_views (x : Store) : (s.withStore x).views = s.views := rfl
@[simp] theorem State.withStore_pipe (x : Store) : (s.withStore x).pipe = s.pipe := rfl
@[simp] theorem State.withStore_output (x : Store) : (s.withStore x).output = s.output := rfl
@[simp] theorem State.withStore_capture (x : Store) : (s.withStore x).capture = s.capture := rfl
@[simp] theorem State.withStore_store (x : Store) : (s.withStore x).store = x := rfl
@[simp] theorem State.withStore_link (x : Store) : (s.withStore x).link = s.link := rfl
@[simp] theorem State.withStore_notices (x : Store) : (s.withStore x).notices = s.notices := rfl
@[simp] theorem State.withStore_errors (x : Store) : (s.withStore x).errors = s.errors := rfl
@[simp] theorem State.withStore_openChoice (x : Store) : (s.withStore x).openChoice = s.openChoice := rfl
@[simp] theorem State.withStore_schedule (x : Store) : (s.withStore x).schedule = s.schedule := rfl
@[simp] theorem State.withStore_pending (x : Store) : (s.withStore x).pending = s.pending := rfl

/-! `State.withLink` -/

@[simp] theorem State.withLink_slots (x : Link) : (s.withLink x).slots = s.slots := rfl
@[simp] theorem State.withLink_intake (x : Link) : (s.withLink x).intake = s.intake := rfl
@[simp] theorem State.withLink_watch (x : Link) : (s.withLink x).watch = s.watch := rfl
@[simp] theorem State.withLink_views (x : Link) : (s.withLink x).views = s.views := rfl
@[simp] theorem State.withLink_pipe (x : Link) : (s.withLink x).pipe = s.pipe := rfl
@[simp] theorem State.withLink_output (x : Link) : (s.withLink x).output = s.output := rfl
@[simp] theorem State.withLink_capture (x : Link) : (s.withLink x).capture = s.capture := rfl
@[simp] theorem State.withLink_store (x : Link) : (s.withLink x).store = s.store := rfl
@[simp] theorem State.withLink_link (x : Link) : (s.withLink x).link = x := rfl
@[simp] theorem State.withLink_notices (x : Link) : (s.withLink x).notices = s.notices := rfl
@[simp] theorem State.withLink_errors (x : Link) : (s.withLink x).errors = s.errors := rfl
@[simp] theorem State.withLink_openChoice (x : Link) : (s.withLink x).openChoice = s.openChoice := rfl
@[simp] theorem State.withLink_schedule (x : Link) : (s.withLink x).schedule = s.schedule := rfl
@[simp] theorem State.withLink_pending (x : Link) : (s.withLink x).pending = s.pending := rfl

/-! `State.withNotices` -/

@[simp] theorem State.withNotices_slots (x : Notices) : (s.withNotices x).slots = s.slots := rfl
@[simp] theorem State.withNotices_intake (x : Notices) : (s.withNotices x).intake = s.intake := rfl
@[simp] theorem State.withNotices_watch (x : Notices) : (s.withNotices x).watch = s.watch := rfl
@[simp] theorem State.withNotices_views (x : Notices) : (s.withNotices x).views = s.views := rfl
@[simp] theorem State.withNotices_pipe (x : Notices) : (s.withNotices x).pipe = s.pipe := rfl
@[simp] theorem State.withNotices_output (x : Notices) : (s.withNotices x).output = s.output := rfl
@[simp] theorem State.withNotices_capture (x : Notices) : (s.withNotices x).capture = s.capture := rfl
@[simp] theorem State.withNotices_store (x : Notices) : (s.withNotices x).store = s.store := rfl
@[simp] theorem State.withNotices_link (x : Notices) : (s.withNotices x).link = s.link := rfl
@[simp] theorem State.withNotices_notices (x : Notices) : (s.withNotices x).notices = x := rfl
@[simp] theorem State.withNotices_errors (x : Notices) : (s.withNotices x).errors = s.errors := rfl
@[simp] theorem State.withNotices_openChoice (x : Notices) : (s.withNotices x).openChoice = s.openChoice := rfl
@[simp] theorem State.withNotices_schedule (x : Notices) : (s.withNotices x).schedule = s.schedule := rfl
@[simp] theorem State.withNotices_pending (x : Notices) : (s.withNotices x).pending = s.pending := rfl

/-! `State.withErrors` -/

@[simp] theorem State.withErrors_slots (x : ErrorTable) : (s.withErrors x).slots = s.slots := rfl
@[simp] theorem State.withErrors_intake (x : ErrorTable) : (s.withErrors x).intake = s.intake := rfl
@[simp] theorem State.withErrors_watch (x : ErrorTable) : (s.withErrors x).watch = s.watch := rfl
@[simp] theorem State.withErrors_views (x : ErrorTable) : (s.withErrors x).views = s.views := rfl
@[simp] theorem State.withErrors_pipe (x : ErrorTable) : (s.withErrors x).pipe = s.pipe := rfl
@[simp] theorem State.withErrors_output (x : ErrorTable) : (s.withErrors x).output = s.output := rfl
@[simp] theorem State.withErrors_capture (x : ErrorTable) : (s.withErrors x).capture = s.capture := rfl
@[simp] theorem State.withErrors_store (x : ErrorTable) : (s.withErrors x).store = s.store := rfl
@[simp] theorem State.withErrors_link (x : ErrorTable) : (s.withErrors x).link = s.link := rfl
@[simp] theorem State.withErrors_notices (x : ErrorTable) : (s.withErrors x).notices = s.notices := rfl
@[simp] theorem State.withErrors_errors (x : ErrorTable) : (s.withErrors x).errors = x := rfl
@[simp] theorem State.withErrors_openChoice (x : ErrorTable) : (s.withErrors x).openChoice = s.openChoice := rfl
@[simp] theorem State.withErrors_schedule (x : ErrorTable) : (s.withErrors x).schedule = s.schedule := rfl
@[simp] theorem State.withErrors_pending (x : ErrorTable) : (s.withErrors x).pending = s.pending := rfl

/-! `State.withOpenChoice` -/

@[simp] theorem State.withOpenChoice_slots (x : Nat) : (s.withOpenChoice x).slots = s.slots := rfl
@[simp] theorem State.withOpenChoice_intake (x : Nat) : (s.withOpenChoice x).intake = s.intake := rfl
@[simp] theorem State.withOpenChoice_watch (x : Nat) : (s.withOpenChoice x).watch = s.watch := rfl
@[simp] theorem State.withOpenChoice_views (x : Nat) : (s.withOpenChoice x).views = s.views := rfl
@[simp] theorem State.withOpenChoice_pipe (x : Nat) : (s.withOpenChoice x).pipe = s.pipe := rfl
@[simp] theorem State.withOpenChoice_output (x : Nat) : (s.withOpenChoice x).output = s.output := rfl
@[simp] theorem State.withOpenChoice_capture (x : Nat) : (s.withOpenChoice x).capture = s.capture := rfl
@[simp] theorem State.withOpenChoice_store (x : Nat) : (s.withOpenChoice x).store = s.store := rfl
@[simp] theorem State.withOpenChoice_link (x : Nat) : (s.withOpenChoice x).link = s.link := rfl
@[simp] theorem State.withOpenChoice_notices (x : Nat) : (s.withOpenChoice x).notices = s.notices := rfl
@[simp] theorem State.withOpenChoice_errors (x : Nat) : (s.withOpenChoice x).errors = s.errors := rfl
@[simp] theorem State.withOpenChoice_openChoice (x : Nat) : (s.withOpenChoice x).openChoice = x := rfl
@[simp] theorem State.withOpenChoice_schedule (x : Nat) : (s.withOpenChoice x).schedule = s.schedule := rfl
@[simp] theorem State.withOpenChoice_pending (x : Nat) : (s.withOpenChoice x).pending = s.pending := rfl

/-! `State.withSchedule` -/

@[simp] theorem State.withSchedule_slots (x : Schedule) : (s.withSchedule x).slots = s.slots := rfl
@[simp] theorem State.withSchedule_intake (x : Schedule) : (s.withSchedule x).intake = s.intake := rfl
@[simp] theorem State.withSchedule_watch (x : Schedule) : (s.withSchedule x).watch = s.watch := rfl
@[simp] theorem State.withSchedule_views (x : Schedule) : (s.withSchedule x).views = s.views := rfl
@[simp] theorem State.withSchedule_pipe (x : Schedule) : (s.withSchedule x).pipe = s.pipe := rfl
@[simp] theorem State.withSchedule_output (x : Schedule) : (s.withSchedule x).output = s.output := rfl
@[simp] theorem State.withSchedule_capture (x : Schedule) : (s.withSchedule x).capture = s.capture := rfl
@[simp] theorem State.withSchedule_store (x : Schedule) : (s.withSchedule x).store = s.store := rfl
@[simp] theorem State.withSchedule_link (x : Schedule) : (s.withSchedule x).link = s.link := rfl
@[simp] theorem State.withSchedule_notices (x : Schedule) : (s.withSchedule x).notices = s.notices := rfl
@[simp] theorem State.withSchedule_errors (x : Schedule) : (s.withSchedule x).errors = s.errors := rfl
@[simp] theorem State.withSchedule_openChoice (x : Schedule) : (s.withSchedule x).openChoice = s.openChoice := rfl
@[simp] theorem State.withSchedule_schedule (x : Schedule) : (s.withSchedule x).schedule = x := rfl
@[simp] theorem State.withSchedule_pending (x : Schedule) : (s.withSchedule x).pending = s.pending := rfl

/-! `State.withPending` -/

@[simp] theorem State.withPending_slots (x : List Instr) : (s.withPending x).slots = s.slots := rfl
@[simp] theorem State.withPending_intake (x : List Instr) : (s.withPending x).intake = s.intake := rfl
@[simp] theorem State.withPending_watch (x : List Instr) : (s.withPending x).watch = s.watch := rfl
@[simp] theorem State.withPending_views (x : List Instr) : (s.withPending x).views = s.views := rfl
@[simp] theorem State.withPending_pipe (x : List Instr) : (s.withPending x).pipe = s.pipe := rfl
@[simp] theorem State.withPending_output (x : List Instr) : (s.withPending x).output = s.output := rfl
@[simp] theorem State.withPending_capture (x : List Instr) : (s.withPending x).capture = s.capture := rfl
@[simp] theorem State.withPending_store (x : List Instr) : (s.withPending x).store = s.store := rfl
@[simp] theorem State.withPending_link (x : List Instr) : (s.withPending x).link = s.link := rfl
@[simp] theorem State.withPending_notices (x : List Instr) : (s.withPending x).notices = s.notices := rfl
@[simp] theorem State.withPending_errors (x : List Instr) : (s.withPending x).errors = s.errors := rfl
@[simp] theorem State.withPending_openChoice (x : List Instr) : (s.withPending x).openChoice = s.openChoice := rfl
@[simp] theorem State.withPending_schedule (x : List Instr) : (s.withPending x).schedule = s.schedule := rfl
@[simp] theorem State.withPending_pending (x : List Instr) : (s.withPending x).pending = x := rfl

end Sys2Proof.Machine
end

