-- ==== Sys2Proof/Laws/Table.lean ====
section
/-! SUPPORT. Tables: reading what was set, filled or mapped, and the lowest index that satisfies a test. -/

namespace Sys2Proof.Machine

variable {α β : Type} {n : Nat}

/-- A record set is the record read. -/
@[simp] theorem Table.get_set_same (t : Table α n) (i : Fin n) (a : α) : (t.set i a).get i = a := by
  simp [Table.get, Table.set]

/-- Setting one record leaves every other alone. -/
theorem Table.get_set_other (t : Table α n) {i j : Fin n} (a : α) (h : i ≠ j) : (t.set i a).get j = t.get j := by
  have hv : i.val ≠ j.val := fun e => h (Fin.ext e)
  simp [Table.get, Table.set, hv]

/-- Reading after a set, in one equation. -/
theorem Table.get_set (t : Table α n) (i j : Fin n) (a : α) : (t.set i a).get j = if i = j then a else t.get j := by
  by_cases h : i = j
  · subst h; simp
  · simp [Table.get_set_other t a h, h]

/-- Reading a filled table. -/
@[simp] theorem Table.get_fill (a : α) (i : Fin n) : (Table.fill n a).get i = a := by
  simp [Table.get, Table.fill]

/-- Reading a mapped table. -/
@[simp] theorem Table.get_map (f : α → β) (t : Table α n) (i : Fin n) : (t.map f).get i = f (t.get i) := by
  simp [Table.get, Table.map]

/-- Reading an indexed map. -/
@[simp] theorem Table.get_mapIdx (f : Fin n → α → β) (t : Table α n) (i : Fin n) :
    (t.mapIdx f).get i = f i (t.get i) := by
  simp [Table.get, Table.mapIdx]

/-- Two tables with equal records are equal. -/
@[ext] theorem Table.ext_get {t u : Table α n} (h : ∀ i, t.get i = u.get i) : t = u := by
  obtain ⟨l, hl⟩ := t
  obtain ⟨m, hm⟩ := u
  have : l = m := by
    apply List.ext_getElem (by rw [hl, hm])
    intro k h1 h2
    exact h ⟨k, by rw [← hl]; exact h1⟩
  subst this
  rfl

/-- The records of a table are those read at its indices. -/
theorem Table.mem_toList (t : Table α n) (a : α) : a ∈ t.toList ↔ ∃ i, t.get i = a := by
  constructor
  · intro h
    obtain ⟨k, hk, e⟩ := List.getElem_of_mem h
    exact ⟨⟨k, by rw [← t.length_eq]; exact hk⟩, e⟩
  · rintro ⟨i, rfl⟩
    exact List.getElem_mem _

/-- The lowest index found satisfies the test, and none before it does. -/
theorem Table.lowest_eq_some {p : α → Bool} {t : Table α n} {i : Fin n} (h : t.lowest p = some i) :
    p (t.get i) = true := List.find?_some (p := fun j => p (t.get j)) h

/-- No index is found exactly when no record satisfies the test. -/
theorem Table.lowest_eq_none {p : α → Bool} {t : Table α n} : t.lowest p = none ↔ ∀ i, p (t.get i) = false := by
  simp [Table.lowest]

/-- The index found is the first of those that satisfy the test. -/
theorem Table.lowest_le {p : α → Bool} {t : Table α n} {i : Fin n} (h : t.lowest p = some i) {j : Fin n}
    (hj : p (t.get j) = true) : i ≤ j := by
  rw [Table.lowest, List.find?_eq_some_iff_append] at h
  obtain ⟨-, as, bs, e, no⟩ := h
  by_contra hlt
  have hji : j < i := not_le.mp hlt
  have hm : j ∈ as ++ i :: bs := by rw [← e]; exact List.mem_finRange j
  have hs : (as ++ i :: bs).Pairwise (· < ·) := by
    rw [← e]; exact List.pairwise_lt_finRange n
  rcases List.mem_append.mp hm with h1 | h1
  · have := no j h1
    simp [hj] at this
  · rcases List.mem_cons.mp h1 with h2 | h2
    · exact absurd hji (by rw [h2]; exact lt_irrefl i)
    · have := (List.pairwise_append.mp hs).2.1
      exact absurd hji (not_lt.mpr (le_of_lt ((List.pairwise_cons.mp this).1 j h2)))

/-- The lowest index is the one that satisfies the test with none below it. -/
theorem Table.lowest_eq_of {p : α → Bool} {t : Table α n} {i : Fin n} (h : p (t.get i) = true)
    (hl : ∀ j < i, p (t.get j) = false) : t.lowest p = some i := by
  cases e : t.lowest p with
  | none => rw [Table.lowest_eq_none] at e; rw [e i] at h; cases h
  | some k =>
    have h1 := Table.lowest_le e h
    rcases lt_or_eq_of_le h1 with h2 | h2
    · have := hl k h2
      rw [Table.lowest_eq_some e] at this
      cases this
    · rw [h2]

end Sys2Proof.Machine
end

