-- ==== Sys2Proof/Laws/Replies.lean ====
section
/-! SUPPORT. What forming a reply and what the transmit arbiter can do, each said once (R166, R168 to R170, R179). -/

namespace Sys2Proof.Machine

/-- A reply formed with the hand filled, then the arbiter: the link answered. -/
theorem finish_reply (s : State) (r : Request) (a : Answer) :
    finish ((s.takeInHand r).formReply r.code r.tag a) =
      .next (s.withLink (s.link.answered r a.status a.results a.after)) := by
  simp only [finish, State.transmit, State.formReply, State.takeInHand, State.withLink, Link.answered]
  cases s.link.transmitter <;> simp

/-- A request taken with the hand empty, its block answering at once: the block's step, with the link answered. -/
theorem respond_eq {i : Instr} {r : Request} (h : encodeRequest i = some r) {s : State} (hh : s.link.hand = none)
    (step : State → State × Answer) :
    respond i s step = .next ((step s).1.withLink
      ((step s).1.link.answered r (step s).2.status (step s).2.results (step s).2.after)) := by
  simp only [respond, respondOrDefer, h, hh]
  exact finish_reply _ _ _

/-- A deferring request taken with the hand empty that answers at once. -/
theorem respondOrDefer_some {i : Instr} {r : Request} (h : encodeRequest i = some r) {s : State}
    (hh : s.link.hand = none) {step : State → State × Option Answer} {t : State} {a : Answer}
    (ha : step s = (t, some a)) :
    respondOrDefer i s step = .next (t.withLink (t.link.answered r a.status a.results a.after)) := by
  simp only [respondOrDefer, h, hh, ha]
  exact finish_reply _ _ _

/-- A deferring request taken with the hand empty whose reply waits for its port step: it stands in the hand. -/
theorem respondOrDefer_none {i : Instr} {r : Request} (h : encodeRequest i = some r) {s : State}
    (hh : s.link.hand = none) {step : State → State × Option Answer} {t : State} (ha : step s = (t, none)) :
    respondOrDefer i s step = .next (t.takeInHand r).transmit := by
  simp only [respondOrDefer, h, hh, ha, finish]

/-- A request given with the hand full: it waits, or is lost with LINK_OVERRUN; its block takes no step (R166). -/
theorem respondOrDefer_full {i : Instr} {r q : Request} (h : encodeRequest i = some r) {s : State}
    (hh : s.link.hand = some q) (step : State → State × Option Answer) :
    respondOrDefer i s step = .next (s.keepWaiting r).transmit := by
  simp only [respondOrDefer, h, hh, finish]

/-- The same of a request whose block answers at once (R166). -/
theorem respond_full {i : Instr} {r q : Request} (h : encodeRequest i = some r) {s : State}
    (hh : s.link.hand = some q) (step : State → State × Answer) :
    respond i s step = .next (s.keepWaiting r).transmit := respondOrDefer_full h hh _

/-- With a frame on the wire the arbiter does nothing (R170). -/
theorem State.transmit_busy {s : State} (h : s.link.transmitter ≠ .idle) : s.transmit = s := by
  unfold State.transmit
  split <;> simp_all

/-- With the transmitter idle a waiting reply is sent (R170). -/
theorem State.transmit_reply {s : State} {r : Reply} (h : s.link.transmitter = .idle)
    (hr : s.link.waitingReply = some r) :
    s.transmit = s.withLink { s.link with transmitter := .reply r, waitingReply := none } := by
  simp [State.transmit, h, hr]

/-- With the transmitter idle and no reply waiting the notice unit's choice begins (R170, R179). -/
theorem State.transmit_choice {s : State} (h : s.link.transmitter = .idle) (hr : s.link.waitingReply = none) :
    s.transmit = match s.notices.choose with
      | some k => s.beginNotice k
      | none => s := by
  cases hc : s.notices.choose <;> simp [State.transmit, h, hr, hc]

/-- The arbiter changes the link and the notice records alone. -/
theorem State.transmit_frame (s : State) :
    ∃ l n, s.transmit = (s.withLink l).withNotices n := by
  have linked : ∀ l, s.withLink l = (s.withLink l).withNotices s.notices := fun _ => rfl
  have idle : s = (s.withLink s.link).withNotices s.notices := rfl
  unfold State.transmit
  split
  · split
    · exact ⟨_, _, linked _⟩
    · split
      · unfold State.beginNotice
        dsimp only
        split
        · exact ⟨_, _, rfl⟩
        · exact ⟨_, _, idle⟩
      · exact ⟨_, _, idle⟩
  · exact ⟨_, _, idle⟩

/-- Every field but the link and the notices is as before the arbiter. -/
@[simp] theorem State.transmit_slots (s : State) : s.transmit.slots = s.slots := by
  obtain ⟨l, n, h⟩ := s.transmit_frame; rw [h]; rfl
@[simp] theorem State.transmit_intake (s : State) : s.transmit.intake = s.intake := by
  obtain ⟨l, n, h⟩ := s.transmit_frame; rw [h]; rfl
@[simp] theorem State.transmit_watch (s : State) : s.transmit.watch = s.watch := by
  obtain ⟨l, n, h⟩ := s.transmit_frame; rw [h]; rfl
@[simp] theorem State.transmit_views (s : State) : s.transmit.views = s.views := by
  obtain ⟨l, n, h⟩ := s.transmit_frame; rw [h]; rfl
@[simp] theorem State.transmit_pipe (s : State) : s.transmit.pipe = s.pipe := by
  obtain ⟨l, n, h⟩ := s.transmit_frame; rw [h]; rfl
@[simp] theorem State.transmit_output (s : State) : s.transmit.output = s.output := by
  obtain ⟨l, n, h⟩ := s.transmit_frame; rw [h]; rfl
@[simp] theorem State.transmit_capture (s : State) : s.transmit.capture = s.capture := by
  obtain ⟨l, n, h⟩ := s.transmit_frame; rw [h]; rfl
@[simp] theorem State.transmit_store (s : State) : s.transmit.store = s.store := by
  obtain ⟨l, n, h⟩ := s.transmit_frame; rw [h]; rfl
@[simp] theorem State.transmit_errors (s : State) : s.transmit.errors = s.errors := by
  obtain ⟨l, n, h⟩ := s.transmit_frame; rw [h]; rfl
@[simp] theorem State.transmit_schedule (s : State) : s.transmit.schedule = s.schedule := by
  obtain ⟨l, n, h⟩ := s.transmit_frame; rw [h]; rfl
@[simp] theorem State.transmit_pending (s : State) : s.transmit.pending = s.pending := by
  obtain ⟨l, n, h⟩ := s.transmit_frame; rw [h]; rfl
@[simp] theorem State.transmit_openChoice (s : State) : s.transmit.openChoice = s.openChoice := by
  obtain ⟨l, n, h⟩ := s.transmit_frame; rw [h]; rfl

end Sys2Proof.Machine
end

