-- ==== Sys2Proof/Laws/Ops.lean ====
section
/-! SUPPORT. The shared operations, each said once: what raising, recording, gliding and the end of a scan can do, and
how request operands are read. -/

namespace Sys2Proof.Machine

/-! ### Places in the flash -/

/-- The first byte of a cell (R133). -/
@[simp] theorem cellPlace_zero (cell : Nat) : cellPlace cell 0 = cell * 16777216 := by
  simp [cellPlace, Config.cellBytes]

/-- Cells do not overlap: a place names one cell and one offset within it (R133). -/
theorem cellPlace_inj {c d k m : Nat} (hk : k < 16777216) (hm : m < 16777216) :
    cellPlace c k = cellPlace d m ↔ c = d ∧ k = m := by
  unfold cellPlace Config.cellBytes
  omega

/-- A cell's image lies within the cell, above its header area (R133). -/
theorem imagePlace_eq (cell offset : Nat) : imagePlace cell offset = cellPlace cell (4096 + offset) := by
  simp [imagePlace, Config.imageOffset]

/-! ### Operands -/

/-- A table number 0..3 is read as itself. -/
theorem index4_some {b : Byte} {m : Fin 4} (h : b.toNat = m.val) : index4 b = some m := by
  unfold index4; rw [dif_pos (by omega)]; congr 1; exact Fin.ext h

/-- A table number above 3 is refused. -/
theorem index4_none {b : Byte} (h : 4 ≤ b.toNat) : index4 b = none := by
  unfold index4; rw [dif_neg (by omega)]

/-- Rounding down to even. -/
theorem evenDown_eq (n : Nat) : evenDown n = 2 * (n / 2) := by unfold evenDown; omega

/-- A clamp as a minimum and a maximum, on a range that is not empty. -/
theorem clamp_eq {lo hi : Nat} (h : lo ≤ hi) (x : Nat) : clamp lo hi x = max lo (min x hi) := by
  unfold clamp; split <;> (try split) <;> omega

/-- The signed clamp as a minimum and a maximum, on a range that is not empty. -/
theorem clampInt_eq {lo hi : Int} (h : lo ≤ hi) (x : Int) : clampInt lo hi x = max lo (min x hi) := by
  unfold clampInt; split <;> (try split) <;> omega

/-! ### Notices and errors -/

/-- Raises one after another change the notice records alone. -/
theorem State.raises_eq {α : Type} (f : α → NoticePayload) (l : List α) (s : State) :
    l.foldl (fun t a => t.raise (f a)) s = s.withNotices (l.foldl (fun n a => n.raise (f a)) s.notices) := by
  induction l generalizing s with
  | nil => rfl
  | cons a l ih => simp only [List.foldl_cons]; rw [ih]; rfl

/-- The recording of an error changes the error table and the notice records alone. -/
theorem State.recordError_frame (s : State) (src : ErrorSource) (k : ErrorKind) (d : Nat) :
    ∃ e n, s.recordError src k d = (s.withErrors e).withNotices n := by
  have errs : ∀ e, s.withErrors e = (s.withErrors e).withNotices s.notices := fun _ => rfl
  have none_ : s = (s.withErrors s.errors).withNotices s.notices := rfl
  have told : ∀ e p, (s.withErrors e).raise p = (s.withErrors e).withNotices (s.notices.raise p) := fun _ _ => rfl
  unfold State.recordError
  dsimp only
  split
  · exact ⟨_, _, errs _⟩
  · split
    · split
      · exact ⟨_, _, told _ _⟩
      · exact ⟨_, _, errs _⟩
    · split
      · exact ⟨_, _, none_⟩
      · exact ⟨_, _, told _ _⟩

/-- Every field but the error table and the notice records is as before an error was recorded. -/
@[simp] theorem State.recordError_slots (s : State) (a b c) : (s.recordError a b c).slots = s.slots := by
  obtain ⟨e, n, h⟩ := s.recordError_frame a b c; rw [h]; rfl
@[simp] theorem State.recordError_intake (s : State) (a b c) : (s.recordError a b c).intake = s.intake := by
  obtain ⟨e, n, h⟩ := s.recordError_frame a b c; rw [h]; rfl
@[simp] theorem State.recordError_watch (s : State) (a b c) : (s.recordError a b c).watch = s.watch := by
  obtain ⟨e, n, h⟩ := s.recordError_frame a b c; rw [h]; rfl
@[simp] theorem State.recordError_views (s : State) (a b c) : (s.recordError a b c).views = s.views := by
  obtain ⟨e, n, h⟩ := s.recordError_frame a b c; rw [h]; rfl
@[simp] theorem State.recordError_pipe (s : State) (a b c) : (s.recordError a b c).pipe = s.pipe := by
  obtain ⟨e, n, h⟩ := s.recordError_frame a b c; rw [h]; rfl
@[simp] theorem State.recordError_output (s : State) (a b c) : (s.recordError a b c).output = s.output := by
  obtain ⟨e, n, h⟩ := s.recordError_frame a b c; rw [h]; rfl
@[simp] theorem State.recordError_capture (s : State) (a b c) : (s.recordError a b c).capture = s.capture := by
  obtain ⟨e, n, h⟩ := s.recordError_frame a b c; rw [h]; rfl
@[simp] theorem State.recordError_store (s : State) (a b c) : (s.recordError a b c).store = s.store := by
  obtain ⟨e, n, h⟩ := s.recordError_frame a b c; rw [h]; rfl
@[simp] theorem State.recordError_link (s : State) (a b c) : (s.recordError a b c).link = s.link := by
  obtain ⟨e, n, h⟩ := s.recordError_frame a b c; rw [h]; rfl
@[simp] theorem State.recordError_openChoice (s : State) (a b c) : (s.recordError a b c).openChoice = s.openChoice := by
  obtain ⟨e, n, h⟩ := s.recordError_frame a b c; rw [h]; rfl
@[simp] theorem State.recordError_schedule (s : State) (a b c) : (s.recordError a b c).schedule = s.schedule := by
  obtain ⟨e, n, h⟩ := s.recordError_frame a b c; rw [h]; rfl
@[simp] theorem State.recordError_pending (s : State) (a b c) : (s.recordError a b c).pending = s.pending := by
  obtain ⟨e, n, h⟩ := s.recordError_frame a b c; rw [h]; rfl

/-- A change of the store does not change what recording an error does. -/
theorem State.recordError_withStore (s : State) (x : Store) (a b c) :
    (s.withStore x).recordError a b c = (s.recordError a b c).withStore x := by
  unfold State.recordError
  dsimp only [State.withStore_errors, State.withStore_intake]
  split
  · rfl
  · split
    · split <;> rfl
    · split <;> rfl

/-! ### Glides -/

/-- What a frame start's glides do: the windows step, the notice records take the raises, the counter of open choices
moves when several windows reach their targets. -/
theorem State.glideStep_eq (s : State) :
    s.glideStep = ((s.withViews (s.views.map Window.glide)).withNotices
      ((raiseOrder s.openChoice (reachedWindows s.views)).foldl
        (fun n i => n.raise (.viewReached i ((s.views.map Window.glide).get i).zoom)) s.notices)).withOpenChoice
      (if 1 < (reachedWindows s.views).length then s.openChoice + 1 else s.openChoice) := by
  unfold State.glideStep
  dsimp only [State.withViews_views]
  rw [State.raises_eq fun i => .viewReached i ((s.views.map Window.glide).get i).zoom]
  split <;> rfl

/-! ### The end of a scan -/

/-- The model's end of a scan is the one the statements describe. -/
theorem State.endScan_eq (s : State) : s.endScan = s.scanEnded := by
  unfold State.endScan State.scanEnded
  cases h : s.output.latch with
  | none => simp
  | some l =>
    simp only [reduceCtorEq, if_false]
    simp only [State.withSlots, State.withPipe, State.withOutput, Slots.releasePins]
    congr 2
    funext x
    simp only [Slot.reclaimed, Slot.freed]
    split <;> rename_i h1
    · rfl
    · by_cases h2 : x.phase = Phase.ready ∧ x.tags = TagSet.empty
      · simp [h2]
      · rw [if_neg h2, if_neg (by tauto)]

/-- Between frames there is nothing to end. -/
theorem State.endScan_none {s : State} (h : s.output.latch = none) : s.endScan = s := by
  unfold State.endScan; rw [h]

/-! ### Lists of lessons and pages -/

/-- In a list whose keys do not repeat, the record found by its key is the one that is there. -/
theorem find_by_key {α : Type} {l : List α} {f : α → Nat} (h : (l.map f).Nodup) {a : α} (ha : a ∈ l) {k : Nat}
    (hk : f a = k) : l.find? (fun b => f b == k) = some a := by
  induction l with
  | nil => cases ha
  | cons b l ih =>
    simp only [List.map_cons, List.nodup_cons, List.mem_map, not_exists, not_and] at h
    rcases List.mem_cons.mp ha with rfl | hm
    · simp [hk]
    · have hb : f b ≠ k := fun e => h.1 a hm (by rw [hk, e])
      simp [hb, ih h.2 hm]

/-- Strictly rising numbers do not repeat. -/
theorem nodup_of_rising {l : List Nat} (h : l.Pairwise (· < ·)) : l.Nodup := by
  exact h.imp (fun {_ _} hab => Nat.ne_of_lt hab)

end Sys2Proof.Machine
end

