-- ==== Sys2Proof/Laws/Frames.lean ====
section
/-! SUPPORT. What the operations of captures, the writer and the port can touch: one frame lemma each, for proofs that
need not look inside them. -/

namespace Sys2Proof.Machine

/-- An entry that leaves the queue touches slots and store alone (R15, R147). -/
theorem State.leaveQueue_frame (s : State) :
    ∃ slots store, s.leaveQueue = { s with slots := slots, store := store } := by
  unfold State.leaveQueue
  split
  · exact ⟨s.slots, s.store, rfl⟩
  · exact ⟨_, _, rfl⟩

/-- A dropped entry touches slots, store and notices alone (R148). -/
theorem State.dropFull_frame (s : State) :
    ∃ slots store notices, s.dropFull = { s with slots := slots, store := store, notices := notices } := by
  unfold State.dropFull
  split
  · exact ⟨s.slots, s.store, s.notices, rfl⟩
  · obtain ⟨slots, store, h⟩ := s.leaveQueue_frame
    exact ⟨slots, store, _, by rw [h]; rfl⟩

/-- A dropped entry touches slots, store and notices alone (R151). -/
theorem State.dropFailed_frame (s : State) (cell : Nat) :
    ∃ slots store notices, s.dropFailed cell = { s with slots := slots, store := store, notices := notices } := by
  unfold State.dropFailed
  split
  · exact ⟨s.slots, s.store, s.notices, rfl⟩
  · obtain ⟨slots, store, h⟩ := s.leaveQueue_frame
    exact ⟨slots, store, _, by rw [h]; rfl⟩

/-- The choice of a cell touches slots, store and notices alone (R148). -/
theorem State.chooseCell_frame (s : State) (tries : Nat) :
    ∃ slots store notices, s.chooseCell tries = { s with slots := slots, store := store, notices := notices } := by
  unfold State.chooseCell
  split
  · exact s.dropFull_frame
  · split
    · exact ⟨s.slots, _, s.notices, rfl⟩
    · split
      · exact ⟨s.slots, _, s.notices, rfl⟩
      · exact s.dropFull_frame

/-- The saves begun touch slots, store and notices alone (R148). -/
theorem beginSaves_frame (n : Nat) (s : State) :
    ∃ slots store notices, beginSaves n s = { s with slots := slots, store := store, notices := notices } := by
  induction n generalizing s with
  | zero => exact ⟨s.slots, s.store, s.notices, rfl⟩
  | succ n ih =>
    unfold beginSaves
    split
    · obtain ⟨a, b, c, h⟩ := s.chooseCell_frame 0
      obtain ⟨a', b', c', h'⟩ := ih (s.chooseCell 0)
      exact ⟨a', b', c', by rw [h', h]⟩
    · exact ⟨s.slots, s.store, s.notices, rfl⟩

/-- The writer at work touches slots, store and notices alone (R148, R152). -/
theorem State.runWriter_frame (s : State) :
    ∃ slots store notices, s.runWriter = { s with slots := slots, store := store, notices := notices } := by
  obtain ⟨a, b, c, h⟩ := beginSaves_frame s.store.queue.length s
  exact ⟨a, _, c, by unfold State.runWriter; rw [h]; rfl⟩

/-- The port's arbiter touches the store alone, and there the port, the stamp counter and the attempt record (R154). -/
theorem Store.arbitrate_frame (s : Store) :
    ∃ port stamp attempt, s.arbitrate = { s with port := port, stamp := stamp, attempt := attempt } := by
  unfold Store.arbitrate
  split
  · exact ⟨s.port, s.stamp, s.attempt, rfl⟩
  · split
    · unfold Store.grant
      split
      · exact ⟨_, _, _, rfl⟩
      · exact ⟨_, s.stamp, s.attempt, rfl⟩
    · exact ⟨s.port, s.stamp, s.attempt, rfl⟩

/-- The grant of the whole part touches the store alone. -/
theorem State.arbitratePort_frame (s : State) : s.arbitratePort = { s with store := s.store.arbitrate } := rfl

/-- A capture from its reads on, taken or missed, touches slots, capture, store and notices alone (R122 to R126). -/
theorem State.completeCapture_frame (s : State) (r : CaptureRead) :
    ∃ slots capture store notices, (s.completeCapture r).1 =
      { s with slots := slots, capture := capture, store := store, notices := notices } := by
  unfold State.completeCapture
  split
  · exact ⟨s.slots, s.capture, s.store, _, rfl⟩
  · rename_i frame focus _
    split
    · exact ⟨s.slots, s.capture, s.store, _, rfl⟩
    · unfold State.jointCapture
      split
      · exact ⟨s.slots, s.capture, s.store, _, rfl⟩
      · split
        · exact ⟨s.slots, s.capture, s.store, _, rfl⟩
        · split
          · exact ⟨s.slots, _, s.store, _, rfl⟩
          · split
            · exact ⟨s.slots, s.capture, s.store, _, rfl⟩
            · split
              · exact ⟨s.slots, s.capture, s.store, _, rfl⟩
              · rename_i l _ _ _ _ _ _ slots i _
                obtain ⟨a, b, c, h⟩ := State.runWriter_frame
                  (((s.withSlots slots).withStore (s.store.append (r.entry frame focus i l))).takenCapture r.source
                    frame i l.id l.next false).1
                exact ⟨a, _, b.arbitrate, c, by
                  show State.arbitratePort (State.runWriter _) = _
                  rw [h]
                  rfl⟩

/-- A capture whose joint step follows its reads at once touches no more. -/
theorem State.takeCapture_frame (s : State) (src : Trigger) (named : Option (Word × Nat)) :
    ∃ slots capture store notices, (s.takeCapture src named).1 =
      { s with slots := slots, capture := capture, store := store, notices := notices } :=
  s.completeCapture_frame _

/-- A gated trigger touches slots, capture, store and notices alone (R121). -/
theorem State.trigger_frame (s : State) (src : Trigger) (named : Option (Word × Nat)) :
    ∃ slots capture store notices, s.trigger src named =
      { s with slots := slots, capture := capture, store := store, notices := notices } := by
  unfold State.trigger
  split
  · exact s.takeCapture_frame src named
  · exact ⟨s.slots, s.capture, s.store, s.notices, rfl⟩

/-- One count of the interval timer: the first stage counts, or it wraps and the second counts, or both wrap and one
more expiry waits (R118). -/
theorem Capture.countFrame_cases (c : Capture) :
    (c.frameCount + 1 ≠ c.prescale ∧ c.countFrame = { c with frameCount := c.frameCount + 1 }) ∨
    (c.frameCount + 1 = c.prescale ∧ c.postCount + 1 ≠ c.postscale ∧
      c.countFrame = { c with frameCount := 0, postCount := c.postCount + 1 }) ∨
    (c.frameCount + 1 = c.prescale ∧ c.postCount + 1 = c.postscale ∧
      c.countFrame = { c with frameCount := 0, postCount := 0, expiries := c.expiries + 1 }) := by
  unfold Capture.countFrame
  split
  · split
    · exact .inr (.inr ⟨‹_›, ‹_›, rfl⟩)
    · exact .inr (.inl ⟨‹_›, ‹_›, rfl⟩)
  · exact .inl ⟨‹_›, rfl⟩

/-- One count of the interval timer touches capture alone (R118). -/
theorem State.countInterval_eq (s : State) : s.countInterval = s.withCapture s.capture.countFrame := rfl

/-- A waiting expiry is taken up once, or none waits; nothing else is touched (R118). -/
theorem State.takeExpiry_cases (s : State) :
    (s.capture.expiries = 0 ∧ s.takeExpiry = none) ∨
    ∃ n, s.capture.expiries = n + 1 ∧ s.takeExpiry = some (s.withCapture { s.capture with expiries := n }) := by
  unfold State.takeExpiry
  cases h : s.capture.expiries with
  | zero => exact .inl ⟨rfl, rfl⟩
  | succ n => exact .inr ⟨n, rfl, rfl⟩

/-! ### Requests that wait, captures in two parts, moves between turns -/

/-- A request that waits or is lost touches link, errors and notices alone (R166). -/
theorem State.keepWaiting_frame (s : State) (r : Request) :
    ∃ link errors notices, s.keepWaiting r = { s with link := link, errors := errors, notices := notices } := by
  unfold State.keepWaiting
  split
  · exact ⟨_, s.errors, s.notices, rfl⟩
  · obtain ⟨e, n, h⟩ := s.recordError_frame .link .linkOverrun r.code.toNat
    exact ⟨s.link, e, n, by rw [h]; rfl⟩

/-- The part of a capture before its tag request touches capture, link, errors and notices alone (R120 to R122). -/
theorem State.beginEarly_frame (s : State) (e : EarlyCapture) :
    ∃ capture link errors notices, (s.beginEarly e).1 =
      { s with capture := capture, link := link, errors := errors, notices := notices } := by
  cases e with
  | key => exact ⟨_, s.link, s.errors, s.notices, rfl⟩
  | interval =>
    unfold State.beginEarly
    rcases s.takeExpiry_cases with ⟨_, h⟩ | ⟨n, _, h⟩ <;> rw [h]
    · exact ⟨s.capture, s.link, s.errors, s.notices, rfl⟩
    · exact ⟨_, s.link, s.errors, s.notices, rfl⟩
  | request tag =>
    unfold State.beginEarly
    dsimp only
    split
    · exact ⟨s.capture, _, s.errors, s.notices, rfl⟩
    · obtain ⟨l, e, n, h⟩ := s.keepWaiting_frame ⟨captureNowCode, tag, []⟩
      exact ⟨s.capture, l, e, n, h⟩

/-- With an empty schedule a good frame end overtakes no capture. -/
theorem State.beginOvertaken_nil {s : State} (h : s.schedule.overtaken = []) : s.beginOvertaken = (s, none) := by
  simp [State.beginOvertaken, h]

/-- The capture that a good frame end overtakes, begun: capture, link, errors, notices and the schedule alone (R124). -/
theorem State.beginOvertaken_frame (s : State) :
    ∃ capture link errors notices schedule, s.beginOvertaken.1 =
      { s with capture := capture, link := link, errors := errors, notices := notices, schedule := schedule } := by
  unfold State.beginOvertaken
  split
  · exact ⟨s.capture, s.link, s.errors, s.notices, s.schedule, rfl⟩
  · rename_i entry rest _
    cases entry with
    | none => exact ⟨s.capture, s.link, s.errors, s.notices, _, rfl⟩
    | some e =>
      obtain ⟨c, l, r, n, h⟩ := State.beginEarly_frame (s.withSchedule { s.schedule with overtaken := rest }) e
      exact ⟨c, l, r, n, _, by rw [h]; rfl⟩

/-- The schedule's entry for a composed frame start is all that its taking touches. -/
theorem State.takeBetween_frame (s : State) : ∃ schedule, s.takeBetween.2 = s.withSchedule schedule := by
  unfold State.takeBetween
  split
  · exact ⟨s.schedule, rfl⟩
  · exact ⟨_, rfl⟩

/-- No capture begun, none completed. -/
@[simp] theorem State.endCapture_none (s : State) : s.endCapture none = s := rfl

/-- The joint step of a capture begun touches slots, capture, store, notices and link alone (R123, R129). -/
theorem State.endCapture_frame (s : State) (begun : Option BegunCapture) :
    ∃ slots capture store notices link, s.endCapture begun =
      { s with slots := slots, capture := capture, store := store, notices := notices, link := link } := by
  cases begun with
  | none => exact ⟨s.slots, s.capture, s.store, s.notices, s.link, rfl⟩
  | some b =>
    obtain ⟨a, c, d, n, h⟩ := s.completeCapture_frame b.read
    unfold State.endCapture
    dsimp only
    split
    · exact ⟨a, c, d, n, _, by rw [h]; rfl⟩
    · exact ⟨a, c, d, n, s.link, h⟩

/-- No tag move taken, nothing moved. -/
@[simp] theorem runMoves_nil (s : State) : runMoves [] s = s := rfl

/-- Tag moves one after another. -/
@[simp] theorem runMoves_cons (m : TagMove) (rest : List TagMove) (s : State) :
    runMoves (m :: rest) s = runMoves rest (runMove m s) := rfl

/-- A step that goes on, as its state. -/
@[simp] theorem stateAfter_next (t s : State) : stateAfter (.next t) s = t := rfl

/-- A pane's turn that no tag move follows touches the slot table alone (R109). -/
theorem resolveTurn_nil (mode : Fin 4) (page : PageState) (p : Pane) (s : State) :
    resolveTurn mode page p [] s =
      (s.withSlots (resolvePane mode page s.slots p).1, (resolvePane mode page s.slots p).2) := rfl

/-- With no tag move between, the four pin requests touch the slot table alone (R109). -/
theorem resolvePanes_none_frame (mode : Fin 4) (page : PageState) (panes : Table Pane 4) (s : State) :
    ∃ slots, (resolvePanes mode page panes .none s).1 = s.withSlots slots := ⟨_, rfl⟩

/-! ### Slots -/

/-- Reclaim frees a READY slot that nothing holds, and is nothing else (R8). -/
theorem Slot.reclaimed_cases (x : Slot) :
    (x.phase = .ready ∧ x.tags = TagSet.empty ∧ x.pins = 0 ∧ x.reclaimed = x.freed) ∨ x.reclaimed = x := by
  unfold Slot.reclaimed
  split
  · rename_i h
    exact .inl ⟨h.1, h.2.1, h.2.2, rfl⟩
  · exact .inr rfl

/-- A slot after a tag move: the target carries the tag, every other slot has lost it (R4). -/
theorem Slots.get_moveTag (t : Slots) (tag : Tag) (i j : Fin 12) :
    (t.moveTag tag i).get j = if j = i then (t.get j).withTag tag else (t.get j).withoutTag tag := by
  unfold Slots.moveTag
  rw [Table.get_mapIdx]

/-- A slot after a tag is dropped everywhere (R21). -/
theorem Slots.get_dropTag (t : Slots) (tag : Tag) (j : Fin 12) :
    (t.dropTag tag).get j = (t.get j).withoutTag tag := by
  unfold Slots.dropTag
  rw [Table.get_map]

/-- A pin request raises one slot's pin count by 1, that of a slot carrying a named tag, or is answered ABSENT with
nothing changed (R18). -/
theorem Slots.pin_cases (t : Slots) (tags : List Tag) :
    (∃ i, (t.pin tags).2 = some i ∧ (∃ tag ∈ tags, t.carrier tag = some i) ∧
      (t.pin tags).1 = t.set i { t.get i with pins := (t.get i).pins + 1 }) ∨
    ((∀ tag ∈ tags, t.carrier tag = none) ∧ t.pin tags = (t, none)) := by
  induction tags with
  | nil => exact .inr ⟨by simp, rfl⟩
  | cons tag more ih =>
    unfold Slots.pin
    cases h : t.carrier tag with
    | some i => exact .inl ⟨i, rfl, ⟨tag, by simp, h⟩, rfl⟩
    | none =>
      rcases ih with ⟨i, h1, ⟨g, hg, h2⟩, h3⟩ | ⟨h1, h2⟩
      · exact .inl ⟨i, h1, ⟨g, by simp [hg], h2⟩, h3⟩
      · exact .inr ⟨by simpa [h] using h1, h2⟩

/-- Intake's allocation: the lowest FREE slot after the abandon fills, or NONE with no slot FREE (R6). -/
theorem Slots.allocateFilling_cases (t : Slots) (frame : Word) :
    (∃ i, t.abandonFilling.lowestFree = some i ∧
      t.allocateFilling frame =
        (t.abandonFilling.set i ((t.abandonFilling.get i).allocated .filling (.sensor frame)), some i)) ∨
    (t.abandonFilling.lowestFree = none ∧ t.allocateFilling frame = (t.abandonFilling, none)) := by
  unfold Slots.allocateFilling
  cases h : t.abandonFilling.lowestFree with
  | some i => exact .inl ⟨i, rfl, by simp [h]⟩
  | none => exact .inr ⟨rfl, by simp [h]⟩

/-- Recall's allocation: BUSY while a slot loads, else the lowest FREE slot loads, or NONE (R6). -/
theorem Slots.allocateLoading_cases (t : Slots) (lesson ordinal : Nat) :
    ((∃ i, (t.get i).phase = .loading) ∧ t.allocateLoading lesson ordinal = (t, .busy)) ∨
    ((∀ i, (t.get i).phase ≠ .loading) ∧
      ((∃ i, t.lowestFree = some i ∧ t.allocateLoading lesson ordinal =
          (t.set i ((t.get i).allocated .loading (.store lesson ordinal)), .slot i)) ∨
        (t.lowestFree = none ∧ t.allocateLoading lesson ordinal = (t, .none)))) := by
  unfold Slots.allocateLoading
  cases h : t.lowest fun x => x.phase == .loading with
  | some i => exact .inl ⟨⟨i, by simpa using Table.lowest_eq_some h⟩, by simp⟩
  | none =>
    refine .inr ⟨fun i => by simpa using (Table.lowest_eq_none.mp h) i, ?_⟩
    cases hf : t.lowestFree with
    | some i => exact .inl ⟨i, rfl, by simp⟩
    | none => exact .inr ⟨rfl, by simp⟩

end Sys2Proof.Machine
end

