-- ==== Sys2Proof/Laws/LinkWire.lean ====
section
/-! SUPPORT. The levels of the link's wires: how long a character and a frame are, and what one character reads as. -/

namespace Sys2Proof.Machine

/-- A character is ten bit times (R161). -/
@[simp] theorem characterLevels_length (b : Byte) : (characterLevels b).length = 10 := rfl

/-- A frame of n bytes occupies the line for 10 × n bit times (R161). -/
theorem Transmitter.levels_length (t : Transmitter) : t.levels.length = 10 * t.wire.length := by
  unfold Transmitter.levels
  induction t.wire with
  | nil => rfl
  | cons b l ih => simp [ih]; omega

/-- Without a frame the wire is at the stop-bit level (R175). -/
@[simp] theorem Link.wireLevel_idle {l : Link} (h : l.transmitter = .idle) (clock : Nat) :
    l.wireLevel clock = stopLevel := by
  simp [Link.wireLevel, h, Transmitter.levels, Transmitter.wire]

/-- A high level on an idle line begins no character (R161). -/
@[simp] theorem readLine_idle (rest : List Bool) : readLine [] (true :: rest) = readLine [] rest := rfl

/-- Ten levels that begin low are one character, and the line then idles (R161). -/
theorem readLine_character (b0 b1 b2 b3 b4 b5 b6 b7 stop : Bool) (rest : List Bool) :
    readLine [] ([false, b0, b1, b2, b3, b4, b5, b6, b7, stop] ++ rest) =
      readCharacter [false, b0, b1, b2, b3, b4, b5, b6, b7, stop] :: readLine [] rest := rfl

end Sys2Proof.Machine
end

