-- ==== Sys2Proof/Tests/Slice0.lean ====
section
/-! SUPPORT. Tests: ill-formed terms refused, requests written out byte by byte, the spec's worked figures, one step of
each family, and for every statement with hypotheses a concrete state and operands that meet them, clause by clause. -/

namespace Sys2Proof.Tests

open Sys2Proof Sys2Proof.Machine

set_option Elab.async false

/-- A value read from the next state. -/
def got {α : Type} (o : Host.Outcome State Fault Refusal) (f : State → α) : Option α :=
  match o with
  | .next t => some (f t)
  | _ => none

/-! ### Ill-formed terms -/

theorem test_wf_header_too_short : (Instr.headerReadEnd (some (List.replicate 51 0))).wf = false := by decide
theorem test_wf_header_long_enough : (Instr.headerReadEnd (some (List.replicate 52 0))).wf = true := by decide
theorem test_wf_recall_image_short : (Instr.recallReadEnd (some ⟨List.replicate 52 0, []⟩)).wf = false := by decide
theorem test_wf_recall_header_short : (Instr.recallReadEnd (some ⟨[], []⟩)).wf = false := by decide
theorem test_wf_move_recall_short :
    (Schedule.mk [] [⟨[], [], [.frameEnd, .recallReadEnd (some ⟨[], []⟩)]⟩]).wf = false := by decide
theorem test_wf_export_empty : (Instr.exportReadEnd (some [])).wf = false := by decide
theorem test_wf_export_long : (Instr.exportReadEnd (some (List.replicate 1025 0))).wf = false := by
  decide +kernel
theorem test_wf_title_long : (Instr.lessonOpen 0 (List.replicate 256 65)).wf = false := by decide +kernel
theorem test_wf_title_longest : (Instr.lessonOpen 0 (List.replicate 255 65)).wf = true := by decide +kernel

/-! ### Requests written out from sections 9.8 and R190, R191 -/

/-- The CRC of R165 on the nine digits "123456789": the published check value of these parameters is 0x29B1. -/
theorem test_crc_check_value :
    crcBytes [0x31, 0x32, 0x33, 0x34, 0x35, 0x36, 0x37, 0x38, 0x39] = [0x29, 0xB1] := by decide +kernel

theorem test_table_spells_nothing : decodeTableWord 8 0 = none := by decide
theorem test_decode_status : decodeRequest ⟨0x02, 9, []⟩ = .command (.status 9) := by decide
theorem test_decode_freeze : decodeRequest ⟨0x10, 1, [1, 0]⟩ = .command (.freeze 1 1 0) := by decide
theorem test_decode_focus_area : decodeRequest ⟨0x1B, 1, [0xD0, 0x07, 0x09, 0x07, 0x21, 0x03, 0x1E, 0x00]⟩ =
    .command (.focusAreaSet 1 2000 1801 801 30) := by decide
theorem test_decode_watch : decodeRequest ⟨0x20, 1, [1, 6, 4, 8, 6]⟩ = .command (.watchSet 1 1 6 4 8 6) := by decide
theorem test_decode_view : decodeRequest ⟨0x28, 1, [2, 0x00, 0x10, 0xB8, 0x0B, 0xF4, 0x01, 0x2C, 0x01]⟩ =
    .command (.viewSet 1 2 4096 3000 500 300) := by decide
theorem test_decode_nudge : decodeRequest ⟨0x29, 1, [0, 0x38, 0xFF, 0, 0]⟩ =
    .command (.viewNudge 1 0 (BitVec.ofInt 16 (-200)) 0) := by decide
theorem test_decode_profile : decodeRequest ⟨0x30, 1, [3, 80, 8, 200]⟩ = .command (.profileSet 1 3 80 8 200) := by decide
theorem test_decode_pane : decodeRequest
    ⟨0x3A, 1, [1, 1, 0xC0, 0x03, 0, 0, 0xC0, 0x03, 0x38, 0x04, 4, 0, 0, 2, 128, 127, 126]⟩ =
    .command (.paneSet 1 1 1 960 0 960 1080 4 0 0 2 128 127 126) := by decide
theorem test_decode_capture : decodeRequest ⟨0x48, 1, [2, 5, 0x90, 0x01, 30, 1]⟩ =
    .command (.captureSet 1 2 5 400 30 1) := by decide
theorem test_decode_open : decodeRequest ⟨0x58, 1, [0x4D, 0x61]⟩ = .command (.lessonOpen 1 [0x4D, 0x61]) := by decide
theorem test_decode_page_read : decodeRequest ⟨0x62, 1, [2, 1, 0x00, 0xC4, 0x99, 0x00, 0x00, 0x04]⟩ =
    .command (.pageRead 1 2 1 10077184 1024) := by decide
theorem test_decode_error_clear : decodeRequest ⟨0x73, 1, [255]⟩ = .command (.errorClear 1 255) := by decide
theorem test_decode_unknown : decodeRequest ⟨0x05, 1, []⟩ = .unknown := by decide
theorem test_decode_length : decodeRequest ⟨0x10, 1, [1]⟩ = .badLength := by decide

/-! ### Worked figures of the spec -/

/-- 02 "bringing a focus area into range". -/
theorem test_focus_area_figures : areaInRange ⟨2000, 1801, 801, 30⟩ = ⟨1792, 1800, 800, 64⟩ := by decide

/-- 02 "focus measure" and 05 "the blur at a pane corner": the corner pixel 200 or 160, its three neighbours 40 or
100. -/
theorem test_blur_corner :
    blurAt (fun x y => if x = 0 ∧ y = 0 then 200 else 40) 2592 1944 0 0 = 130 ∧
      blurAt (fun x y => if x = 0 ∧ y = 0 then 160 else 100) 1920 1080 0 0 = 134 := by decide

/-- 03 R45's example: M 6, 118 to 125 is MOVING, 118 to 113 is STILL. -/
theorem test_tile_sample : movingSample 6 118 125 = true ∧ movingSample 6 118 113 = false := by decide

/-- 04 "two panes on one window": side by side, and picture in picture. -/
theorem test_rectangles :
    Window.rectFor ⟨512, 512, 16, 1296, 972⟩ 960 1080 = ⟨864, 486, 864, 972⟩ ∧
      Window.rectFor ⟨512, 512, 16, 1296, 972⟩ 1920 1080 = ⟨648, 608, 1296, 729⟩ ∧
      Window.rectFor ⟨512, 512, 16, 1296, 972⟩ 640 480 = ⟨648, 486, 1296, 972⟩ := by decide +kernel

/-- 04 "zooming out near the right edge": the third frame start. -/
theorem test_rectangle_clamped :
    Window.rectFor (Window.glide^[3] ⟨1024, 256, 64, 2200, 400⟩) 1920 1080 = ⟨1795, 176, 797, 448⟩ := by decide +kernel

/-- 05 "one luma pixel and its chroma". -/
theorem test_pipe_positions :
    pipeStep 1296 1920 = 2764 ∧ position (648 * 4096) 10 2764 = 2681182 ∧ sourceIndex 2681182 = 654 ∧
      weight 2681182 = 149 ∧ blend 149 40 200 = 133 ∧ position (648 * 2048) 5 2764 = 1340258 ∧
      sourceIndex 1340258 = 327 ∧ weight 1340258 = 54 := by decide +kernel

/-- 05 "the left edge of the frame". -/
theorem test_pipe_left_edge : sourceIndex (-666) = -1 ∧ weight (-666) = 214 ∧ edgeIndex 2591 (-1) = 0 := by decide +kernel

/-- 05 "sharpening": a light dot, the same at the corner, a dark dot. -/
theorem test_sharpening_figures :
    sharpen ⟨24, 4, 40⟩ 160 115 = 200 ∧ sharpen ⟨24, 4, 40⟩ 160 134 = 193 ∧ sharpen ⟨24, 4, 40⟩ 60 90 = 21 := by decide +kernel

/-- 06 R105's examples: 1800, 900, 400, 240 in modes 0, 1 and 3. -/
theorem test_clipping :
    clipRect 0 ⟨1800, 900, 400, 240⟩ = ⟨1800, 900, 120, 180⟩ ∧ clipRect 1 ⟨1800, 900, 400, 240⟩ = ⟨1800, 900, 0, 0⟩ ∧
      clipRect 3 ⟨1800, 900, 400, 240⟩ = ⟨1800, 900, 120, 240⟩ := by decide

/-- 06 R111: a 1000-column pane; the pair (124, 125) takes bar 0's chroma, and column 125 shows yellow luma. -/
theorem test_card : testCardPixel 1000 125 = ⟨226, 128, 128⟩ ∧ testCardPixel 1920 240 = ⟨226, 1, 149⟩ := by decide

/-! ### One step of each family -/

/-- What the transmitter sends after one command. -/
def sent (c : Instr) (s : State) : Option Transmitter := got (exec c s) (·.link.transmitter)

/-- A reply on the wire. -/
def reply (code tag : Byte) (status : Status) (results : List Byte) : Option Transmitter :=
  some (.reply ⟨code, tag, status, results, .nothing⟩)

/-- The state with what coming frame ends overtake, and with what is taken during coming frame starts. -/
def overtaking (captures : List (Option EarlyCapture)) (s : State) : State := s.withSchedule ⟨captures, []⟩
def during (moves : List Between) (s : State) : State := s.withSchedule ⟨[], moves⟩

/-- A READY slot with a sensor frame. -/
def sensorSlot (frame : Word) (fm : Nat) (tags : TagSet) (pins : Nat) : Slot :=
  ⟨.ready, some (.sensor frame), some fm, tags, pins, []⟩

/-- LIVE alone; LIVE and SETTLED. -/
def onLive : TagSet := ⟨true, false, false, false, false, false⟩
def onBoth : TagSet := ⟨true, true, false, false, false, false⟩

/-- Frame 5, FM 600, is on slot 3 with LIVE and SETTLED. -/
def live : State := State.reset.withSlots (State.reset.slots.set 3 (sensorSlot 5 600 onBoth 0))

/-- Three cells: a page of lesson 2, a DEAD one, an ERASED one; the store READY, lesson 2 open. -/
def page1 : PageRecord := ⟨0, 1, 7⟩
def lesson2 : Lesson := ⟨2, [77], true, 3, false, [page1]⟩
def storeReady : Store :=
  { Store.reset with
    state := .ready, cellCount := 64, cells := .used :: .dead :: List.replicate 62 .erased
    directory := [lesson2], stamp := 8 }
def teaching : State := live.withStore storeReady

theorem test_ping : sent (.ping 7) State.reset = reply 0x01 7 .ok [0x60, 0x52, 1, 12, 0, 0] := by decide
theorem test_freeze : sent (.freeze 1 0 1) live = reply 0x10 1 .ok [3, 1, 5, 0, 0, 0] := by decide
theorem test_freeze_refused : sent (.freeze 1 0 0) State.reset = reply 0x10 1 .refused [2] := by decide
theorem test_enable : got (exec (.intakeEnable 1) State.reset) (·.intake.state) = some .waiting := by decide
theorem test_focus_area : sent (.focusAreaSet 1 2000 1801 801 30) State.reset =
    reply 0x1B 1 .adjusted [0x00, 0x07, 0x08, 0x07, 0x20, 0x03, 0x40, 0x00] := by decide
theorem test_frame_start_ignored : got (exec .frameStart State.reset) (·.intake.counter) = some 0 := by decide
theorem test_watch_off : got (exec (.watchSet 1 0 6 4 8 6) State.reset) (·.watch.page) = some .off := by decide
theorem test_view_adjusted : sent (.viewSet 1 2 4096 3000 500 300) State.reset =
    reply 0x28 1 .adjusted [0x00, 0x01, 0x00, 0x08, 255, 0x1F, 0x0A, 0xF4, 0x01] := by decide
theorem test_nudge_wraps_no : sent (.viewNudge 1 0 (BitVec.ofInt 16 (-2000)) 0) State.reset =
    reply 0x29 1 .adjusted [0x00, 0x01, 0x00, 0x01, 16, 0x10, 0x01, 0xCC, 0x03] := by decide
theorem test_profile_adjusted : sent (.profileSet 1 3 80 8 200) State.reset = reply 0x30 1 .adjusted [3, 63, 8, 127] := by
  decide
theorem test_interval_adjusted : sent (.intervalSet 1 0 40) State.reset = reply 0x4B 1 .adjusted [1, 16, 16, 0] := by
  decide
theorem test_pane_source : sent (.paneSet 1 0 1 0 0 0 0 6 0 4 0 0 0 0) State.reset = reply 0x3A 1 .refused [8] := by decide
theorem test_arm_refused : sent (.captureArm 1) State.reset = reply 0x49 1 .refused [9] := by decide
theorem test_capture_now_no_frame : sent (.captureNow 1) State.reset =
    reply 0x4A 1 .ok [1, 1, 0, 0, 0, 0, 0, 0, 0, 0] := by decide
theorem test_capture_now_taken : sent (.captureNow 1) teaching =
    reply 0x4A 1 .ok [0, 0, 5, 0, 0, 0, 3, 2, 3, 0] := by decide
theorem test_capture_takes_stamp : got (exec (.captureNow 1) teaching) (fun t =>
    (t.store.port.inFlight, t.store.stamp, t.store.writer)) = some (some (.saveProgram 2), 9, .program) := by decide
theorem test_not_mounted : sent (.lessonOpen 1 []) State.reset = reply 0x58 1 .refused [10] := by decide
theorem test_mount : got (exec (.storeMount 1) State.reset) (fun t => (t.store.state, t.store.port.inFlight)) =
    some (.mounting, some .identityRead) := by decide
theorem test_resume_refused : sent (.lessonResume 1 2) teaching = reply 0x59 1 .refused [11] := by decide
theorem test_lesson_close : sent (.lessonClose 1) teaching = reply 0x5A 1 .ok [2] := by decide
theorem test_page_past_end : sent (.pageRead 1 2 1 10077696 1) teaching =
    reply 0x62 1 .adjusted [0, 0, 0, 0, 0, 0] := by decide
theorem test_recall : sent (.pageRecall 1 2 1 0) teaching = reply 0x61 1 .accepted [0] := by decide
theorem test_page_delete_defers : got (exec (.pageDelete 1 2 1) teaching) (fun t =>
    (t.link.transmitter, t.store.port.inFlight)) = some (.idle, some (.tombstone 2 1 0 (some 1))) := by decide
theorem test_levels : sent (.noticeLevelsSet 1 9 0 0 0 0 0 0 0 0 0 0 0 0 0) State.reset =
    reply 0x70 1 .adjusted [7, 0, 0, 0, 0, 0, 0, 0, 0, 0, 0, 0, 0, 0] := by decide
theorem test_error_clear_refused : sent (.errorClear 1 8) State.reset = reply 0x73 1 .refused [19] := by decide
theorem test_output_start : got (exec (.outputStart 1 3) State.reset) (fun t => (t.output.state, t.output.mode)) =
    some (.starting, 3) := by decide
theorem test_hunt_skips : got (exec (.characterArrival (.good 0xC2)) State.reset) (·.link.receiver) = some .hunt := by
  decide
theorem test_hunt_begins : got (exec (.characterArrival (.good 0xC3)) State.reset) (·.link.receiver) = some .head := by
  decide
theorem test_key_counts : got (exec (.keySample true) State.reset) (·.capture.keyCounter) = some 1 := by decide

/-! ### Witnesses: the queue, the codec, the link, notices and errors

Each theorem holds, in the order of its statement's clauses, a concrete state and operands that meet the hypotheses. -/

theorem witness_StepRunsFrontCommand :
    (State.reset.withPending [.ping 1, .status 2]).pending = .ping 1 :: [.status 2] ∧ State.reset.pending = [] := by decide

theorem witness_RequestCodecRoundTrip :
    ((Instr.lessonOpen 1 (List.replicate 255 65)).wf = true ∧
      encodeRequest (.lessonOpen 1 (List.replicate 255 65)) = some ⟨0x58, 1, List.replicate 255 65⟩) ∧
    decodeRequest ⟨0x71, 1, []⟩ = .command (.noticeLevelsRead 1) := by decide +kernel

/-- PING's frame with tag 7 but for its last byte. -/
def pingFront : List Byte := [0xC3, 0x01, 0x01, 0x07, 0x00, 0x00, 0x48]

/-- The link in CHECK with a partial frame, and what stands in the hand and the waiting place. -/
def checking (front : List Byte) (hand waiting : Option Request) : State :=
  State.reset.withLink ⟨3, .check, some front, .running, hand, waiting, none, .idle⟩

theorem witness_RefusedRequestChangesNothing :
    State.reset.link.Free ∧ encodeRequest (.captureArm 1) = some ⟨0x49, 1, []⟩ ∧
    got (exec (.captureArm 1) State.reset) (·.link.transmitter) = some (.reply ⟨0x49, 1, .refused, [9], .nothing⟩) ∧
    got (exec (.storeMount 1) (State.reset.withStore { Store.reset with state := .mounting })) (·.link.transmitter) =
      some (.reply ⟨0x50, 1, .busy, [], .nothing⟩) := by decide +kernel

theorem witness_PortEventsKeepHostSettings :
    isPlainEvent .frameStart = true ∧ isPlainEvent (.commitEnd false) = true ∧
      got (exec .frameStart State.reset) (fun _ => true) = some true := by decide +kernel

/-- A reply being sent, and a request waiting behind it. -/
def sending (after : AfterReply) (waiting : Option Request) (front : Option (List Byte)) : State :=
  State.reset.withLink
    ⟨3, if front = none then .hunt else .head, front, if front = none then .stopped else .running, some ⟨0x04, 9, []⟩,
      waiting, none, .reply ⟨0x04, 9, .ok, [], after⟩⟩

/-- The receiver in a state with a partial frame. -/
def receiving (r : Receiver) (front : List Byte) : State :=
  State.reset.withLink ⟨3, r, some front, .running, none, none, none, .idle⟩

theorem witness_ReceiverTakesCharacters :
    State.reset.link.receiver = .hunt ∧
    ((receiving .head [0xC3]).link.receiver ≠ .hunt ∧ (receiving .head [0xC3]).link.partialFrame = some [0xC3]) ∧
    ((receiving .head [0xC3, 1, 1, 1]).link.receiver = .head ∧ [0xC3, 1, 1, (1 : Byte)].length < 5) ∧
    (receiving .head [0xC3, 1, 1, 1, 0x4C]).link.partialFrame = some [0xC3, 1, 1, 1, 0x4C] ∧
    ((receiving .body [0xC3, 1, 0x11, 1, 1, 0]).link.receiver = .body ∧ 6 ≤ [0xC3, 1, 0x11, 1, 1, (0 : Byte)].length) ∧
    ((receiving .check [0xC3, 1, 1, 1, 0, 0]).link.receiver = .check ∧
      [0xC3, 1, 1, 1, 0, (0 : Byte)].length + 1 < 8 + announced [0xC3, 1, 1, 1, 0, 0]) ∧
    (receiving .check pingFront).link.receiver = .check ∧ pingFront.length + 1 = 8 + announced pingFront ∧
    (receiving .head [0xC3]).link.partialFrame = some [0xC3] ∧ State.reset.link.partialFrame = none := by decide +kernel

/-- A frame of another type, of an unknown code, and of a wrong length, each but for its last byte. -/
def otherType : List Byte := (frameBytes 0x02 0x01 7 []).dropLast
def otherCode : List Byte := (frameBytes 0x01 0x05 7 []).dropLast
def otherLength : List Byte := (frameBytes 0x01 0x01 7 [0]).dropLast

/-- The last byte of a frame, and whether the bytes before it end one byte short of a frame. -/
def lastOf (type code : Byte) (payload : List Byte) : Byte := (frameBytes type code 7 payload).getLastD 0

theorem witness_FrameCompletionChecks :
    (checking pingFront none none).link.receiver = .check ∧
    (checking pingFront none none).link.partialFrame = some pingFront ∧ (checking pingFront none none).link.Free ∧
    pingFront.length + 1 = 8 + announced pingFront ∧
    crcBytes ((pingFront.drop 1).take 5) ≠ [pingFront.getD 6 0, 0x78] ∧
    crcBytes ((pingFront.drop 1).take 5) = [pingFront.getD 6 0, 0x79] ∧
    (crcBytes ((otherType.drop 1).take 5) = [otherType.getD 6 0, lastOf 0x02 0x01 []] ∧ otherType.getD 1 0 ≠ 0x01) ∧
    pingFront.getD 1 0 = 0x01 ∧
    ((checking pingFront (some ⟨2, 1, []⟩) none).link.hand ≠ none ∧
      (checking pingFront (some ⟨2, 1, []⟩) none).link.waitingPlace = none) ∧
    (checking pingFront (some ⟨2, 1, []⟩) (some ⟨2, 2, []⟩)).link.waitingPlace ≠ none ∧
    (otherCode.length + 1 = 8 + announced otherCode ∧
      crcBytes ((otherCode.drop 1).take 5) = [otherCode.getD 6 0, lastOf 0x01 0x05 []] ∧
      decodeRequest ⟨otherCode.getD 2 0, otherCode.getD 3 0, []⟩ = .unknown) ∧
    otherLength.length + 1 = 8 + announced otherLength ∧
      crcBytes ((otherLength.drop 1).take 6) = [otherLength.getD 7 0, lastOf 0x01 0x01 [0]] ∧
      decodeRequest ⟨otherLength.getD 2 0, otherLength.getD 3 0, [0]⟩ = .badLength ∧
    ((Instr.ping 7).wf = true ∧ encodeRequest (.ping 7) = some ⟨0x01, 7, []⟩ ∧
      requestFrame ⟨0x01, 7, []⟩ = pingFront ++ [0x79] ∧ decodeRequest ⟨0x01, 7, []⟩ = .command (.ping 7)) := by
  decide +kernel

/-- A request given with the hand full takes the waiting place; with both full it is lost with LINK_OVERRUN (R166). -/
theorem test_hand_full :
    got (exec (.intakeEnable 9) (sending .nothing none none)) (fun t => (t.link.waitingPlace, t.intake.state)) =
        some (some ⟨0x18, 9, []⟩, .disabled) ∧
      got (exec (.intakeEnable 9) (sending .nothing (some ⟨1, 1, []⟩) none)) (fun t =>
        (t.link.waitingPlace, t.intake.state, t.errors.records)) =
        some (some ⟨1, 1, []⟩, .disabled, [⟨.link, .linkOverrun, 0x18, 1, 0⟩]) := by decide

theorem witness_TransmitterFreeMovesOn :
    State.reset.link.transmitter = .idle ∧
    (State.reset.withLink { State.reset.link with transmitter := .notice ⟨1, .intakeLost 0⟩ }).link.transmitter =
      .notice ⟨1, .intakeLost 0⟩ ∧
    (sending .nothing none none).link.transmitter = .reply ⟨0x04, 9, .ok, [], .nothing⟩ ∧
    (sending .nothing none none).link.waitingPlace = none ∧
    ((sending .nothing (some ⟨5, 1, []⟩) none).link.waitingPlace = some ⟨5, 1, []⟩ ∧
      decodeRequest ⟨5, 1, []⟩ = .unknown) ∧
    decodeRequest ⟨1, 1, [0]⟩ = .badLength ∧ decodeRequest ⟨1, 1, []⟩ = .command (.ping 1) := by decide

theorem witness_LinkRateAndRestartFollowTheirReplies :
    State.reset.link.Free ∧
    ((sending (.setRate 3) none none).link.transmitter = .reply ⟨0x04, 9, .ok, [], .setRate 3⟩ ∧
      (sending (.setRate 3) none none).link.waitingReply = none ∧
      (sending (.setRate 3) none none).link.waitingPlace = none ∧
      (3 : Fin 4) = (sending (.setRate 3) none none).link.rateIndex) ∧
    ((0 : Fin 4) ≠ (sending (.setRate 0) none none).link.rateIndex ∧
      (sending (.setRate 0) none none).link.partialFrame = none) ∧
    ((sending (.setRate 0) (some ⟨1, 1, []⟩) (some [0xC3])).link.partialFrame = some [0xC3] ∧
      (sending (.setRate 0) (some ⟨1, 1, []⟩) (some [0xC3])).link.waitingPlace = some ⟨1, 1, []⟩) ∧
    (decodeRequest ⟨5, 1, []⟩ = .unknown ∧ decodeRequest ⟨1, 1, [0]⟩ = .badLength ∧
      decodeRequest ⟨1, 1, []⟩ = .command (.ping 1)) ∧
    (sending .restart none none).link.transmitter = .reply ⟨0x04, 9, .ok, [], .restart⟩ := by decide

/-- With a partial frame and a request of unknown code waiting, the rate changes, the frame is lost, the request is
answered (R166, R173). -/
theorem test_rate_change_waiting :
    got (exec .transmitterFree (sending (.setRate 0) (some ⟨5, 1, []⟩) (some [0xC3]))) (fun t =>
      (t.link.rateIndex, t.link.partialFrame, t.link.transmitter, t.errors.records.map (·.kind))) =
    some (0, none, .reply ⟨5, 1, .unknownRequest, [], .nothing⟩, [.linkFraming]) := by decide

/-- CAPTURE_TAKEN (level 5) and CAPTURE_MISSED (level 5) pending, and VIEW_REACHED (level 0). -/
def ringing : State :=
  ((State.reset.raise (.captureMissed .key .stale 9)).raise (.captureTaken .key 9 1 1 1 false false)).raise
    (.viewReached 0 512)

theorem witness_ArbiterSendsReplyThenHighestNotice :
    (sending .nothing none none).link.transmitter ≠ .idle ∧
    ((State.reset.withLink { State.reset.link with waitingReply := some ⟨1, 1, .ok, [], .nothing⟩ }).link.transmitter =
      .idle) ∧
    (State.reset.link.waitingReply = none ∧
      ∀ k, ¬((State.reset.notices.get k).pending = true ∧ 1 ≤ (State.reset.notices.get k).level)) ∧
    (ringing.link.transmitter = .idle ∧ ringing.link.waitingReply = none) ∧
    (ringing.notices.get 5).pending = true ∧ 1 ≤ (ringing.notices.get 5).level ∧ (ringing.notices.get 5).level ≤ 7 ∧
    (ringing.notices.get 5).payload = some (.captureTaken .key 9 1 1 1 false false) ∧
    ∀ j, (ringing.notices.get j).pending = true → 1 ≤ (ringing.notices.get j).level →
      (ringing.notices.get j).level < (ringing.notices.get 5).level ∨
        ((ringing.notices.get j).level = (ringing.notices.get 5).level ∧ 5 ≤ j) := by decide +kernel

/-- The table of 10 "filling and clearing the table": seven records of seven kinds, and with an eighth. -/
def sevenErrors : List ErrorRecord :=
  [⟨.intake, .lineLength, 1, 3, 1⟩, ⟨.link, .linkCrc, 1, 1, 1⟩, ⟨.intake, .frameDropped, 1, 12, 1⟩,
    ⟨.link, .linkFraming, 1, 2, 1⟩, ⟨.store, .storeHeaderBad, 1, 40, 1⟩, ⟨.store, .readFail, 1, 1, 1⟩,
    ⟨.intake, .shortFrame, 1, 1, 1⟩]
def faulty (records : List ErrorRecord) (overflow : Bool) : State := State.reset.withErrors ⟨records, overflow⟩
def eightErrors : List ErrorRecord := sevenErrors ++ [⟨.store, .programFail, 17, 1, 5100⟩]

theorem witness_ErrorRecordingSteps :
    (∃ e ∈ (faulty sevenErrors false).errors.records, e.source = .link ∧ e.kind = .linkCrc) ∧
    (¬(∃ e ∈ (faulty sevenErrors false).errors.records, e.source = .store ∧ e.kind = .programFail) ∧
      (faulty sevenErrors false).errors.records.length < 8 ∧ (faulty sevenErrors false).errors.records ≠ []) ∧
    State.reset.errors.records = [] ∧
    (¬(∃ e ∈ eightErrors, e.source = .link ∧ e.kind = .linkOverrun) ∧ 8 ≤ eightErrors.length) ∧
    (faulty eightErrors true).errors.overflow = true ∧ (faulty eightErrors false).errors.overflow = false := by
  decide +kernel

theorem witness_NoticeAndErrorSettings :
    (faulty sevenErrors false).link.Free ∧ ((255 : Byte) = 255) ∧ ((6 : Byte).toNat < 255 ∧ (6 : Byte).toNat < (faulty sevenErrors false).errors.records.length) ∧
    (254 : Byte).toNat < 255 ∧ (faulty sevenErrors false).errors.records.length ≤ (7 : Byte).toNat := by decide

/-! ### Witnesses: slots, intake, watch, settings, views, pipe -/

theorem witness_FreezeAndUnfreezeMoveOneTag :
    live.link.Free ∧ live.slots.Law ∧ ((2 : Byte) ≠ 0 ∧ (2 : Byte) ≠ 1) ∧
    ((∀ i, (State.reset.slots.get i).carries .live = false) ∧ State.reset.slots.Law) ∧
    (live.slots.get 3).carries .live = true ∧ (live.slots.get 3).carries .settled = true := by decide +kernel

/-- Frame 1 filling slot 0, with the lines counted and the damage mark given. -/
def filling (lines : Nat) (damaged : Bool) (w : Watch) (luma : Nat) : State :=
  { State.reset with
    slots := State.reset.slots.set 0 ⟨.filling, some (.sensor 1), none, TagSet.empty, 0, []⟩
    intake :=
      { Intake.reset with
        state := .filling, counter := 1
        current := some ⟨1, some 0, lines, damaged, defaultArea, ⟨0, Table.fill 192 luma, 0⟩⟩ }
    watch := w }

/-- The watch after default settings with every tile's mean 0, and the counters, tile states and page state given. -/
def watching (counter : Nat) (tile : TileState) (page : PageState) : Watch :=
  ⟨Table.fill 192 ⟨some 0, counter, tile⟩, true, page, if tile = .moving then 192 else 0, WatchSettings.default⟩

/-- Intake dropping frame 1; intake waiting for a frame; intake without signal. -/
def dropping : State :=
  State.reset.withIntake { Intake.reset with
    state := .dropping, counter := 1, current := some ⟨1, none, 0, false, defaultArea, ⟨0, Table.fill 192 0, 0⟩⟩ }
def waiting : State := State.reset.withIntake { Intake.reset with state := .waiting, lossTimer := .running }
def lost : State := State.reset.withIntake { Intake.reset with state := .lost }

/-- No slot is FREE. -/
def crowded : State :=
  { waiting with slots := Table.fill 12 (sensorSlot 1 0 ⟨false, false, false, false, false, true⟩ 0) }

theorem witness_FrameStartTakesLowestFreeSlot :
    State.reset.intake.state = .disabled ∧ live.intake.state = .disabled ∧
    (waiting.intake.state ≠ .disabled ∧ (waiting.slots.get 0).phase = .free) ∧
    (crowded.intake.state ≠ .disabled ∧ ∀ i, (crowded.slots.get i).phase ≠ .free ∧ (crowded.slots.get i).phase ≠ .filling) ∧
    ((filling 3 false (Watch.restarted .default) 0).intake.state ≠ .disabled ∧
      ((filling 3 false (Watch.restarted .default) 0).slots.get 0).phase = .filling) := by decide +kernel

theorem witness_LineArrivalCountsChecksWrites :
    waiting.intake.state ≠ .filling ∧
    (∀ n d, (filling n d (Watch.restarted .default) 0).intake.state = .filling ∧
      (filling n d (Watch.restarted .default) 0).intake.current =
        some ⟨1, some 0, n, d, defaultArea, ⟨0, Table.fill 192 0, 0⟩⟩) ∧
    (List.replicate 5183 (0 : Byte)).length ≠ 5184 ∧ (List.replicate 5184 (0 : Byte)).length = 5184 ∧
    1944 ≤ 1944 ∧ 1943 < 1944 := by
  refine ⟨by decide, fun _ _ => ⟨rfl, rfl⟩, ?_, List.length_replicate, by decide, by decide⟩
  rw [List.length_replicate]
  decide

/-- The premises of a good frame end, and the watch's three answers: none without means, DISTURB at 192 MOVING tiles,
SETTLE at none. -/
theorem witness_GoodFrameEndHandsOn :
    (∀ w m, (filling 1944 false w m).intake.state = .filling ∧
      (filling 1944 false w m).intake.current = some ⟨1, some 0, 1944, false, defaultArea, ⟨0, Table.fill 192 m, 0⟩⟩) ∧
    ((Watch.restarted .default).sample ((Table.fill 192 0).map (· / 26244))).2 = none ∧
    ((watching 7 .still .still).sample ((Table.fill 192 (26244 * 100)).map (· / 26244))).2 = some (.disturb 192) ∧
    ((watching 1 .moving .motion).sample ((Table.fill 192 0).map (· / 26244))).2 = some .settle :=
  ⟨fun _ _ => ⟨rfl, rfl⟩, by decide +kernel, by decide +kernel, by decide +kernel⟩

/-- The schedule's three cases at a good frame end. -/
theorem test_schedule_cases :
    State.reset.schedule.overtaken = [] ∧ (overtaking [none] State.reset).schedule.overtaken = none :: [] ∧
      (overtaking [some .key] State.reset).schedule.overtaken = some .key :: [] := by decide

/-- The settle at that frame's end: with and without a capture before it, frame 1 holds the completed slot 0. -/
theorem test_settle_at_frame_end :
    got (exec .frameEnd (filling 1944 false (watching 1 .moving .motion) 0)) (fun t =>
      (((t.slots.get 0).phase, (t.slots.get 0).origin, (t.slots.get 0).tags), t.watch.page)) =
      some ((.ready, some (.sensor 1), onBoth), .still) ∧
    got (exec .frameEnd (overtaking [some (.request 1)] (filling 1944 false (watching 1 .moving .motion) 0))) (fun t =>
      ((t.slots.get 0).tags, t.watch.page)) = some (onBoth, .still) := by decide +kernel

theorem witness_DamagedDroppedAndLostFrames :
    (∀ n d, (filling n d (Watch.restarted .default) 0).intake.state = .filling ∧
      (filling n d (Watch.restarted .default) 0).intake.current =
        some ⟨1, some 0, n, d, defaultArea, ⟨0, Table.fill 192 0, 0⟩⟩) ∧
    dropping.intake.state = .dropping ∧ (lost.intake.state ≠ .filling ∧ lost.intake.state ≠ .dropping) ∧
    waiting.intake.state = .waiting ∧ lost.intake.state ≠ .waiting :=
  ⟨fun _ _ => ⟨rfl, rfl⟩, by decide, by decide, by decide, by decide⟩

theorem witness_WholeFrameIsMeasured :
    wholeImage (List.replicate 1944 (List.replicate 5184 0)) = true ∧
    (filling 0 false (Watch.restarted .default) 0).intake.current =
      some ⟨1, some 0, 0, false, ⟨648, 486, 1296, 972⟩, ⟨0, Table.fill 192 0, 0⟩⟩ ∧
    648 + 1296 ≤ 2592 ∧ 486 + 972 ≤ 1944 := by
  refine ⟨?_, rfl, by decide, by decide⟩
  unfold wholeImage
  simp only [List.length_replicate, List.all_replicate]
  decide

theorem witness_TileCounterFollowsSamples :
    (1 ≤ WatchSettings.default.rise ∧ 1 ≤ WatchSettings.default.length) ∧
    (Tile.Law .default ⟨some 0, 7, .still⟩ ∧ (WatchSettings.default.threshold : Int) ≤ |((6 : Nat) : Int) - (0 : Nat)| ∧
      (Tile.judged .default ⟨some 0, 7, .still⟩ 6).counter = 8) ∧
    (Tile.Law .default ⟨some 0, 1, .moving⟩ ∧ ¬((WatchSettings.default.threshold : Int) ≤ |((5 : Nat) : Int) - (0 : Nat)|) ∧
      (Tile.judged .default ⟨some 0, 1, .moving⟩ 5).counter = 0) ∧
    (Tile.Law .default ⟨some 0, 8, .moving⟩ ∧ (Tile.judged .default ⟨some 0, 8, .moving⟩ 0).counter = 7) ∧
    Tile.Law ⟨true, 6, 15, 1, 6⟩ ⟨some 0, 0, .still⟩ := by decide

theorem witness_SampleMovesThePage :
    (Watch.restarted ⟨false, 6, 4, 8, 6⟩).page = .off ∧
    ((Watch.restarted .default).page ≠ .off ∧ (Watch.restarted .default).meansPresent = false) ∧
    ((watching 7 .still .still).meansPresent = true ∧ (watching 7 .still .still).page = .still) ∧
    (watching 1 .moving .motion).meansPresent = true ∧ (watching 1 .moving .motion).page = .motion := by decide

theorem witness_SettingsBroughtIntoRange :
    State.reset.link.Free ∧ ((3 : Byte).toNat = (3 : Fin 4).val ∧ 4 ≤ (4 : Byte).toNat) ∧
    State.reset.intake.state = .disabled ∧ lost.intake.state ≠ .disabled ∧
    (filling 0 false (Watch.restarted .default) 0).intake.state = .filling ∧ dropping.intake.state ≠ .filling := by decide

/-- Two windows one step from their targets, and one beyond its target. -/
def gliding : State :=
  State.reset.withViews ⟨[⟨256, 257, 1, 0, 0⟩, ⟨2048, 256, 0, 0, 0⟩, ⟨300, 256, 16, 0, 0⟩, ⟨256, 256, 16, 0, 0⟩], rfl⟩

theorem witness_GlidesReachTheirTargets :
    (gliding.views.get 1).rate = 0 ∧
    ((gliding.views.get 0).zoom < (gliding.views.get 0).target ∧ 0 < (gliding.views.get 0).rate) ∧
    ((gliding.views.get 2).target < (gliding.views.get 2).zoom ∧ 0 < (gliding.views.get 2).rate) ∧
    (gliding.views.get 3).zoom = (gliding.views.get 3).target ∧
    ((List.finRange 4).filter fun i => (State.reset.views.get i).zoom != (State.reset.views.get i).target &&
      (((State.reset.views.map Window.glide).get i).zoom == ((State.reset.views.map Window.glide).get i).target)) = [] ∧
    ((List.finRange 4).filter fun i => (gliding.views.get i).zoom != (gliding.views.get i).target &&
      (((gliding.views.map Window.glide).get i).zoom == ((gliding.views.map Window.glide).get i).target)) = [0, 1] := by
  decide +kernel

theorem witness_RectangleStaysInsideFrame :
    Window.Law ⟨2048, 256, 255, 2591, 0⟩ ∧ 16 ≤ 16 ∧ 16 ≤ 1920 ∧ 16 ≤ 1200 ∧ 1200 ≤ 1200 := by decide

theorem witness_SnapshotRequestsReport :
    State.reset.link.Free ∧ (3 : Byte).toNat = (3 : Fin 4).val ∧ 4 ≤ (4 : Byte).toNat := by decide

theorem witness_SharpeningIsBounded :
    (0 ≤ 255 ∧ 255 ≤ 255) ∧ (⟨0, 0, 127⟩ : Profile).gain = 0 ∧ (⟨63, 0, 0⟩ : Profile).limit = 0 := by decide

/-- A pane of 16 × 16 that shows the frame's right edge, and a source of luma 0..255. -/
theorem witness_PipePixelsAreResampled :
    (wholeImage (List.replicate 1944 (List.replicate 5184 0)) = true ∧
      (⟨0, 3, 16, 16, ⟨2590, 0, 2, 2⟩, 0, ⟨0, 0, 0⟩, 512, 512⟩ : PaneJob).width = 16 ∧ 15 < 16) ∧
    ∀ x ≤ 2591, ∀ y ≤ 1943, 0 ≤ (fun x y : Nat => (x + y) % 256) x y ∧ (fun x y : Nat => (x + y) % 256) x y ≤ 255 := by
  refine ⟨⟨?_, rfl, by decide⟩, fun x _ y _ => ⟨Nat.zero_le _, by show (x + y) % 256 ≤ 255; omega⟩⟩
  unfold wholeImage
  simp only [List.length_replicate, List.all_replicate]
  decide

/-! ### Witnesses: output and capture -/

theorem witness_OutputAndPaneRequests :
    State.reset.link.Free ∧ (4 ≤ (4 : Byte).toNat ∧ (3 : Byte).toNat = (3 : Fin 4).val) ∧
    (State.reset.output.state = .off ∧
      (State.reset.withOutput { Output.reset with state := .run }).output.state ≠ .off) ∧
    ((3 : Byte).toNat < 4 ∧ 6 ≤ (6 : Byte).toNat ∧ (5 : Byte).toNat < 6 ∧ (5 : Byte) = PaneSource.test.code) := by decide

/-- Output in STARTING with the count given and no frame begun; in RUN likewise. -/
def starting (count : Nat) : State := live.withOutput { Output.reset with state := .starting, startCount := count }
def running : State := live.withOutput { Output.reset with state := .run }

/-- Output in RUN, scanning a frame whose pane 0 shows slot 3. -/
def scanning : State :=
  { live with
    slots := live.slots.set 3 (sensorSlot 5 600 onBoth 1)
    output :=
      { Output.reset with
        state := .run
        latch := some ⟨some .still, black,
          (Table.fill 4 ⟨⟨0, 0, 0, 0⟩, .nothing⟩).set 0 ⟨⟨0, 0, 1920, 1080⟩, .slot 3⟩⟩ }
    pipe := { live.pipe with jobs := [⟨0, 3, 1920, 1080, ⟨0, 243, 2592, 1458⟩, 2, ⟨24, 4, 40⟩, 5529, 5529⟩] } }

theorem witness_StartingFramesAndFrameEnds :
    ((starting 2).output.state = .starting ∧ (starting 2).output.startCount < 3 ∧ (starting 2).output.latch = none) ∧
    scanning.output.latch ≠ none ∧ State.reset.output.latch = none ∧ State.reset.output.state = .off ∧
    scanning.output.state ≠ .off ∧ (1919 < 1920 ∧ 1199 < 1200) := by decide +kernel

theorem witness_RunFrameStart :
    (running.output.latch = none ∧ running.output.state = .run) ∧
    ((starting 3).output.latch = none ∧ (starting 3).output.state = .starting ∧ 3 ≤ (starting 3).output.startCount) ∧
    (running.schedule.between = [] ∧
      (during [⟨[.unfreeze 1 0], [.frameEnd], []⟩] running).schedule.between =
        ⟨[.unfreeze 1 0], [.frameEnd], []⟩ :: []) ∧
    got (runAll (([.unfreeze 1 0, .frameEnd] : List TagMove).map moveCommand) running) (fun _ => true) = some true ∧
    got (exec .outputFrameStart (during [⟨[.unfreeze 1 0], [.frameEnd], []⟩] running)) (fun t =>
      ((t.slots.get 3).pins, t.schedule)) = some (1, ⟨[], []⟩) := by decide +kernel

/-- OFF and RUN at the port (R95). -/
theorem test_port_levels :
    live.portLevels 0 0 = ⟨false, false, false, ⟨0, 0, 0⟩⟩ ∧
      got (exec .outputFrameStart (starting 0)) (fun t =>
        ((t.portLevels 1919 1079).dataEnable, (t.portLevels 1919 1079).data, (t.portLevels 1920 0).dataEnable)) =
        some (true, black, false) := by decide +kernel

/-- RUN, panes 0 and 1 showing LIVE side by side; frame 5 is LIVE on slot 3 with the tags and pins given, and all 1944
lines of frame 6 are in slot 0. Lesson 2 is open in a READY store. -/
def racing (tags : TagSet) (pins : Nat) : State :=
  { live with
    slots := (live.slots.set 3 (sensorSlot 5 600 tags pins)).set 0
      ⟨.filling, some (.sensor 6), none, TagSet.empty, 0, []⟩
    intake :=
      { Intake.reset with
        state := .filling, counter := 6
        current := some ⟨6, some 0, 1944, false, defaultArea, ⟨0, Table.fill 192 0, 0⟩⟩ }
    output :=
      { Output.reset with
        state := .run
        active := ⟨[⟨true, ⟨0, 0, 960, 1080⟩, .live, false, 0, 2, black⟩,
          ⟨true, ⟨960, 0, 960, 1080⟩, .live, false, 0, 2, black⟩, Output.reset.active.get 2,
          Output.reset.active.get 3], rfl⟩ }
    store := { Store.reset with
      state := .ready, cellCount := 64, cells := .used :: List.replicate 63 .erased, directory := [lesson2], stamp := 8 } }

theorem witness_SlotStoreRaces :
    ((racing onLive 0).slots.Law ∧ (racing onLive 0).output.latch = none ∧
      (racing onLive 0).output.commitPending = false ∧ (racing onLive 0).intake.state = .filling ∧
      ((racing onLive 0).slots.get 3).carries .live = true ∧ (racing onLive 0).link.Free ∧
      ((racing onLive 0).slots.get 3).tags = ⟨true, false, false, false, false, false⟩ ∧
      ((racing onLive 0).slots.get 3).origin = some (.sensor 5) ∧
      ∀ k : Fin 4, k = 0 ∨ k = 1 →
        ((racing onLive 0).output.active.get k).enabled = true ∧
        16 ≤ (clipRect 0 ((racing onLive 0).output.active.get k).rect).w ∧
        16 ≤ (clipRect 0 ((racing onLive 0).output.active.get k).rect).h) ∧
    (racing onLive 0).WorkLaw ∧
    ((racing onLive 0).store.directory.filter (·.isOpen) = [lesson2] ∧
      ∀ k, k ≠ 3 → ((racing onLive 0).slots.get k).origin ≠ some (.sensor 5)) ∧
    (((racing onLive 1).slots.get 3).pins ≠ 0 ∧ (racing onLive 1).slots.Law) ∧
    ((during [⟨[.frameEnd], [], []⟩] (racing onLive 0)).schedule.between = ⟨[.frameEnd], [], []⟩ :: [] ∧
      (overtaking [some (.request 1)] (racing onLive 0)).schedule.overtaken = some (.request 1) :: []) ∧
    ((sending .nothing none none).link.hand ≠ none ∧ (sending .nothing none none).link.waitingPlace = none) ∧
    (sending .nothing (some ⟨1, 1, []⟩) none).link.waitingPlace ≠ none ∧
    (Capture.reset.expiries = 0 ∧ { Capture.reset with expiries := 1 }.expiries = 0 + 1) := by
  refine ⟨by decide +kernel, ⟨fun i => ?_, ⟨rfl, rfl, rfl⟩, by decide +kernel, trivial, by decide +kernel,
    by decide +kernel⟩, by decide +kernel, by decide +kernel, ⟨rfl, rfl⟩, by decide, by decide, rfl, rfl⟩
  fin_cases i <;> first | exact ⟨rfl, rfl⟩ | exact rfl | exact (by decide : some 600 ≠ none)

/-- A frame end between the turns of panes 0 and 1: each pins its own frame (R109). -/
theorem test_two_frames_in_one :
    got (exec .outputFrameStart (during [⟨[.frameEnd], [], []⟩] (racing onLive 0))) (fun t =>
      ((t.slots.get 3).pins, (t.slots.get 0).pins, (t.slots.get 3).tags, (t.slots.get 0).tags)) =
    some (1, 1, TagSet.empty, onLive) := by decide +kernel

/-- A CAPTURE NOW overtaken by the end of frame 6: STALE where frame 5's slot was freed, else taken (1.4, R124). -/
theorem test_capture_overtaken :
    sent .frameEnd (overtaking [some (.request 1)] (racing onLive 0)) = reply 0x4A 1 .ok [1, 6, 5, 0, 0, 0, 0, 0, 0, 0] ∧
      sent .frameEnd (overtaking [some (.request 1)] (racing onBoth 0)) = reply 0x4A 1 .ok [0, 0, 5, 0, 0, 0, 3, 2, 3, 0] := by
  decide +kernel

/-- An INTERVAL capture overtaken by the end of frame 6 is of frame 5, and its expiry is used up (R122, R124). -/
theorem test_interval_overtaken :
    got (exec .frameEnd (overtaking [some .interval] ((racing onBoth 0).withCapture { Capture.reset with
      settings := ⟨.continuous, ⟨false, true, false⟩, 0, 30, true⟩, expiries := 1 }))) (fun t =>
      (t.store.queue.map (·.frame), t.capture.expiries, t.intake.stats.frame)) = some ([5], 0, 6) := by decide +kernel

/-- A latch whose pane 1 (test card) and pane 2 (absent colour) lie over pane 0, which shows slot 3. -/
def layered : FrameLatch :=
  ⟨some .still, black,
    ⟨[⟨⟨0, 0, 1920, 1080⟩, .slot 3⟩, ⟨⟨0, 0, 1000, 100⟩, .testCard⟩, ⟨⟨0, 0, 16, 16⟩, .absent black⟩,
      ⟨⟨0, 0, 0, 0⟩, .nothing⟩], rfl⟩⟩

/-- The pane that covers a pixel and shows anything. -/
def covering (l : FrameLatch) (x y : Nat) (n : Fin 4) : Bool :=
  decide ((l.panes.get n).shows ≠ .nothing ∧ (l.panes.get n).rect.x ≤ x ∧
    x < (l.panes.get n).rect.x + (l.panes.get n).rect.w ∧
    (l.panes.get n).rect.y ≤ y ∧ y < (l.panes.get n).rect.y + (l.panes.get n).rect.h)

/-- Column 1920 is covered by none; column 0 by pane 2 (absent); column 16 by pane 1 (the card); column 1919 by pane 0,
whose job is the frame's only one. -/
theorem witness_CompositionOrder :
    (∀ n, ¬covering layered 1920 0 n) ∧
    (covering layered 0 0 2 ∧ (∀ m, 2 < m → ¬covering layered 0 0 m) ∧ (layered.panes.get 2).shows = .absent black) ∧
    (covering layered 16 0 1 ∧ (∀ m, 1 < m → ¬covering layered 16 0 m) ∧ (layered.panes.get 1).shows = .testCard) ∧
    (covering layered 1919 0 0 ∧ (∀ m, 0 < m → ¬covering layered 1919 0 m) ∧
      ∃ j ∈ scanning.pipe.jobs, (layered.panes.get 0).shows = .slot j.slot ∧ j.pane = 0 ∧
        (scanning.pipe.jobs.map (·.pane)).Nodup) := by decide +kernel

/-- Capture with the mode, mask, armed mark and holdoff counter given, and one expiry of the interval timer waiting. -/
def gated (mode : CaptureMode) (mask : SourceMask) (armed : Bool) (holdoff : Nat) : State :=
  teaching.withCapture { Capture.reset with
    settings := ⟨mode, mask, 0, 30, true⟩, armed := armed, holdoffCounter := holdoff, expiries := 1 }

theorem witness_CaptureSetAndArm :
    teaching.link.Free ∧ 3 ≤ (3 : Byte).toNat ∧ (2 : Byte) = CaptureMode.continuous.code ∧
    (gated .single ⟨true, true, true⟩ false 0).capture.settings.mode = .single := by decide

theorem witness_GateJudgesTriggers :
    (State.reset.capture.expiries = 0 ∧ (gated .single ⟨true, true, true⟩ true 0).capture.expiries = 0 + 1) ∧
    ((gated .single ⟨true, true, true⟩ true 0).capture.settings.mode ≠ .off ∧
      (gated .single ⟨true, true, true⟩ true 0).capture.settings.mask.interval = true ∧
      (gated .single ⟨true, true, true⟩ true 0).capture.holdoffCounter = 0 ∧
      (gated .single ⟨true, true, true⟩ true 0).capture.armed = true) ∧
    (gated .continuous ⟨true, true, true⟩ false 1).capture.holdoffCounter ≠ 0 ∧
    ((gated .continuous ⟨true, true, true⟩ false 0).slots.get 3).carries .live = true ∧
    (∀ j, ((gated .continuous ⟨true, true, true⟩ false 0).slots.get j).carries .live = true → j = 3) ∧
    ((gated .continuous ⟨true, true, true⟩ false 0).slots.get 3).origin = some (.sensor 5) ∧
    ((gated .continuous ⟨true, true, true⟩ false 0).slots.get 3).focus = some 600 ∧
    ∀ i, (State.reset.slots.get i).carries .live = false := by decide +kernel

/-- The interval counts and the key filter at their ends. -/
def counting (frames posts keys : Nat) (pressed : Bool) : Capture :=
  { Capture.reset with frameCount := frames, postCount := posts, keyCounter := keys, keyPressed := pressed }

theorem witness_TimerAndKeyTriggers :
    (counting 58 0 0 false).frameCount + 1 ≠ (counting 58 0 0 false).prescale ∧
    ((counting 59 8 0 false).frameCount + 1 = (counting 59 8 0 false).prescale ∧
      (counting 59 8 0 false).postCount + 1 ≠ (counting 59 8 0 false).postscale) ∧
    ((counting 59 9 0 false).frameCount + 1 = (counting 59 9 0 false).prescale ∧
      (counting 59 9 0 false).postCount + 1 = (counting 59 9 0 false).postscale) ∧
    (1 ≤ Capture.reset.prescale ∧ 1 ≤ Capture.reset.postscale ∧ Capture.reset.frameCount = 0 ∧
      Capture.reset.postCount = 0 ∧ Capture.reset.keyCounter = 0 ∧ Capture.reset.keyPressed = false) ∧
    (min ((counting 0 0 14 false).keyCounter + 1) 15 = 15 ∧ (counting 0 0 14 false).keyPressed = false) ∧
    (max ((counting 0 0 1 true).keyCounter - 1) 0 = 0 ∧ (counting 0 0 1 true).keyPressed = true) ∧
    (min ((counting 0 0 13 false).keyCounter + 1) 15 ≠ 15 ∧ min ((counting 0 0 13 false).keyCounter + 1) 15 ≠ 0) := by
  decide +kernel

/-- The frame start that ends the period only records the expiry; INTERVAL_EXPIRY judges it, once (R118). -/
theorem test_expiry_judged_once :
    got (exec .outputFrameStart (running.withCapture
      { (gated .continuous ⟨true, true, true⟩ false 0).capture with frameCount := 59, postCount := 9, expiries := 0 }))
      (fun t => (t.capture.frameCount, t.capture.postCount, t.capture.expiries, t.capture.holdoffCounter)) =
      some (0, 0, 1, 0) ∧
    got (exec .intervalExpiry (gated .continuous ⟨true, true, true⟩ false 0)) (fun t =>
      (t.capture.expiries, t.capture.holdoffCounter, t.store.queue.length)) = some (0, 30, 1) := by decide +kernel

/-- The entry of frame 5 of lesson 2, and a queue of entries of other frames. -/
def entry5 : SaveEntry := ⟨3, 5, 2, 2, .key, 600, 256, 1296, 972, 0⟩
def entryOf (slot : Fin 12) (frame : Word) (ordinal : Nat) : SaveEntry :=
  ⟨slot, frame, 2, ordinal, .key, 600, 256, 1296, 972, 0⟩
def queueing (queue : List SaveEntry) (lesson : Lesson) : State :=
  live.withStore { storeReady with queue := queue, directory := [lesson] }

/-- A SETTLE of focus 599 under floor 600 is blurred; no lesson is open after reset; ordinals end at 255; an entry of the
frame merges; four entries of other frames fill the queue; frame 6 is on no slot; frame 5 is on slot 3 alone. -/
theorem witness_CaptureOutcomes :
    ((Trigger.settle = .settle ∨ Trigger.settle = .interval) ∧ 599 < 600) ∧
    ¬((Trigger.key = .settle ∨ Trigger.key = .interval) ∧ 0 < 600) ∧
    State.reset.store.state ≠ .ready ∧
    (∀ l ∈ (queueing [] { lesson2 with isOpen := false }).store.directory, l.isOpen = false) ∧
    ((queueing [] { lesson2 with next := 256 }).store.state = .ready ∧
      (queueing [] { lesson2 with next := 256 }).store.directory.filter (·.isOpen) = [{ lesson2 with next := 256 }] ∧
      255 < { lesson2 with next := 256 }.next) ∧
    (entry5 ∈ (queueing [entry5] lesson2).store.queue ∧ lesson2.next ≤ 255 ∧ entry5.frame = 5 ∧
      ((queueing [entry5] lesson2).store.queue.map (·.frame)).Nodup) ∧
    ((∀ e ∈ [entryOf 4 1 2, entryOf 5 2 3, entryOf 6 3 4, entryOf 7 4 5], e.frame ≠ 5) ∧
      4 ≤ [entryOf 4 1 2, entryOf 5 2 3, entryOf 6 3 4, entryOf 7 4 5].length) ∧
    ((queueing [] lesson2).store.queue.length < 4 ∧
      (∀ i, ¬(((queueing [] lesson2).slots.get i).phase = .ready ∧
        ((queueing [] lesson2).slots.get i).origin = some (.sensor 6)))) ∧
    (((queueing [] lesson2).slots.get 3).phase = .ready ∧
      ((queueing [] lesson2).slots.get 3).origin = some (.sensor 5) ∧
      ∀ j, ((queueing [] lesson2).slots.get j).phase = .ready →
        ((queueing [] lesson2).slots.get j).origin = some (.sensor 5) → 3 ≤ j) := by decide +kernel

/-- A reclaim erase of cell 1 waits behind an export read and another step; the entry that joins withdraws it (R153). -/
theorem test_reclaim_withdrawn :
    let s := teaching.withStore { storeReady with
      cells := .used :: .erasing :: List.replicate 62 .erased, writer := .reclaim
      port := ⟨some (.exportRead 9 0 0 1 false), [.recallRead 0, .reclaimErase 1]⟩ }
    s.store.port.waiting = [.recallRead 0] ++ .reclaimErase 1 :: [] ∧
    got (exec .intervalExpiry (s.withCapture (gated .continuous ⟨true, true, true⟩ false 0).capture)) (fun t =>
      (t.store.cells.take 3, t.store.writer, t.store.port.waiting)) =
      some ([.used, .dead, .writing], .program, [.recallRead 0, .saveProgram 2]) := by decide +kernel

/-- Without a LIVE slot a capture misses; with frame 5 on slot 3 it is taken. -/
theorem witness_CaptureNowReplies :
    State.reset.link.Free ∧ teaching.link.Free ∧ (∀ i, (State.reset.slots.get i).carries .live = false) ∧
    (State.reset.takeCapture .request none).2 = .missed .noFrame 0 ∧
    ((teaching.slots.get 3).carries .live = true ∧ (∀ j, (teaching.slots.get j).carries .live = true → j = 3) ∧
      (teaching.slots.get 3).origin = some (.sensor 5) ∧ (teaching.slots.get 3).focus = some 600) ∧
    (teaching.takeCapture .request (some (5, 600))).2 = .taken 5 3 2 3 false false := by decide +kernel

/-! ### Witnesses: the lesson store -/

/-- The store in the state given; with a step in flight; with lesson 2 as given. -/
def storing (state : StoreState) : State := State.reset.withStore { Store.reset with state := state }
def flying (x : PortStep) (queue : List SaveEntry) (attempt : Option Attempt) : State :=
  live.withStore { storeReady with port := ⟨some x, []⟩, queue := queue, attempt := attempt }
def closed2 : Lesson := { lesson2 with isOpen := false }
def deleting2 : Lesson := { closed2 with deleting := true }
def holding (lesson : Lesson) : State := live.withStore { storeReady with directory := [lesson] }

theorem witness_StoreStatesReceiveRequests :
    (teaching.link.Free ∧ (holding closed2).link.Free ∧ (storing .fault).link.Free ∧
      isStoreRequest (.lessonClose 1) = true ∧ encodeRequest (.lessonClose 1) = some ⟨0x5A, 1, []⟩) ∧
    (storing .formatting).store.state = .formatting ∧ (storing .fault).store.state = .fault ∧
    ((∃ l ∈ teaching.store.directory, l.isOpen = true) ∧ teaching.store.state = .ready) ∧
    (¬(∃ l ∈ (queueing [entry5] closed2).store.directory, l.isOpen = true) ∧
      (queueing [entry5] closed2).store.queue ≠ []) ∧
    (¬(∃ l ∈ (holding closed2).store.directory, l.isOpen = true) ∧ (holding closed2).store.queue = [] ∧
      (holding closed2).store.port.inFlight = none ∧ (holding closed2).store.recallLoad = none ∧
      (holding closed2).store.deleteWork = none) ∧
    (flying (.reclaimErase 1) [] none).store.port.inFlight ≠ none := by decide +kernel

theorem witness_MediaReadsAndErases :
    ((storing .mounting).withStore (Store.reset.identityAsked .mounting)).store.port.inFlight = some .identityRead ∧
    (1073741823 < 64 * 16777216 ∧ 64 * 16777216 ≤ 1073741824) ∧
    ((Store.reset.identityAsked .mounting).state = .mounting ∧
      (Store.reset.identityAsked .formatting).state = .formatting) ∧
    (flying (.headerRead 63) [] none).store.port.inFlight = some (.headerRead 63) ∧
    (flying (.formatErase 62) [] none).store.port.inFlight = some (.formatErase 62) ∧
    State.reset.store.port.inFlight = none := by decide

/-- Two candidates of one lesson and ordinal, and a header that is no candidate. -/
def scanned : Store :=
  { Store.reset with
    state := .mounting, cellCount := 64, cells := [.used, .used, .dead], port := ⟨some (.headerRead 63), []⟩
    scan := [⟨0, 64, 255, 7, [77], true⟩, ⟨1, 64, 255, 0xFFFFFFFF, [78], true⟩, ⟨2, 1, 1, 3, [], false⟩] }

theorem witness_MountBuildsDirectory :
    scanned.ScanLaw ∧ scanned.cells[0]? = some .used ∧ scanned.scan ≠ [] ∧ Store.reset.scan = [] := by decide

theorem witness_ProgrammedHeaderIsFoundAtMount :
    1 ≤ entry5.lesson ∧ entry5.lesson ≤ 64 ∧ 1 ≤ entry5.ordinal ∧ entry5.ordinal ≤ 255 ∧
      (List.replicate 24 (65 : Byte)).length ≤ 24 ∧ entry5.zoom < 65536 ∧ entry5.cx < 65536 ∧ entry5.cy < 65536 ∧
      (0xFE : Byte) ≠ 0xFF := by decide

/-- The store with its cells, stamp and queue as given. -/
def celled (cells : List CellState) (stamp : Word) (queue : List SaveEntry) : State :=
  live.withStore { storeReady with cells := cells, stamp := stamp, queue := queue }

theorem witness_WriterChoosesCells :
    ((celled [.used] 0 [entry5]).store.queue = entry5 :: [] ∧ (celled [.used] 0 [entry5]).store.stamp = 0) ∧
    ((celled [.dead, .erased] 1 [entry5]).store.cells[1]? = some .erased ∧
      ∀ k < 1, (celled [.dead, .erased] 1 [entry5]).store.cells[k]? ≠ some .erased) ∧
    (.erased ∉ (celled [.used, .dead] 1 [entry5]).store.cells ∧
      (celled [.used, .dead] 1 [entry5]).store.cells[1]? = some .dead ∧
      ∀ k < 1, (celled [.used, .dead] 1 [entry5]).store.cells[k]? ≠ some .dead) ∧
    (.dead ∉ (celled [.used] 1 [entry5]).store.cells ∧ .erased ∉ (celled [.used] 1 [entry5]).store.cells ∧
      (celled [.used] 1 [entry5]).store.queue.getLast? = some entry5) ∧
    ((celled [.used] 1 []).store.state = .ready ∧ (celled [.used] 1 []).store.writer = .idle ∧
      (celled [.used] 1 []).store.queue = []) ∧
    State.reset.store.state ≠ .ready := by decide +kernel

/-- Steps of classes 5, 4 and 4 waiting: the middle one is the oldest of the lowest class. -/
theorem witness_PortGrantsLowestClass :
    (⟨none, [.reclaimErase 1, .saveProgram 2, .saveErase 3]⟩ : Port).waiting =
      [.reclaimErase 1] ++ PortStep.saveProgram 2 :: [.saveErase 3] ∧
    (flying (.reclaimErase 1) [] none).store.port.inFlight ≠ none ∧ Store.reset.port.waiting = [] ∧
    (∀ c, PortStep.tombstone 2 1 0 none ≠ .saveProgram c) ∧
    ((queueing [entry5] lesson2).store.queue = entry5 :: [] ∧ lesson2 ∈ (queueing [entry5] lesson2).store.directory ∧
      lesson2.id = entry5.lesson ∧ ((queueing [entry5] lesson2).store.directory.map (·.id)).Nodup) := by
  refine ⟨rfl, by decide +kernel, rfl, fun _ h => ?_, by decide +kernel⟩
  cases h

/-- A save of frame 5 in lesson 2 with its stamp taken, on the third cell tried. -/
def trying (tries : Nat) : Attempt := ⟨2, tries, some 7, []⟩
def saving : Lesson := { lesson2 with next := 3 }

theorem witness_SaveAndReclaimStepsEnd :
    ((flying (.saveErase 2) [entry5] (some (trying 2))).store.port.inFlight = some (.saveErase 2) ∧
      (flying (.saveErase 2) [entry5] (some (trying 2))).store.queue = entry5 :: [] ∧
      (flying (.saveErase 2) [entry5] (some (trying 2))).store.attempt = some (trying 2) ∧ (trying 2).tries < 3 ∧
      ¬(trying 3).tries < 3) ∧
    (flying (.saveProgram 2) [entry5] (some (trying 3))).store.port.inFlight = some (.saveProgram 2) ∧
    ((flying (.saveCommit 2) [entry5] (some (trying 3))).store.port.inFlight = some (.saveCommit 2) ∧
      (flying (.saveCommit 2) [entry5] (some (trying 3))).store.DirectoryLaw ∧ (trying 3).stamp = some 7) ∧
    (flying (.reclaimErase 1) [] none).store.port.inFlight = some (.reclaimErase 1) ∧
    State.reset.store.port.inFlight = none := by decide +kernel

/-- Lessons 1 to `n`, closed and with no page. -/
def lessonsTo (n : Nat) : List Lesson := (List.range n).map fun k => ⟨k + 1, [], false, 1, false, []⟩
def directory (lessons : List Lesson) (work : Option DeleteWork) : State :=
  State.reset.withStore { storeReady with directory := lessons, deleteWork := work }

theorem witness_LessonRequests :
    (teaching.link.Free ∧ (directory (lessonsTo 63) none).link.Free ∧ teaching.store.state = .ready ∧ teaching.store.DirectoryLaw ∧ lesson2 ∈ teaching.store.directory ∧
      lesson2.isOpen = true) ∧
    ((directory (lessonsTo 64) none).store.DirectoryLaw ∧ 64 ≤ (directory (lessonsTo 64) none).store.directory.length ∧
      ∀ l ∈ (directory (lessonsTo 64) none).store.directory, l.isOpen = false) ∧
    ((directory (lessonsTo 63) none).store.DirectoryLaw ∧ (directory (lessonsTo 63) none).store.directory.length < 64 ∧
      (∀ l ∈ (directory (lessonsTo 63) none).store.directory, l.id ≠ 64) ∧
      (∀ k < 64, 1 ≤ k → ∃ l ∈ (directory (lessonsTo 63) none).store.directory, l.id = k)) ∧
    ((directory [deleting2] (some ⟨2, 0, 0⟩)).store.DirectoryLaw ∧ deleting2.deleting = true ∧
      (directory [deleting2] (some ⟨2, 0, 0⟩)).store.queuedOrdinals 2 = []) ∧
    ((directory [closed2] none).store.DirectoryLaw ∧ closed2.deleting = false ∧ closed2.pages = page1 :: [] ∧
      (∀ o ∈ closed2.pages.map (·.ordinal) ++ (directory [closed2] none).store.queuedOrdinals 2, o < 2) ∧
      ∃ o ∈ closed2.pages.map (·.ordinal) ++ (directory [closed2] none).store.queuedOrdinals 2, o + 1 = 2) ∧
    ((queueing [entry5] closed2).store.DirectoryLaw ∧ (queueing [entry5] closed2).store.queuedOrdinals 2 ≠ []) ∧
    (directory [closed2] (some ⟨1, 0, 0⟩)).store.deleteWork ≠ none ∧
    (directory [closed2, ⟨3, [], false, 1, false, []⟩] none).store.DirectoryLaw := by
  refine ⟨?_, ?_, ?_, ?_, ?_, ?_, ?_, ?_⟩ <;> decide +kernel

theorem witness_PageRequests :
    (teaching.link.Free ∧ crowded.link.Free ∧ teaching.store.state = .ready ∧ teaching.store.DirectoryLaw ∧ lesson2 ∈ teaching.store.directory ∧
      page1 ∈ lesson2.pages ∧ lesson2.id = (2 : Byte).toNat ∧ lesson2.deleting = false ∧
      page1.ordinal = (1 : Byte).toNat) ∧
    encodeRequest (.pageDelete 1 2 1) = some ⟨0x60, 1, [2, 1]⟩ ∧
    (∀ l ∈ teaching.store.directory, l.id ≠ (1 : Byte).toNat) ∧ (∀ p ∈ lesson2.pages, p.ordinal ≠ (2 : Byte).toNat) ∧
    ((directory [deleting2] (some ⟨2, 0, 0⟩)).store.DirectoryLaw ∧ deleting2.deleting = true) ∧
    (10077696 ≤ (10077696 : Word).toNat ∧ (10077695 : Word).toNat < 10077696) ∧
    (teaching.store.recallLoad = none ∧ (∀ i, (teaching.slots.get i).phase ≠ .loading) ∧
      (teaching.slots.get 0).phase = .free) ∧
    (crowded.withStore storeReady).store.recallLoad = none ∧
    (∀ i, ((crowded.withStore storeReady).slots.get i).phase ≠ .free ∧
      ((crowded.withStore storeReady).slots.get i).phase ≠ .loading) ∧
    (live.withStore { storeReady with recallLoad := some ⟨2, 1, 0, 0, false⟩ }).store.recallLoad ≠ none := by
  refine ⟨?_, ?_, ?_, ?_, ?_, ?_, ?_, ?_, ?_, ?_⟩ <;> decide +kernel

/-- A recall of page 1 of lesson 2 being read for slot 0. -/
def loading : State :=
  { teaching with
    slots := teaching.slots.set 0 ⟨.loading, some (.store 2 1), none, TagSet.empty, 0, []⟩
    store := { storeReady with port := ⟨some (.recallRead 0), []⟩, recallLoad := some ⟨2, 1, 0, 0, true⟩ } }

/-- The header of that page, committed. -/
def header21 : List Byte := (programHeader { entry5 with ordinal := 1 } 7 [77]).set 50 0

/-- The check of R158 on a header area, for that page. -/
def recallRight (h : List Byte) : Bool :=
  let b (i : Nat) : Byte := h.getD i 0xFF
  decide ([b 0, b 1, b 2, b 3] = [0x57, 0x58, 0x50, 0x31] ∧
    crcBytes ((List.range 48).map b) = [b 48, b 49] ∧ (b 4).toNat = 2 ∧ (b 5).toNat = 1)

theorem witness_PageStepsEnd :
    ((flying (.tombstone 2 1 0 (some 9)) [] none).store.port.inFlight = some (.tombstone 2 1 0 (some 9))) ∧
    (((directory [deleting2] (some ⟨2, 0, 0⟩)).store.deleteWork = some ⟨2, 0, 0⟩) ∧
      { deleting2 with pages := [] } ∈ ([deleting2].map fun l =>
        if l.id = 2 then { l with pages := l.pages.filter fun p => decide ¬(p.ordinal = 1 ∧ p.cell = 0) } else l) ∧
      ([deleting2].map (·.id)).Nodup) ∧
    ([page1, ⟨1, 3, 8⟩].filter fun p => decide ¬(p.ordinal = 1 ∧ p.cell = 0)) = ⟨1, 3, 8⟩ :: [] ∧
    (loading.store.port.inFlight = some (.recallRead 0) ∧ loading.store.recallLoad = some ⟨2, 1, 0, 0, true⟩) ∧
    (recallRight header21 = true ∧ recallRight (header21.set 5 2) = false) ∧
    ((flying (.exportRead 9 0 0 1 false) [] none).store.port.inFlight = some (.exportRead 9 0 0 1 false) ∧
      [(0 : Byte)].length = 1) ∧
    State.reset.store.port.inFlight = none := by decide +kernel

/-- Frame 5, whole, on slot 3; its save's program of cell 1 in flight, stamp 7 taken. -/
def programming : State :=
  { live with
    slots := live.slots.set 3
      { sensorSlot 5 600 { onBoth with capture := true } 0 with image := List.replicate 1944 (List.replicate 5184 0) }
    store :=
      { storeReady with
        cells := .used :: .writing :: List.replicate 62 .erased, directory := [saving], queue := [entry5]
        writer := .program, attempt := some ⟨1, 1, some 7, programHeader entry5 7 [77]⟩
        port := ⟨some (.saveProgram 1), []⟩ } }

theorem witness_FlashTraffic :
    (programming.store.port.inFlight = some (.saveProgram 1) ∧ programming.store.state = .ready ∧
      programming.store.queue = entry5 :: [] ∧ saving ∈ programming.store.directory ∧ saving.id = entry5.lesson ∧
      (programming.store.directory.map (·.id)).Nodup) ∧
    programming.store.WriterLaw ∧ wholeImage (programming.slots.get entry5.slot).image = true ∧
    (flying (.saveCommit 2) [entry5] (some (trying 3))).store.port.inFlight = some (.saveCommit 2) ∧
    (flying (.tombstone 2 1 0 (some 9)) [] none).store.port.inFlight = some (.tombstone 2 1 0 (some 9)) ∧
    ((flying (.saveErase 2) [] none).store.port.inFlight = some (.saveErase 2) ∧
      (flying (.reclaimErase 1) [] none).store.port.inFlight = some (.reclaimErase 1) ∧
      (flying (.formatErase 62) [] none).store.port.inFlight = some (.formatErase 62)) ∧
    (flying .identityRead [] none).store.port.inFlight = some .identityRead ∧
    (flying (.headerRead 63) [] none).store.port.inFlight = some (.headerRead 63) ∧
    loading.store.port.inFlight = some (.recallRead 0) ∧
    (flying (.exportRead 9 0 0 1 false) [] none).store.port.inFlight = some (.exportRead 9 0 0 1 false) ∧
    State.reset.store.port.inFlight = none := by
  refine ⟨by decide +kernel, fun _ => ⟨⟨by decide +kernel, by decide +kernel, ?_⟩,
    by decide +kernel⟩, ?_, rfl, rfl, ⟨rfl, rfl, rfl⟩, rfl, rfl, rfl, rfl, rfl⟩
  · show (if _ then _ else _)
    decide +kernel
  show wholeImage (List.replicate 1944 (List.replicate 5184 0)) = true
  unfold wholeImage
  simp only [List.length_replicate, List.all_replicate]
  decide

/-- A commit writes 0x00 at byte 50, a tombstone at byte 51 (R150, R155). -/
theorem test_marks :
    (flying (.saveCommit 2) [entry5] (some (trying 3))).flashOps = [.program (2 * 16777216 + 50) 0] ∧
      (flying (.tombstone 2 1 0 (some 9)) [] none).flashOps = [.program 51 0] := by decide

/-! ### Witnesses: the wire -/

/-- PING's reply and an INTAKE_LOST notice on the wire: their bytes but the CRC (R179, R190, R193). -/
theorem witness_WireBytes :
    ((sending .nothing none none).link.transmitter.wire[4159 / 416 / 10]? = some 0xC3 ∧
      (sending .nothing none none).link.transmitter.wire.length ≤ 37440 / 416 / 10) ∧
    ((Transmitter.reply ⟨0x01, 7, .ok, [0x60, 0x52, 1, 12, 0, 0], .nothing⟩).wire.take 13 =
      [0xC3, 0x02, 0x01, 0x07, 0x07, 0x00, 0x00, 0x60, 0x52, 1, 12, 0, 0]) ∧
    ((Transmitter.notice ⟨2, .intakeLost 0x01020304⟩).wire.take 11 =
      [0xC3, 0x03, 0x02, 0x00, 0x05, 0x00, 2, 4, 3, 2, 1]) := by decide +kernel

/-- 0xC3 at index 3: the start bit's last period, the second and third data bits, the stop bit, the next start bit. -/
theorem test_wire_levels :
    ([415, 832, 1248, 3744, 4160].map fun c => (sending .nothing none none).link.wireLevel c) =
      [false, true, false, true, false] ∧ State.reset.link.wireLevel 0 = true := by decide +kernel

/-- An idle bit time, the levels of 0xC3, a character of 0x01 whose stop bit is low, an idle line (R161). -/
theorem test_line_read :
    lineArrivals [true, false, true, true, false, false, false, false, true, true, true,
      false, true, false, false, false, false, false, false, false, false, true] =
      [.characterArrival (.good 0xC3), .characterArrival .faulty] := by decide +kernel

/-! ### Witnesses: the invariants

Each is met away from reset, and the step there answers a next state. -/

/-- A value read from a next state shows that there is one. -/
theorem next_of_got {α : Type} {o : Host.Outcome State Fault Refusal} {f : State → α} {a : α} (h : got o f = some a) :
    ∃ t, o = .next t := by
  cases o with
  | next t => exact ⟨t, rfl⟩
  | fault _ => cases h
  | refused _ => cases h

/-- A command at the front of the queue. -/
def fronting (c : Instr) (s : State) : State := s.withPending [c]

theorem witness_SlotLawKept :
    (fronting (.unfreeze 1 0) live).slots.Law ∧ ∃ t, step (fronting (.unfreeze 1 0) live) = .next t :=
  ⟨by decide +kernel, next_of_got (f := fun t => (t.slots.get 3).phase) (a := .ready) (by decide +kernel)⟩

theorem witness_PinLawKept :
    (fronting .outputFrameEnd scanning).PinLaw ∧ ∃ t, step (fronting .outputFrameEnd scanning) = .next t :=
  ⟨by decide +kernel, next_of_got (f := fun t => (t.slots.get 3).pins) (a := 0) (by decide +kernel)⟩

/-- Frame 5 queued, its slot with CAPTURE too. -/
def queued : State :=
  { queueing [entry5] saving with
    slots := live.slots.set 3 (sensorSlot 5 600 { onBoth with capture := true } 0) }

theorem witness_QueueLawKept :
    (fronting (.captureNow 1) queued).QueueLaw ∧ ∃ t, step (fronting (.captureNow 1) queued) = .next t :=
  ⟨by decide +kernel, next_of_got (f := fun t => t.store.queue.length) (a := 1) (by decide +kernel)⟩

theorem witness_WorkLawKept :
    (fronting .frameEnd (filling 1944 false (Watch.restarted .default) 0)).WorkLaw ∧
      ∃ t, step (fronting .frameEnd (filling 1944 false (Watch.restarted .default) 0)) = .next t := by
  refine ⟨⟨fun i => ?_, ⟨rfl, rfl, rfl⟩, by decide +kernel, trivial, by decide +kernel, by decide +kernel⟩,
    next_of_got (f := fun t => t.intake.state) (a := .waiting) (by decide +kernel)⟩
  fin_cases i <;> first | exact ⟨rfl, rfl⟩ | exact rfl

/-- Page 1 of lesson 2 being tombstoned for PAGE DELETE while frame 5's save waits to program cell 1; three notices
pending. -/
def lawful : State :=
  { live with
    slots := live.slots.set 3 (sensorSlot 5 600 { onBoth with capture := true } 0)
    notices := ringing.notices
    store :=
      { storeReady with
        cells := .used :: .writing :: List.replicate 62 .erased
        directory := [saving], queue := [entry5], writer := .program, attempt := some ⟨1, 1, none, []⟩
        port := ⟨some (.tombstone 2 1 0 (some 9)), [.saveProgram 1]⟩ }
    link := { State.reset.link with hand := some ⟨0x60, 9, [2, 1]⟩ }
    pending := [.tombstoneEnd true] }

theorem lawful_workLaw : lawful.WorkLaw := by
  refine ⟨fun i => ?_, rfl, by decide +kernel, trivial, by decide +kernel, by decide +kernel⟩
  fin_cases i <;> first | exact ⟨rfl, rfl⟩ | exact (by decide : some 600 ≠ none)

theorem lawful_rangeLaw : lawful.RangeLaw := by
  refine ⟨by decide +kernel, by decide +kernel, ⟨by decide, by decide, by decide, trivial⟩, by decide +kernel,
    by decide +kernel, by decide +kernel, by decide +kernel, by decide +kernel, by decide +kernel, fun k => ?_,
    by decide +kernel, ⟨rfl, by decide⟩⟩
  fin_cases k <;> refine ⟨by decide, ?_⟩ <;>
    first | exact (rfl : (_ : Nat) = 0) | exact ⟨by decide, by decide, rfl⟩

theorem lawful_bookLaw : lawful.store.BookLaw :=
  ⟨⟨by decide +kernel, by decide +kernel, by show _ ∧ _; decide +kernel⟩, by decide +kernel, by decide +kernel⟩

theorem lawful_cellLaw : lawful.store.CellLaw := by
  show List.Nodup _ ∧ _
  decide +kernel

theorem lawful_writerLaw : lawful.store.WriterLaw := fun _ =>
  ⟨⟨by decide +kernel, by decide +kernel, by show _ ∧ _; decide +kernel⟩, by decide +kernel⟩

theorem lawful_law : lawful.Law :=
  ⟨by decide +kernel, by decide +kernel, by decide +kernel, lawful_workLaw, lawful_rangeLaw,
    ⟨lawful_bookLaw, lawful_cellLaw, by decide +kernel, lawful_writerLaw⟩, by decide +kernel⟩

theorem lawful_steps : ∃ t, step lawful = .next t :=
  next_of_got (f := fun t => t.link.hand.isSome) (a := true) (by decide +kernel)

theorem witness_RangeLawKept : lawful.RangeLaw ∧ lawful.PinLaw ∧ ∃ t, step lawful = .next t :=
  ⟨lawful_rangeLaw, by decide +kernel, lawful_steps⟩

theorem witness_StoreLawKept : lawful.store.BookLaw ∧ ∃ t, step lawful = .next t := ⟨lawful_bookLaw, lawful_steps⟩

theorem witness_CellLawKept : lawful.Law ∧ ∃ t, step lawful = .next t := ⟨lawful_law, lawful_steps⟩

theorem witness_WriterPortAndAnswersAgree : lawful.Law ∧ ∃ t, step lawful = .next t := ⟨lawful_law, lawful_steps⟩

theorem witness_ReadyImageUnchanged :
    (fronting (.unfreeze 1 0) live).slots.Law ∧ (fronting (.unfreeze 1 0) live).WorkLaw ∧
      (∃ t, step (fronting (.unfreeze 1 0) live) = .next t) ∧
      ((fronting (.unfreeze 1 0) live).slots.get 3).phase = .ready := by
  refine ⟨by decide +kernel, ⟨fun i => ?_, rfl, by decide +kernel, trivial, by decide +kernel, by decide +kernel⟩,
    next_of_got (f := fun t => (t.slots.get 3).phase) (a := .ready) (by decide +kernel), by decide +kernel⟩
  fin_cases i <;> first | exact ⟨rfl, rfl⟩ | exact (by decide : some 600 ≠ none)

end Sys2Proof.Tests
end

section
/-! SUPPORT. What each operation of the slot store leaves of a slot, each said once: the image and the work (R2, R3, R5), what
holds the slot (R2, R4), and the CAPTURE tag (R4). -/

namespace Sys2Proof.Machine

/-! ### Tag sets -/

/-- Reading a tag of a set into which one tag was put, or out of which one was taken. -/
@[simp] theorem TagSet.has_put (t : TagSet) (tag g : Tag) (b : Bool) :
    (t.put tag b).has g = if g = tag then b else t.has g := by
  cases tag <;> cases g <;> rfl

/-- A set with a tag in it is not the empty set. -/
theorem TagSet.ne_empty_of_has {t : TagSet} {tag : Tag} (h : t.has tag = true) : t ≠ TagSet.empty := by
  rintro rfl
  cases tag <;> cases h

/-! ### One slot -/

/-- A slot is READY exactly while a tag or a pin holds it (R2). -/
def Slot.Held (x : Slot) : Prop := x.phase = .ready ↔ (x.tags ≠ TagSet.empty ∨ x.pins ≠ 0)

/-- The slot `y` has the image of `x`, and its phase, origin and focus measure too, but where a READY `x` was freed
(R5, R8). -/
structure Slot.Keeps (x y : Slot) : Prop where
  image : y.image = x.image
  work : (y.phase = x.phase ∧ y.origin = x.origin ∧ y.focus = x.focus) ∨
    (x.phase = .ready ∧ y.phase = .free ∧ y.origin = none ∧ y.focus = none)

/-- The slot `y` carries CAPTURE as `x` does, and a READY slot with CAPTURE stays READY with its origin. -/
structure Slot.Guarded (x y : Slot) : Prop where
  capture : y.carries .capture = x.carries .capture
  ready : x.carries .capture = true → x.phase = .ready → y.phase = .ready ∧ y.origin = x.origin

variable (x : Slot) (tag g : Tag)

theorem Slot.Keeps.refl : x.Keeps x := ⟨rfl, .inl ⟨rfl, rfl, rfl⟩⟩

theorem Slot.Guarded.refl : x.Guarded x := ⟨rfl, fun _ h => ⟨h, rfl⟩⟩

/-- A slot with a tag is READY where what holds it and its phase agree. -/
theorem Slot.Held.ready {x : Slot} {tag : Tag} (h : x.Held) (hc : x.carries tag = true) : x.phase = .ready :=
  h.mpr (.inl (TagSet.ne_empty_of_has hc))

/-- Nothing holds a slot that is not READY. -/
theorem Slot.Held.bare {x : Slot} (h : x.Held) (hp : x.phase ≠ .ready) : x.tags = TagSet.empty ∧ x.pins = 0 := by
  have hn : ¬(x.tags ≠ TagSet.empty ∨ x.pins ≠ 0) := fun e => hp (h.mpr e)
  exact ⟨by_contra fun e => hn (.inl e), by_contra fun e => hn (.inr e)⟩

/-! Reclaim (R8) -/

@[simp] theorem Slot.reclaimed_tags : x.reclaimed.tags = x.tags := by
  rcases x.reclaimed_cases with ⟨_, _, _, h⟩ | h <;> rw [h]; rfl

@[simp] theorem Slot.reclaimed_pins : x.reclaimed.pins = x.pins := by
  rcases x.reclaimed_cases with ⟨_, _, _, h⟩ | h <;> rw [h]; rfl

@[simp] theorem Slot.reclaimed_carries : x.reclaimed.carries g = x.carries g := by
  simp [Slot.carries]

theorem Slot.reclaimed_keeps : x.Keeps x.reclaimed := by
  rcases x.reclaimed_cases with ⟨hp, _, _, h⟩ | h <;> rw [h]
  · exact ⟨rfl, .inr ⟨hp, rfl, rfl, rfl⟩⟩
  · exact Slot.Keeps.refl x

/-- Reclaim makes a slot's phase agree with what holds it, where all that is held is READY. -/
theorem Slot.reclaimed_held {x : Slot} (h : (x.tags ≠ TagSet.empty ∨ x.pins ≠ 0) → x.phase = .ready) :
    x.reclaimed.Held := by
  unfold Slot.reclaimed Slot.Held
  split
  · rename_i hr
    simp [Slot.freed, hr.2.1, hr.2.2]
  · rename_i hr
    refine ⟨fun hp => ?_, h⟩
    by_contra hn
    push Not at hn
    exact hr ⟨hp, hn.1, hn.2⟩

/-- Reclaim frees no slot that carries a tag. -/
theorem Slot.reclaimed_of_carries {x : Slot} {tag : Tag} (h : x.carries tag = true) : x.reclaimed = x :=
  if_neg fun hr => TagSet.ne_empty_of_has h hr.2.1

/-! A tag added -/

@[simp] theorem Slot.withTag_carries : (x.withTag tag).carries g = if g = tag then true else x.carries g := by
  simp [Slot.carries, Slot.withTag]

@[simp] theorem Slot.withTag_phase : (x.withTag tag).phase = x.phase := rfl
@[simp] theorem Slot.withTag_origin : (x.withTag tag).origin = x.origin := rfl
@[simp] theorem Slot.withTag_focus : (x.withTag tag).focus = x.focus := rfl
@[simp] theorem Slot.withTag_image : (x.withTag tag).image = x.image := rfl
@[simp] theorem Slot.withTag_pins : (x.withTag tag).pins = x.pins := rfl

theorem Slot.withTag_keeps : x.Keeps (x.withTag tag) := ⟨rfl, .inl ⟨rfl, rfl, rfl⟩⟩

/-- A READY slot with a tag more is held. -/
theorem Slot.withTag_held {x : Slot} (h : x.phase = .ready) : (x.withTag tag).Held :=
  ⟨fun _ => .inl (TagSet.ne_empty_of_has (tag := tag) (by simp [Slot.withTag])), fun _ => h⟩

theorem Slot.withTag_guarded {tag : Tag} (h : tag ≠ .capture) : x.Guarded (x.withTag tag) :=
  ⟨by simp [h.symm], fun _ hp => ⟨hp, rfl⟩⟩

/-! A tag taken off (R4, R8) -/

@[simp] theorem Slot.withoutTag_carries :
    (x.withoutTag tag).carries g = if g = tag then false else x.carries g := by
  unfold Slot.withoutTag
  split
  · simp [Slot.carries]
  · rename_i h
    split
    · rename_i hg; rw [hg]; simpa using h
    · rfl

@[simp] theorem Slot.withoutTag_pins : (x.withoutTag tag).pins = x.pins := by
  unfold Slot.withoutTag
  split <;> simp

theorem Slot.withoutTag_keeps : x.Keeps (x.withoutTag tag) := by
  unfold Slot.withoutTag
  split
  · obtain ⟨himage, hwork⟩ := Slot.reclaimed_keeps { x with tags := x.tags.put tag false }
    exact ⟨himage, hwork⟩
  · exact Slot.Keeps.refl x

theorem Slot.withoutTag_held {x : Slot} (h : x.Held) : (x.withoutTag tag).Held := by
  unfold Slot.withoutTag
  split
  · rename_i hc
    exact Slot.reclaimed_held fun _ => h.ready hc
  · exact h

/-- A slot that loses another tag keeps CAPTURE, and with it its frame. -/
theorem Slot.withoutTag_guarded {tag : Tag} (h : tag ≠ .capture) : x.Guarded (x.withoutTag tag) := by
  refine ⟨by simp [h.symm], fun hc hp => ?_⟩
  unfold Slot.withoutTag
  split
  · rw [Slot.reclaimed_of_carries (tag := .capture) (by simpa [Slot.carries, h.symm] using hc)]
    exact ⟨hp, rfl⟩
  · exact ⟨hp, rfl⟩

/-! Every pin released (R19) -/

/-- A slot whose pins are released. -/
def Slot.released (x : Slot) : Slot := if x.pins = 0 then x else Slot.reclaimed { x with pins := 0 }

theorem Slots.get_releasePins (t : Slots) (i : Fin 12) : t.releasePins.get i = (t.get i).released :=
  Table.get_map _ _ _

@[simp] theorem Slot.released_pins : x.released.pins = 0 := by
  unfold Slot.released
  split
  · assumption
  · simp

@[simp] theorem Slot.released_carries : x.released.carries g = x.carries g := by
  unfold Slot.released
  split
  · rfl
  · simp [Slot.carries]

theorem Slot.released_keeps : x.Keeps x.released := by
  unfold Slot.released
  split
  · exact Slot.Keeps.refl x
  · obtain ⟨himage, hwork⟩ := Slot.reclaimed_keeps { x with pins := 0 }
    exact ⟨himage, hwork⟩

theorem Slot.released_held {x : Slot} (h : x.Held) : x.released.Held := by
  unfold Slot.released
  split
  · exact h
  · rename_i hp
    exact Slot.reclaimed_held fun _ => h.mpr (.inr hp)

theorem Slot.released_guarded : x.Guarded x.released := by
  refine ⟨by simp, fun hc hp => ?_⟩
  unfold Slot.released
  split
  · exact ⟨hp, rfl⟩
  · rw [Slot.reclaimed_of_carries (tag := .capture) (by exact hc)]
    exact ⟨hp, rfl⟩

end Sys2Proof.Machine
end

section
/-! SUPPORT. The slot table under the operations that move tags and pins: what they all have in common, and what each does to
the CAPTURE tags. -/

namespace Sys2Proof.Machine

/-- A tag is on at most one slot (R4). -/
def Slots.Single (t : Slots) (tag : Tag) : Prop :=
  ∀ i j : Fin 12, (t.get i).carries tag = true → (t.get j).carries tag = true → i = j

/-- From `t` to `u` nothing but what holds the slots was moved: images and work are kept, phases still agree with what
holds the slots, and no tag of R4's five is on more slots than one. -/
structure Slots.Eased (t u : Slots) : Prop where
  keeps : ∀ i, (t.get i).Keeps (u.get i)
  held : ∀ i, (t.get i).Held → (u.get i).Held
  single : ∀ tag ∈ singleTags, t.Single tag → u.Single tag

/-- The CAPTURE tags are as they were, and the slots with them keep their frames. -/
def Slots.Guarded (t u : Slots) : Prop := ∀ i, (t.get i).Guarded (u.get i)

variable {t u : Slots} {i : Fin 12} {tag : Tag}

theorem Slots.Eased.refl (t : Slots) : t.Eased t := ⟨fun _ => Slot.Keeps.refl _, fun _ h => h, fun _ _ h => h⟩

theorem Slots.Guarded.refl (t : Slots) : t.Guarded t := fun _ => Slot.Guarded.refl _

/-- The slot law says of each slot that it is held, and of each tag of R4's five that it is single. -/
theorem Slots.law_iff :
    t.Law ↔ (∀ i, (t.get i).Held) ∧ (∀ i j, (t.get i).phase = .filling → (t.get j).phase = .filling → i = j) ∧
      (∀ i j, (t.get i).phase = .loading → (t.get j).phase = .loading → i = j) ∧ ∀ g ∈ singleTags, t.Single g := Iff.rfl

/-- A slot that is kept enters no phase but FREE. -/
theorem Slot.Keeps.phase_of_ne_free {x y : Slot} (h : x.Keeps y) {p : Phase} (hp : p ≠ .free) (hy : y.phase = p) :
    x.phase = p := by
  rcases h.work with ⟨e, -, -⟩ | ⟨-, e, -, -⟩
  · rw [← e, hy]
  · exact absurd (hy.symm.trans e) hp

/-- Moving what holds the slots keeps the slot law. -/
theorem Slots.Eased.law (h : t.Eased u) (ht : t.Law) : u.Law := by
  obtain ⟨hheld, hfill, hload, hsingle⟩ := Slots.law_iff.mp ht
  refine ⟨fun i => h.held i (hheld i), fun i j hi hj => ?_, fun i j hi hj => ?_, fun g hg => h.single g hg (hsingle g hg)⟩
  · exact hfill i j ((h.keeps i).phase_of_ne_free (by decide) hi) ((h.keeps j).phase_of_ne_free (by decide) hj)
  · exact hload i j ((h.keeps i).phase_of_ne_free (by decide) hi) ((h.keeps j).phase_of_ne_free (by decide) hj)

/-- Tags that a slot had before are the only ones it has now. -/
theorem Slots.Single.mono (h : t.Single tag)
    (hc : ∀ i, (u.get i).carries tag = true → (t.get i).carries tag = true) : u.Single tag :=
  fun i j hi hj => h i j (hc i hi) (hc j hj)

/-! Moves of a tag (R4) -/

/-- The slots that carry a tag after a move: the target alone carries the moved one. -/
theorem Slots.moveTag_carries (t : Slots) (tag g : Tag) (i j : Fin 12) :
    ((t.moveTag tag i).get j).carries g = if g = tag then decide (j = i) else (t.get j).carries g := by
  rw [Slots.get_moveTag]
  by_cases hj : j = i <;> simp [hj]

/-- A moved tag is on one slot, and no other tag gains a slot. -/
theorem Slots.moveTag_single (t : Slots) (tag g : Tag) (i : Fin 12) (h : t.Single g) : (t.moveTag tag i).Single g := by
  intro j k hj hk
  rw [Slots.moveTag_carries] at hj hk
  by_cases hg : g = tag
  · simp only [hg, if_true, decide_eq_true_eq] at hj hk
    rw [hj, hk]
  · simp only [hg, if_false] at hj hk
    exact h j k hj hk

@[simp] theorem Slots.moveTag_pins (t : Slots) (tag : Tag) (i j : Fin 12) :
    ((t.moveTag tag i).get j).pins = (t.get j).pins := by
  rw [Slots.get_moveTag]
  split <;> simp

/-- A tag moved to a slot that is READY, or that carries a tag already. -/
theorem Slots.moveTag_eased (hi : (t.get i).Held → (t.get i).phase = .ready) : t.Eased (t.moveTag tag i) := by
  refine ⟨fun j => ?_, fun j hj => ?_, fun g _ => Slots.moveTag_single t tag g i⟩ <;> rw [Slots.get_moveTag]
  · split
    · exact Slot.withTag_keeps _ _
    · exact Slot.withoutTag_keeps _ _
  · split
    · rename_i e
      subst e
      exact Slot.withTag_held _ (hi hj)
    · exact Slot.withoutTag_held _ hj

theorem Slots.moveTag_guarded (h : tag ≠ .capture) : t.Guarded (t.moveTag tag i) := by
  intro j
  rw [Slots.get_moveTag]
  split
  · exact Slot.withTag_guarded _ h
  · exact Slot.withoutTag_guarded _ h

/-- What capture finds is a READY slot with the frame (R12). -/
theorem Slots.findFrame_some {frame : Word} (h : t.findFrame frame = some i) :
    (t.get i).phase = .ready ∧ (t.get i).origin = some (.sensor frame) := by
  have := Table.lowest_eq_some h
  simpa using this

/-- The watch's move of SETTLED goes to a READY slot, or nowhere (R13). -/
theorem Slots.moveSettled_cases (t : Slots) (frame : Word) :
    (∃ i, t.findFrame frame = some i ∧ (t.get i).phase = .ready ∧ t.moveSettled frame = t.moveTag .settled i) ∨
      t.findFrame frame = none ∧ t.moveSettled frame = t := by
  unfold Slots.moveSettled
  cases h : t.findFrame frame with
  | some i => exact .inl ⟨i, rfl, (Slots.findFrame_some h).1, rfl⟩
  | none => exact .inr ⟨rfl, rfl⟩

/-! Removals (R15, R21) -/

theorem Slots.dropTag_eased : t.Eased (t.dropTag tag) := by
  refine ⟨fun j => ?_, fun j hj => ?_, fun g _ h => h.mono fun j hj => ?_⟩ <;> simp only [Slots.get_dropTag] at *
  · exact Slot.withoutTag_keeps _ _
  · exact Slot.withoutTag_held _ hj
  · rw [Slot.withoutTag_carries] at hj
    split at hj
    · cases hj
    · exact hj

theorem Slots.dropTag_guarded (h : tag ≠ .capture) : t.Guarded (t.dropTag tag) := fun j => by
  rw [Slots.get_dropTag]
  exact Slot.withoutTag_guarded _ h

/-- One slot's record changed in what holds it alone. -/
theorem Slots.set_eased {y : Slot} (hk : (t.get i).Keeps y) (hh : (t.get i).Held → y.Held)
    (hc : ∀ g ∈ singleTags, y.carries g = true → (t.get i).carries g = true) : t.Eased (t.set i y) := by
  refine ⟨fun j => ?_, fun j hj => ?_, fun g hg h => h.mono fun j hj => ?_⟩ <;> rw [Table.get_set] at * <;>
    split at * <;> (try subst i)
  · exact hk
  · exact Slot.Keeps.refl _
  · exact hh hj
  · exact hj
  · exact hc g hg hj
  · exact hj

theorem Slots.set_guarded {y : Slot} (h : (t.get i).Guarded y) : t.Guarded (t.set i y) := by
  intro j
  rw [Table.get_set]
  split
  · rename_i e; subst e; exact h
  · exact Slot.Guarded.refl _

/-- CAPTURE taken off a slot (R15). -/
theorem Slots.untagCapture_eased : t.Eased (t.untagCapture i) :=
  Slots.set_eased (Slot.withoutTag_keeps _ _) (Slot.withoutTag_held _) fun g _ hc => by
    rw [Slot.withoutTag_carries] at hc
    split at hc
    · cases hc
    · exact hc

/-- CAPTURE put on a READY slot (R14). -/
theorem Slots.setCapture_eased (h : (t.get i).phase = .ready) : t.Eased (t.set i ((t.get i).withTag .capture)) :=
  Slots.set_eased (Slot.withTag_keeps _ _) (fun _ => Slot.withTag_held _ h) fun g hg hc => by
    have hne : g ≠ .capture := by rintro rfl; simp [singleTags] at hg
    simpa [hne] using hc

/-! Pins (R18, R19) -/

/-- A slot carrying the tag asked for. -/
theorem Slots.carrier_carries (h : t.carrier tag = some i) : (t.get i).carries tag = true := Table.lowest_eq_some h

/-- One pin more on a slot that carries a tag. -/
theorem Slots.pin_eased_guarded (t : Slots) (tags : List Tag) : t.Eased (t.pin tags).1 ∧ t.Guarded (t.pin tags).1 := by
  rcases t.pin_cases tags with ⟨i, -, ⟨tag, -, hc⟩, h⟩ | ⟨-, h⟩ <;> rw [h]
  · refine ⟨Slots.set_eased ⟨rfl, .inl ⟨rfl, rfl, rfl⟩⟩ (fun hh => ⟨fun _ => .inr (by simp), fun _ => ?_⟩)
      fun g _ hg => hg, Slots.set_guarded ⟨rfl, fun _ hp => ⟨hp, rfl⟩⟩⟩
    exact hh.ready (Slots.carrier_carries hc)
  · exact ⟨Slots.Eased.refl t, Slots.Guarded.refl t⟩

theorem Slots.releasePins_eased : t.Eased t.releasePins := by
  refine ⟨fun j => ?_, fun j hj => ?_, fun g _ h => h.mono fun j hj => ?_⟩ <;> simp only [Slots.get_releasePins] at *
  · exact Slot.released_keeps _
  · exact Slot.released_held hj
  · simpa using hj

theorem Slots.releasePins_guarded : t.Guarded t.releasePins := fun j => by
  rw [Slots.get_releasePins]
  exact Slot.released_guarded _

end Sys2Proof.Machine
end

section
/-! SUPPORT. The slot table under the operations that begin, end and abandon work on a slot: allocation, completion, abandon
(R6, R10, R11, R16, R17). -/

namespace Sys2Proof.Machine

variable {t u : Slots} {i : Fin 12}

/-- The slots of a phase returned to FREE (R11, R17). -/
def Slots.abandon (t : Slots) (p : Phase) : Slots := t.map fun x => if x.phase = p then x.freed else x

theorem Slots.abandonFilling_eq (t : Slots) : t.abandonFilling = t.abandon .filling := rfl

theorem Slots.get_abandon (t : Slots) (p : Phase) (i : Fin 12) :
    (t.abandon p).get i = if (t.get i).phase = p then (t.get i).freed else t.get i := Table.get_map _ _ _

@[simp] theorem Slots.abandon_tags (t : Slots) (p : Phase) (i : Fin 12) :
    ((t.abandon p).get i).tags = (t.get i).tags := by
  rw [Slots.get_abandon]
  split <;> rfl

@[simp] theorem Slots.abandon_pins (t : Slots) (p : Phase) (i : Fin 12) :
    ((t.abandon p).get i).pins = (t.get i).pins := by
  rw [Slots.get_abandon]
  split <;> rfl

/-- An abandon leaves the slots of every other phase as they are. -/
theorem Slots.abandon_other {p : Phase} (h : (t.get i).phase ≠ p) : (t.abandon p).get i = t.get i := by
  rw [Slots.get_abandon, if_neg h]

/-- After an abandon no slot is in its phase. -/
theorem Slots.abandon_phase {p : Phase} (hp : p ≠ .free) (i : Fin 12) : ((t.abandon p).get i).phase ≠ p := by
  rw [Slots.get_abandon]
  split
  · exact hp.symm
  · assumption

/-- A slot that is in a phase other than FREE after an abandon was so before it, and is untouched. -/
theorem Slots.abandon_of_ne_free {p : Phase} (h : ((t.abandon p).get i).phase ≠ .free) :
    (t.abandon p).get i = t.get i := by
  rw [Slots.get_abandon] at h ⊢
  split at h
  · exact absurd rfl h
  · rw [if_neg (by assumption)]

theorem Slots.Law.abandon (h : t.Law) {p : Phase} (hp : p ≠ .ready) : (t.abandon p).Law := by
  obtain ⟨hheld, hfill, hload, hsingle⟩ := Slots.law_iff.mp h
  refine Slots.law_iff.mpr ⟨fun i => ?_, fun i j hi hj => ?_, fun i j hi hj => ?_, fun g hg => ?_⟩
  · rw [Slots.get_abandon]
    split
    · rename_i e
      obtain ⟨htags, hpins⟩ := (hheld i).bare (by rw [e]; exact hp)
      simp [Slot.Held, Slot.freed, htags, hpins]
    · exact hheld i
  · rw [Slots.abandon_of_ne_free (by rw [hi]; decide)] at hi
    rw [Slots.abandon_of_ne_free (by rw [hj]; decide)] at hj
    exact hfill i j hi hj
  · rw [Slots.abandon_of_ne_free (by rw [hi]; decide)] at hi
    rw [Slots.abandon_of_ne_free (by rw [hj]; decide)] at hj
    exact hload i j hi hj
  · exact (hsingle g hg).mono fun j hj => by simpa [Slot.carries] using hj

theorem Slots.abandon_guarded {p : Phase} (hp : p ≠ .ready) : t.Guarded (t.abandon p) := fun j =>
  ⟨by simp [Slot.carries], fun _ hr => by
    rw [Slots.abandon_other (by rw [hr]; exact hp.symm)]
    exact ⟨hr, rfl⟩⟩

/-! Completion: a slot becomes READY and a tag moves to it (R10, R16) -/

/-- A slot after a completion of slot `i` with the record `y` and a tag. -/
theorem Slots.get_completed (t : Slots) (i j : Fin 12) (y : Slot) (tag : Tag) :
    (Slots.moveTag (t.set i y) tag i).get j = if j = i then y.withTag tag else (t.get j).withoutTag tag := by
  rw [Slots.get_moveTag]
  by_cases h : j = i
  · subst h; simp
  · simp [h, Table.get_set_other t y (Ne.symm h)]

/-- Every slot but the completed one is kept, or freed. -/
theorem Slots.completed_keeps {j : Fin 12} (h : j ≠ i) (y : Slot) (tag : Tag) :
    (t.get j).Keeps ((Slots.moveTag (t.set i y) tag i).get j) := by
  rw [Slots.get_completed, if_neg h]
  exact Slot.withoutTag_keeps _ _

/-- A slot that fills or loads after a completion is not the completed one, and did so before. -/
theorem Slots.completed_phase {y : Slot} (hy : y.phase = .ready) {tag : Tag} {j : Fin 12} {p : Phase} (hf : p ≠ .free)
    (hr : p ≠ .ready) (h : ((Slots.moveTag (t.set i y) tag i).get j).phase = p) : j ≠ i ∧ (t.get j).phase = p := by
  have e : j ≠ i := by
    rintro rfl
    rw [Slots.get_completed, if_pos rfl] at h
    exact hr (h.symm.trans hy)
  exact ⟨e, (Slots.completed_keeps e y tag).phase_of_ne_free hf h⟩

/-- A slot that fills or loads keeps its phase and origin while another is completed. -/
theorem Slots.completed_other {y : Slot} {tag : Tag} {j : Fin 12} (e : j ≠ i) (hr : (t.get j).phase ≠ .ready) :
    ((Slots.moveTag (t.set i y) tag i).get j).phase = (t.get j).phase ∧
      ((Slots.moveTag (t.set i y) tag i).get j).origin = (t.get j).origin := by
  rcases (Slots.completed_keeps e y tag).work with ⟨hp, ho, -⟩ | ⟨hp, -⟩
  · exact ⟨hp, ho⟩
  · exact absurd hp hr

theorem Slots.Law.completed (h : t.Law) {y : Slot} {tag : Tag} (hp : y.phase = .ready)
    (ht : y.tags = (t.get i).tags) : (Slots.moveTag (t.set i y) tag i).Law := by
  obtain ⟨hheld, hfill, hload, hsingle⟩ := Slots.law_iff.mp h
  refine Slots.law_iff.mpr ⟨fun j => ?_, fun j k hj hk => ?_, fun j k hj hk => ?_, fun g hg => ?_⟩
  · rw [Slots.get_completed]
    split
    · exact Slot.withTag_held _ hp
    · exact Slot.withoutTag_held _ (hheld j)
  · exact hfill j k (completed_phase hp (by decide) (by decide) hj).2 (completed_phase hp (by decide) (by decide) hk).2
  · exact hload j k (completed_phase hp (by decide) (by decide) hj).2 (completed_phase hp (by decide) (by decide) hk).2
  · refine Slots.moveTag_single _ _ _ _ ((hsingle g hg).mono fun j hj => ?_)
    rw [Table.get_set] at hj
    split at hj
    · rename_i e; subst e; simpa [Slot.carries, ht] using hj
    · exact hj

theorem Slots.completed_guarded {y : Slot} {tag : Tag} (hp : y.phase = .ready) (ht : y.tags = (t.get i).tags)
    (ho : y.origin = (t.get i).origin) (hg : tag ≠ .capture) : t.Guarded (Slots.moveTag (t.set i y) tag i) := by
  intro j
  rw [Slots.get_completed]
  split
  · rename_i e
    subst e
    exact ⟨by rw [Slot.withTag_carries, if_neg hg.symm, Slot.carries, ht, Slot.carries], fun _ _ => ⟨hp, ho⟩⟩
  · exact Slot.withoutTag_guarded _ hg

@[simp] theorem Slots.completed_pins (t : Slots) (i j : Fin 12) (y : Slot) (tag : Tag) (h : y.pins = (t.get i).pins) :
    ((Slots.moveTag (t.set i y) tag i).get j).pins = (t.get j).pins := by
  rw [Slots.get_completed]
  split
  · rename_i e; subst e; simpa using h
  · simp

/-! Allocation: a FREE slot enters FILLING or LOADING (R6) -/

theorem Slots.Law.allocated (h : t.Law) {p : Phase} (o : Origin) (hf : (t.get i).phase = .free)
    (hp : p = .filling ∨ p = .loading) (hn : ∀ j, (t.get j).phase ≠ p) :
    Slots.Law (t.set i ((t.get i).allocated p o)) := by
  obtain ⟨hheld, hfill, hload, hsingle⟩ := Slots.law_iff.mp h
  have hone : ∀ q j k, (∀ j k, (t.get j).phase = q → (t.get k).phase = q → j = k) →
      ((t.set i ((t.get i).allocated p o)).get j).phase = q →
      ((t.set i ((t.get i).allocated p o)).get k).phase = q → j = k := by
    intro q j k hq hj hk
    rw [Table.get_set] at hj hk
    split at hj <;> split at hk
    · rename_i ej ek; rw [← ej, ek]
    · exact absurd (hk.trans hj.symm) (hn k)
    · exact absurd (hj.trans hk.symm) (hn j)
    · exact hq j k hj hk
  refine Slots.law_iff.mpr ⟨fun j => ?_, fun j k => hone _ j k hfill, fun j k => hone _ j k hload, fun g hg => ?_⟩
  · rw [Table.get_set]
    split
    · obtain ⟨htags, hpins⟩ := (hheld i).bare (by rw [hf]; decide)
      rcases hp with rfl | rfl <;> simp [Slot.Held, Slot.allocated, htags, hpins]
    · exact hheld j
  · refine (hsingle g hg).mono fun j hj => ?_
    rw [Table.get_set] at hj
    split at hj
    · rename_i e; subst e; exact hj
    · exact hj

/-- A slot that was FREE holds no capture's frame. -/
theorem Slots.set_guarded_of_free {y : Slot} (hf : (t.get i).phase = .free) (ht : y.tags = (t.get i).tags) :
    t.Guarded (t.set i y) :=
  Slots.set_guarded ⟨by simp [Slot.carries, ht], fun _ hr => by rw [hf] at hr; cases hr⟩

theorem Slots.lowestFree_free (h : t.lowestFree = some i) : (t.get i).phase = .free := by
  simpa using Table.lowest_eq_some h

/-! A line written: the image alone (R9, R29) -/

theorem Slots.Law.written (h : t.Law) (img : Image) : Slots.Law (t.set i { t.get i with image := img }) := by
  obtain ⟨hheld, hfill, hload, hsingle⟩ := Slots.law_iff.mp h
  have hphase : ∀ j, ((t.set i { t.get i with image := img }).get j).phase = (t.get j).phase := fun j => by
    rw [Table.get_set]; split
    · rename_i e; subst e; rfl
    · rfl
  refine Slots.law_iff.mpr ⟨fun j => ?_, fun j k => ?_, fun j k => ?_, fun g hg => (hsingle g hg).mono fun j hj => ?_⟩
  · rw [Table.get_set]
    split
    · rename_i e; subst e; exact hheld _
    · exact hheld j
  · rw [hphase, hphase]; exact hfill j k
  · rw [hphase, hphase]; exact hload j k
  · rw [Table.get_set] at hj
    split at hj
    · rename_i e; subst e; exact hj
    · exact hj

end Sys2Proof.Machine
end

section
/-! SUPPORT. The laws of Safety.lean in the form the proofs use: one named part for each thing a law says. -/

namespace Sys2Proof.Machine

/-- The notice records are lawful (R176). -/
def Notices.Ranged (n : Notices) : Prop := ∀ k, (n.get k).Law k

/-- The range law but for the pin counts, which the pin law bounds. -/
structure State.Ranged (s : State) : Prop where
  focus : ∀ i, ((s.slots.get i).focus.all fun fm => fm ≤ 65280) = true
  queue : ∀ e ∈ s.store.queue, e.RangeLaw
  intake : s.intake.Law
  watch : s.watch.Law
  views : ∀ w ∈ s.views.toList, w.Law
  profiles : ∀ p ∈ s.pipe.profiles.toList, p.Law
  jobs : ∀ j ∈ s.pipe.jobs, j.values.Law
  output : s.output.Law
  capture : s.capture.Law
  notices : s.notices.Ranged
  errors : s.errors.Law
  link : s.link.Law

theorem State.rangeLaw_iff (s : State) : s.RangeLaw ↔ (∀ i, (s.slots.get i).pins ≤ 4) ∧ s.Ranged := by
  constructor
  · rintro ⟨hslots, hqueue, hintake, hwatch, hviews, hprofiles, hjobs, houtput, hcapture, hnotices, herrors, hlink⟩
    exact ⟨fun i => (hslots i).2, fun i => (hslots i).1, hqueue, hintake, hwatch, hviews, hprofiles, hjobs, houtput,
      hcapture, hnotices, herrors, hlink⟩
  · rintro ⟨hpins, h⟩
    exact ⟨fun i => ⟨h.focus i, hpins i⟩, h.queue, h.intake, h.watch, h.views, h.profiles, h.jobs, h.output, h.capture,
      h.notices, h.errors, h.link⟩

/-- The work law, part by part. -/
structure State.Works (s : State) : Prop where
  origin : ∀ i, (s.slots.get i).OriginLaw
  filling : s.intake.state = .filling → ∃ f i, s.intake.current = some f ∧ f.slot = some i ∧
    f.number = s.intake.counter ∧ (s.slots.get i).phase = .filling ∧ (s.slots.get i).origin = some (.sensor f.number)
  dropping : s.intake.state = .dropping → ∃ f, s.intake.current = some f ∧ f.number = s.intake.counter ∧ f.slot = none
  between : s.intake.state ≠ .filling → s.intake.state ≠ .dropping → s.intake.current = none
  fills : ∀ i, (s.slots.get i).phase = .filling → s.intake.fillingSlot = some i
  load : ∀ r, s.store.recallLoad = some r →
    (s.slots.get r.slot).phase = .loading ∧ (s.slots.get r.slot).origin = some (.store r.lesson r.ordinal)
  loads : ∀ i, (s.slots.get i).phase = .loading → s.store.recallLoad.map (·.slot) = some i
  timer : s.intake.lossTimer = .running ↔ s.intake.state = .waiting

theorem State.workLaw_iff (s : State) : s.WorkLaw ↔ s.Works := by
  constructor
  · rintro ⟨horigin, hframe, hfills, hload, hloads, htimer⟩
    refine ⟨horigin, fun hs => ?_, fun hs => ?_, fun hf hd => ?_, hfills, fun r hr => ?_, hloads, htimer⟩
    · rw [hs] at hframe
      cases hc : s.intake.current with
      | none => rw [hc] at hframe; exact hframe.elim
      | some f =>
        rw [hc] at hframe
        obtain ⟨hn, hslot⟩ := hframe
        cases hi : f.slot with
        | none => rw [hi] at hslot; exact hslot.elim
        | some i => rw [hi] at hslot; exact ⟨f, i, rfl, hi, hn, hslot.1, hslot.2⟩
    · rw [hs] at hframe
      cases hc : s.intake.current with
      | none => rw [hc] at hframe; exact hframe.elim
      | some f => rw [hc] at hframe; exact ⟨f, rfl, hframe.1, hframe.2⟩
    · cases hs : s.intake.state <;> rw [hs] at hframe hf hd <;> first | exact hframe | contradiction
    · rw [hr] at hload; exact hload
  · intro h
    refine ⟨h.origin, ?_, h.fills, ?_, h.loads, h.timer⟩
    · cases hs : s.intake.state with
      | filling =>
        obtain ⟨f, i, hc, hi, hn, hp, ho⟩ := h.filling hs
        rw [hc]
        refine ⟨hn, ?_⟩
        rw [hi]
        exact ⟨hp, ho⟩
      | dropping =>
        obtain ⟨f, hc, hn, hi⟩ := h.dropping hs
        rw [hc]
        exact ⟨hn, hi⟩
      | disabled => exact h.between (by rw [hs]; decide) (by rw [hs]; decide)
      | waiting => exact h.between (by rw [hs]; decide) (by rw [hs]; decide)
      | lost => exact h.between (by rw [hs]; decide) (by rw [hs]; decide)
    · cases hr : s.store.recallLoad with
      | none => trivial
      | some r => exact h.load r hr

/-- A frame that fills no slot leaves no slot FILLING. -/
theorem State.Works.none_filling {s : State} (h : s.Works) (hs : s.intake.state ≠ .filling) (i : Fin 12) :
    (s.slots.get i).phase ≠ .filling := by
  intro hi
  have hslot := h.fills i hi
  unfold Intake.fillingSlot at hslot
  by_cases hd : s.intake.state = .dropping
  · obtain ⟨f, hc, -, hn⟩ := h.dropping hd
    simp [hc, hn] at hslot
  · simp [h.between hs hd] at hslot

/-! The origin law of a slot -/

/-- A slot that is kept, or freed, is what its phase and origin say. -/
theorem Slot.Keeps.originLaw {x y : Slot} (h : x.Keeps y) (hx : x.OriginLaw) : y.OriginLaw := by
  rcases h.work with ⟨hp, ho, hf⟩ | ⟨-, hp, ho, hf⟩
  · unfold Slot.OriginLaw
    rw [hp, ho, hf]
    exact hx
  · unfold Slot.OriginLaw
    rw [hp]
    exact ⟨ho, hf⟩

theorem Slot.freed_originLaw (x : Slot) : x.freed.OriginLaw := ⟨rfl, rfl⟩

/-- A kept slot has a focus measure only if it had it before. -/
theorem Slot.Keeps.focus_le {x y : Slot} (h : x.Keeps y) (hx : (x.focus.all fun fm => fm ≤ 65280) = true) :
    (y.focus.all fun fm => fm ≤ 65280) = true := by
  rcases h.work with ⟨-, -, hf⟩ | ⟨-, -, -, hf⟩ <;> rw [hf]
  · exact hx
  · rfl

/-- Works depends on the phases, origins and focus measures of the slots, on intake and on the recall load: a slot table
whose slots are kept or freed serves as well. -/
theorem State.Works.of_keeps {s t : State} (h : s.Works) (hk : ∀ i, (s.slots.get i).Keeps (t.slots.get i))
    (hi : t.intake = s.intake) (hr : t.store.recallLoad = s.store.recallLoad) : t.Works := by
  have hsame : ∀ i p, p ≠ .ready → (s.slots.get i).phase = p →
      (t.slots.get i).phase = p ∧ (t.slots.get i).origin = (s.slots.get i).origin := by
    intro i p hp hs
    rcases (hk i).work with ⟨e, o, -⟩ | ⟨e, -, -, -⟩
    · exact ⟨e.trans hs, o⟩
    · exact absurd (hs.symm.trans e) hp
  refine ⟨fun i => (hk i).originLaw (h.origin i), ?_, ?_, ?_, fun i hp => ?_, fun r hl => ?_, fun i hp => ?_, ?_⟩ <;>
    simp only [hi, hr] at *
  · intro hs
    obtain ⟨f, i, hc, hslot, hn, hp, ho⟩ := h.filling hs
    obtain ⟨hp', ho'⟩ := hsame i _ (by decide) hp
    exact ⟨f, i, hc, hslot, hn, hp', ho'.trans ho⟩
  · exact h.dropping
  · exact h.between
  · exact h.fills i ((hk i).phase_of_ne_free (by decide) hp)
  · obtain ⟨hp, ho⟩ := h.load r hl
    obtain ⟨hp', ho'⟩ := hsame r.slot _ (by decide) hp
    exact ⟨hp', ho'.trans ho⟩
  · exact h.loads i ((hk i).phase_of_ne_free (by decide) hp)
  · exact h.timer

/-! The queue law -/

/-- The queue law stands while the queue does and the CAPTURE tags and their slots are guarded. -/
theorem State.QueueLaw.of_guarded {s t : State} (h : s.QueueLaw) (hg : s.slots.Guarded t.slots)
    (hq : t.store.queue = s.store.queue) : t.QueueLaw := by
  obtain ⟨hlen, hframes, hslots, hready, hcarry⟩ := h
  refine ⟨by rw [hq]; exact hlen, by rw [hq]; exact hframes, by rw [hq]; exact hslots, fun e he => ?_, fun i => ?_⟩
  · rw [hq] at he
    obtain ⟨hp, ho⟩ := hready e he
    obtain ⟨hp', ho'⟩ := (hg e.slot).ready ((hcarry _).mpr (List.mem_map_of_mem he)) hp
    exact ⟨hp', ho'.trans ho⟩
  · rw [hq, (hg i).capture]
    exact hcarry i

/-! What a step leaves of READY slots -/

/-- A READY slot keeps its image, origin and focus measure, or is FREE. -/
def Slots.ReadyKept (t u : Slots) : Prop :=
  ∀ i, (t.get i).phase = .ready → (u.get i).phase = .free ∨
    ((u.get i).phase = .ready ∧ (u.get i).image = (t.get i).image ∧ (u.get i).origin = (t.get i).origin ∧
      (u.get i).focus = (t.get i).focus)

/-- READY slots are kept or freed, and FREE slots stay FREE. -/
structure Slots.Undisturbed (t u : Slots) : Prop where
  readyKept : t.ReadyKept u
  free : ∀ i, (t.get i).phase = .free → (u.get i).phase = .free

theorem Slots.ReadyKept.trans {t u v : Slots} (h : t.ReadyKept u) (h' : u.Undisturbed v) : t.ReadyKept v := by
  intro i hr
  rcases h i hr with hf | ⟨hp, himage, horigin, hfocus⟩
  · exact .inl (h'.free i hf)
  · rcases h'.readyKept i hp with hf | ⟨hp', himage', horigin', hfocus'⟩
    · exact .inl hf
    · exact .inr ⟨hp', himage'.trans himage, horigin'.trans horigin, hfocus'.trans hfocus⟩

theorem Slots.Undisturbed.refl (t : Slots) : t.Undisturbed t := ⟨fun _ h => .inr ⟨h, rfl, rfl, rfl⟩, fun _ => id⟩

theorem Slots.Undisturbed.trans {t u v : Slots} (h : t.Undisturbed u) (h' : u.Undisturbed v) : t.Undisturbed v :=
  ⟨h.readyKept.trans h', fun i hf => h'.free i (h.free i hf)⟩

/-- Slots of other phases may change at will; the rest is kept. -/
theorem Slots.Undisturbed.of_others {t u : Slots}
    (h : ∀ i, (t.get i).phase = .ready ∨ (t.get i).phase = .free → (t.get i).Keeps (u.get i)) : t.Undisturbed u := by
  refine ⟨fun i hr => ?_, fun i hr => ?_⟩
  · obtain ⟨himage, ⟨hp, ho, hf⟩ | ⟨-, hp', -, -⟩⟩ := h i (.inl hr)
    · exact .inr ⟨hp.trans hr, himage, ho, hf⟩
    · exact .inl hp'
  · obtain ⟨-, ⟨hp, -, -⟩ | ⟨-, hp', -, -⟩⟩ := h i (.inr hr)
    · exact hp.trans hr
    · exact hp'

theorem Slots.Undisturbed.of_keeps {t u : Slots} (h : ∀ i, (t.get i).Keeps (u.get i)) : t.Undisturbed u :=
  of_others fun i _ => h i

end Sys2Proof.Machine
end

section
/-! SUPPORT. What a command does besides its effect on the blocks: it changes the link, raises notices and records errors, all
within their ranges (R161 to R170, R176 to R185). -/

namespace Sys2Proof.Machine

/-- From `s` to `t` only the link, the notice records and the error table changed, and their laws stand if they stood. -/
def State.Talks (s t : State) : Prop :=
  ∃ l n e, t = ((s.withLink l).withNotices n).withErrors e ∧ (s.link.Law → l.Law) ∧
    (s.notices.Ranged → n.Ranged) ∧ (s.errors.Law → e.Law)

namespace State

variable {s t u : State}

theorem Talks.refl (s : State) : s.Talks s := ⟨s.link, s.notices, s.errors, rfl, id, id, id⟩

theorem Talks.trans (h : s.Talks t) (h' : t.Talks u) : s.Talks u := by
  obtain ⟨l, n, e, rfl, hl, hn, he⟩ := h
  obtain ⟨l', n', e', rfl, hl', hn', he'⟩ := h'
  exact ⟨l', n', e', rfl, hl' ∘ hl, hn' ∘ hn, he' ∘ he⟩

theorem Talks.link (s : State) {l : Link} (h : s.link.Law → l.Law) : s.Talks (s.withLink l) :=
  ⟨l, s.notices, s.errors, rfl, h, id, id⟩

theorem Talks.notices (s : State) {n : Notices} (h : s.notices.Ranged → n.Ranged) : s.Talks (s.withNotices n) :=
  ⟨s.link, n, s.errors, rfl, id, h, id⟩

theorem Talks.errors (s : State) {e : ErrorTable} (h : s.errors.Law → e.Law) : s.Talks (s.withErrors e) :=
  ⟨s.link, s.notices, e, rfl, id, id, h⟩

/-- The ranges of the whole part stand. -/
theorem Talks.ranged (h : s.Talks t) (hs : s.Ranged) : t.Ranged := by
  obtain ⟨l, n, e, rfl, hl, hn, he⟩ := h
  exact { hs with link := hl hs.link, notices := hn hs.notices, errors := he hs.errors }

theorem Talks.slots (h : s.Talks t) : t.slots = s.slots := by obtain ⟨l, n, e, rfl, -⟩ := h; rfl
theorem Talks.intake (h : s.Talks t) : t.intake = s.intake := by obtain ⟨l, n, e, rfl, -⟩ := h; rfl
theorem Talks.store (h : s.Talks t) : t.store = s.store := by obtain ⟨l, n, e, rfl, -⟩ := h; rfl
theorem Talks.pipe (h : s.Talks t) : t.pipe = s.pipe := by obtain ⟨l, n, e, rfl, -⟩ := h; rfl
theorem Talks.output (h : s.Talks t) : t.output = s.output := by obtain ⟨l, n, e, rfl, -⟩ := h; rfl

end State

/-! ### Notices -/

/-- A raise leaves the record pending with a payload of its kind (R177). -/
theorem NoticeRecord.Law.raised {r : NoticeRecord} {p : NoticePayload} (h : r.Law p.kind) :
    (r.raised p).Law p.kind := by
  refine ⟨h.1, ?_, ?_, rfl⟩ <;> unfold NoticeRecord.raised <;> dsimp only <;> split <;> omega

theorem NoticeRecord.Law.begun {r : NoticeRecord} {k : Fin 14} (h : r.Law k) : r.begun.Law k := ⟨h.1, rfl⟩

theorem Notices.Ranged.set {n : Notices} (h : n.Ranged) {k : Fin 14} {r : NoticeRecord} (hr : r.Law k) :
    Notices.Ranged (n.set k r) := by
  intro j
  rw [Table.get_set]
  split
  · rename_i e; subst e; exact hr
  · exact h j

theorem Notices.Ranged.raise {n : Notices} (h : n.Ranged) (p : NoticePayload) : (n.raise p).Ranged :=
  h.set (h p.kind).raised

theorem State.Talks.raise (s : State) (p : NoticePayload) : s.Talks (s.raise p) :=
  State.Talks.notices s fun h => h.raise p

/-! ### Errors -/

/-- The records of an error table with one of their kind counted again (R185). -/
theorem ErrorTable.Law.repeated {x : ErrorTable} (h : x.Law) (src : ErrorSource) (k : ErrorKind) :
    ErrorTable.Law { x with records := x.records.map fun e => if e.matches src k then e.repeated else e } := by
  obtain ⟨hlen, hkeys, hcounts⟩ := h
  refine ⟨by simpa using hlen, ?_, fun e he => ?_⟩
  · have : (x.records.map fun e => if e.matches src k then e.repeated else e).map (fun e => (e.source, e.kind)) =
        x.records.map fun e => (e.source, e.kind) := by
      rw [List.map_map]
      refine List.map_congr_left fun e _ => ?_
      simp only [Function.comp_apply]
      split <;> rfl
    show (List.map _ (List.map _ _)).Nodup
    rw [this]
    exact hkeys
  · obtain ⟨d, hd, rfl⟩ := List.mem_map.mp he
    have hc := hcounts d hd
    split
    · simp only [ErrorRecord.repeated]
      omega
    · exact hc

/-- A record of a source and kind not yet in the table joins it (R185). -/
theorem ErrorTable.Law.appended {x : ErrorTable} (h : x.Law) {r : ErrorRecord} (hc : r.count = 1)
    (hl : x.records.length < Config.errorCapacity) (hn : (x.records.any fun e => e.matches r.source r.kind) = false) :
    ErrorTable.Law { x with records := x.records ++ [r] } := by
  obtain ⟨-, hkeys, hcounts⟩ := h
  refine ⟨by simpa using hl, ?_, fun e he => ?_⟩
  · show (List.map _ (x.records ++ [r])).Nodup
    rw [List.map_append, List.nodup_append]
    refine ⟨hkeys, by simp, fun a ha b hb hab => ?_⟩
    obtain ⟨e, he, rfl⟩ := List.mem_map.mp ha
    have hb' : b = (r.source, r.kind) := by simpa using hb
    have := List.any_eq_false.mp hn e he
    obtain ⟨h1, h2⟩ := Prod.mk.inj (hab.trans hb')
    simp [ErrorRecord.matches, h1, h2] at this
  · rcases List.mem_append.mp he with he | he
    · exact hcounts e he
    · have : e = r := by simpa using he
      subst this
      omega

theorem State.Talks.recordError (s : State) (src : ErrorSource) (k : ErrorKind) (d : Nat) :
    s.Talks (s.recordError src k d) := by
  unfold State.recordError
  dsimp only
  split
  · exact Talks.errors s fun h => h.repeated src k
  · rename_i hnew
    have hnew : (s.errors.records.any fun e => e.matches src k) = false := by simpa using hnew
    split
    · rename_i hlen
      have happend := Talks.errors s
        (e := { s.errors with records := s.errors.records ++ [⟨src, k, d, 1, s.intake.counter⟩] })
        fun h => h.appended rfl hlen hnew
      split
      · exact happend.trans (Talks.raise _ _)
      · exact happend
    · split
      · exact Talks.refl s
      · exact (Talks.errors s fun h => ⟨h.1, h.2.1, h.2.2⟩).trans (Talks.raise _ _)

/-! ### The link -/

/-- What the receiver law speaks of is in the receiver, the hand and the waiting place alone. -/
theorem Link.Law.congr {l m : Link} (h : l.Law) (hr : m.receiver = l.receiver) (hp : m.partialFrame = l.partialFrame)
    (ht : m.interByteTimer = l.interByteTimer) (hw : m.waitingPlace ≠ none → m.hand ≠ none) : m.Law := by
  refine ⟨?_, hw⟩
  rw [hr, hp, ht]
  exact h.1

theorem State.Talks.transmit (s : State) : s.Talks s.transmit := by
  have hlink : ∀ x y, s.Talks (s.withLink { s.link with transmitter := x, waitingReply := y }) := fun x y =>
    Talks.link s fun h => h.congr rfl rfl rfl h.2
  unfold State.transmit
  split
  · split
    · exact hlink _ _
    · split
      · unfold State.beginNotice
        dsimp only
        split
        · exact (hlink _ s.link.waitingReply).trans (Talks.notices _ fun h => h.set (h _).begun)
        · exact Talks.refl s
      · exact Talks.refl s
  · exact Talks.refl s

theorem State.Talks.formReply (s : State) (code tag : Byte) (a : Answer) : s.Talks (s.formReply code tag a) :=
  Talks.link s fun h => h.congr rfl rfl rfl h.2

theorem State.Talks.takeInHand (s : State) (r : Request) : s.Talks (s.takeInHand r) :=
  Talks.link s fun h => h.congr rfl rfl rfl fun _ => by simp

theorem State.Talks.keepWaiting {s : State} {q : Request} (h : s.link.hand = some q) (r : Request) :
    s.Talks (s.keepWaiting r) := by
  unfold State.keepWaiting
  split
  · exact Talks.link s fun hl => hl.congr rfl rfl rfl fun _ => by simp [h]
  · exact Talks.recordError _ _ _ _

/-- The receiver hunting has no partial frame, and its timer is stopped (R162). -/
theorem Link.Law.hunting {l : Link} (h : l.Law) : l.hunting.Law := ⟨rfl, h.2⟩

theorem State.Talks.hunting (s : State) : s.Talks (s.withLink s.link.hunting) := Talks.link s fun h => h.hunting

theorem State.Talks.discardPartial (s : State) (n : Nat) : s.Talks (s.discardPartial n) :=
  (Talks.hunting s).trans (Talks.recordError _ _ _ _)

theorem State.Talks.switchRate (s : State) (index : Fin 4) : s.Talks (s.switchRate index) := by
  have hlink : s.Talks (s.withLink { s.link with rateIndex := index }) :=
    Talks.link s fun h => h.congr rfl rfl rfl h.2
  unfold State.switchRate
  split
  · exact Talks.refl s
  · dsimp only
    split
    · exact hlink.trans (Talks.discardPartial _ _)
    · exact hlink

/-! The receiver (R162, R163) -/

/-- What the receiver law says of a partial frame in a receiver state. -/
def Link.FrameLaw (r : Receiver) (p : List Byte) : Prop :=
  p.head? = some Config.startByte ∧
    match r with
    | .head => p.length < 6
    | .body => 6 ≤ p.length ∧ p.length < 6 + announced p ∧ announced p ≤ Config.maxPayload
    | .check => 6 + announced p ≤ p.length ∧ p.length < 8 + announced p ∧ announced p ≤ Config.maxPayload
    | .hunt => False

theorem State.Talks.receiving {s : State} {r : Receiver} {frame : List Byte}
    (h : s.link.Law → Link.FrameLaw r frame) : s.Talks (s.receiving r frame) := by
  refine Talks.link s fun hl => ⟨?_, hl.2⟩
  obtain ⟨hhead, hr⟩ := h hl
  cases r with
  | hunt => exact hr.elim
  | head => exact ⟨rfl, hhead, hr⟩
  | body => exact ⟨rfl, hhead, hr⟩
  | check => exact ⟨rfl, hhead, hr⟩

/-- Outside HUNT the bytes received are the partial frame, lawful for the receiver's state. -/
theorem Link.Law.received {l : Link} (h : l.Law) (hr : l.receiver ≠ .hunt) : Link.FrameLaw l.receiver l.received := by
  obtain ⟨hframe, -⟩ := h
  unfold Link.received
  cases hp : l.partialFrame with
  | none => cases e : l.receiver <;> rw [e, hp] at hframe <;> first | exact absurd e hr | exact hframe.elim
  | some p =>
    cases e : l.receiver <;> rw [e, hp] at hframe
    · exact absurd e hr
    · exact hframe.2
    · exact hframe.2
    · exact hframe.2

/-- The length announced stands in a frame's first six bytes. -/
theorem announced_append {p : List Byte} (h : 6 ≤ p.length) (b : Byte) : announced (p ++ [b]) = announced p := by
  have h4 : 4 < p.length := by omega
  have h5 : 5 < p.length := by omega
  simp [announced, List.getElem?_append_left, h4, h5]

theorem head_append {p : List Byte} {a : Byte} (h : p.head? = some a) (b : Byte) : (p ++ [b]).head? = some a := by
  cases p with
  | nil => cases h
  | cons _ _ => exact h

theorem State.Talks.checkLength {s : State} {frame : List Byte}
    (h : s.link.Law → frame.head? = some Config.startByte ∧ frame.length = 6) : s.Talks (s.checkLength frame) := by
  unfold State.checkLength
  dsimp only
  split
  · exact Talks.discardPartial _ _
  · rename_i hmax
    split
    · exact Talks.receiving fun hl => ⟨(h hl).1, by have := (h hl).2; dsimp only; omega⟩
    · exact Talks.receiving fun hl => ⟨(h hl).1, by have := (h hl).2; dsimp only; omega⟩

end Sys2Proof.Machine
end

section
/-! SUPPORT. The moves a command is made of, and the laws each move keeps. A command is a chain of moves (`State.Run`, below), so
a law that every move keeps is kept by every step. -/

namespace Sys2Proof.Machine

/-- A move of a command that leaves pins, pane jobs and the frame latch alone, and puts no FREE slot to work. Each
constructor says which block changes and what stays lawful there; `G` is what the whole command may rely on, the ranges at
its start. -/
inductive Calm (G : Prop) : State → State → Prop
  | talks {s t : State} (h : s.Talks t) : Calm G s t
  | capture {s : State} (c : Capture) (h : s.capture.Law → c.Law) : Calm G s (s.withCapture c)
  | watch {s : State} (w : Watch) (h : G → s.watch.Law → w.Law) : Calm G s (s.withWatch w)
  | views {s : State} (v : Table Window 4) (h : (∀ w ∈ s.views.toList, w.Law) → ∀ w ∈ v.toList, w.Law) :
      Calm G s (s.withViews v)
  | profiles {s : State} (p : Table Profile 4)
      (h : (∀ x ∈ s.pipe.profiles.toList, x.Law) → ∀ x ∈ p.toList, x.Law) :
      Calm G s (s.withPipe { s.pipe with profiles := p })
  | output {s : State} (o : Output) (hl : o.latch = s.output.latch) (hs : o.state = s.output.state)
      (h : s.output.Law → o.Law) : Calm G s (s.withOutput o)
  | schedule {s : State} (x : Schedule) : Calm G s (s.withSchedule x)
  | openChoice {s : State} (n : Nat) : Calm G s (s.withOpenChoice n)
  | store {s : State} (x : Store) (hq : x.queue = s.store.queue) (hr : x.recallLoad = s.store.recallLoad) :
      Calm G s (s.withStore x)
  | hold {s : State} (x : Slots) (he : s.slots.Eased x) (hg : s.slots.Guarded x)
      (hp : ∀ i, (x.get i).pins = (s.slots.get i).pins) : Calm G s (s.withSlots x)
  /-- Intake's area and statistics. -/
  | settings {s : State} (i : Intake) (hs : i.state = s.intake.state) (hn : i.counter = s.intake.counter)
      (hc : i.current = s.intake.current) (ht : i.lossTimer = s.intake.lossTimer) (h : G → s.intake.Law → i.Law) :
      Calm G s (s.withIntake i)
  /-- Intake between frames takes another state. -/
  | turn {s : State} (st : IntakeState) (tm : Timer) (hf : s.intake.state ≠ .filling) (hd : s.intake.state ≠ .dropping)
      (hf' : st ≠ .filling) (hd' : st ≠ .dropping) (ht : tm = .running ↔ st = .waiting) :
      Calm G s (s.withIntake { s.intake with state := st, lossTimer := tm })
  /-- The frame arriving ends or is given up; a slot it fills is abandoned. -/
  | rest {s : State} (x : Slots) (st : IntakeState) (tm : Timer)
      (hx : x = s.slots.abandonFilling ∨ x = s.slots ∧ (s.intake.state = .filling → s.intake.fillingSlot = none))
      (hf' : st ≠ .filling) (hd' : st ≠ .dropping) (ht : tm = .running ↔ st = .waiting) :
      Calm G s ((s.withSlots x).withIntake { s.intake with state := st, current := none, lossTimer := tm })
  /-- A line of the frame arriving is counted, and may be written into its slot. -/
  | line {s : State} (f g : CurrentFrame) (x : Slots) (hs : s.intake.state = .filling) (hc : s.intake.current = some f)
      (hn : g.number = f.number) (hg : g.slot = f.slot)
      (hl : f.area.AreaLaw ∧ f.SumLaw → g.area.AreaLaw ∧ g.SumLaw)
      (hx : x = s.slots ∨ ∃ i img, f.slot = some i ∧ x = s.slots.set i { s.slots.get i with image := img }) :
      Calm G s ((s.withSlots x).withIntake { s.intake with current := some g })
  /-- A good frame is completed. -/
  | complete {s : State} (f : CurrentFrame) (i : Fin 12) (hf : s.intake.endingGood = some f) (hi : f.slot = some i) :
      Calm G s ((s.withSlots (s.slots.completeFilling i (f.sums.focusMeasure f.area))).withIntake
        s.intake.betweenFrames)
  /-- A recall load is completed. -/
  | recalled {s : State} (r : RecallLoad) (img : Image) (x : Store) (hr : s.store.recallLoad = some r)
      (hq : x.queue = s.store.queue) (hn : x.recallLoad = none) :
      Calm G s ((s.withSlots (s.slots.completeLoading r.slot img)).withStore x)
  /-- A recall load is abandoned. -/
  | unrecalled {s : State} (x : Store) (hq : x.queue = s.store.queue) (hn : x.recallLoad = none) :
      Calm G s ((s.withSlots s.slots.abandonLoading).withStore x)
  /-- The head entry leaves the save queue. -/
  | leave {s : State} (e : SaveEntry) (rest : List SaveEntry) (x : Store) (he : s.store.queue = e :: rest)
      (hq : x.queue = rest) (hr : x.recallLoad = s.store.recallLoad) :
      Calm G s ((s.withSlots (s.slots.untagCapture e.slot)).withStore x)
  /-- An entry joins the save queue, for a frame that is on a slot and has no entry yet. -/
  | append {s : State} (e : SaveEntry) (x : Store) (hf : s.slots.findFrame e.frame = some e.slot)
      (hnew : ∀ d ∈ s.store.queue, d.frame ≠ e.frame) (hlen : s.store.queue.length < Config.queueCapacity)
      (hq : x.queue = s.store.queue ++ [e]) (hr : x.recallLoad = s.store.recallLoad) (he : G → e.RangeLaw) :
      Calm G s ((s.withSlots (s.slots.set e.slot ((s.slots.get e.slot).withTag .capture))).withStore x)

variable {G : Prop} {s t u : State}

/-- The frame that ends good is the one intake holds in FILLING (R30). -/
theorem Intake.endingGood_some {i : Intake} {f : CurrentFrame} (h : i.endingGood = some f) :
    i.state = .filling ∧ i.current = some f ∧ f.damaged = false ∧ f.lines = Config.frameHeight := by
  unfold Intake.endingGood at h
  split at h
  · rename_i g hs hc
    split at h
    · rename_i hg
      cases h
      exact ⟨hs, hc, hg.1, hg.2⟩
    · cases h
  · cases h

/-! ### The slot law -/

/-- An entry's slot is READY with its frame where capture finds it. -/
theorem Calm.slotLaw (h : Calm G s t) (hs : s.slots.Law) : t.slots.Law := by
  cases h with
  | talks h => rw [h.slots]; exact hs
  | hold x he => exact he.law hs
  | rest x st tm hx =>
    rcases hx with rfl | ⟨rfl, -⟩
    · exact hs.abandon (by decide)
    · exact hs
  | line f g x _ _ _ _ _ hx =>
    rcases hx with rfl | ⟨i, img, -, rfl⟩
    · exact hs
    · exact hs.written img
  | complete f i => exact hs.completed rfl rfl
  | recalled r img => exact hs.completed rfl rfl
  | unrecalled => exact hs.abandon (by decide)
  | leave e => exact Slots.untagCapture_eased.law hs
  | append e x hf => exact (Slots.setCapture_eased (Slots.findFrame_some hf).1).law hs
  | _ => exact hs

/-! ### The queue law -/

/-- The head entry's slot loses CAPTURE, and no other entry has it (R15, R147). -/
theorem State.QueueLaw.leave (h : s.QueueLaw) {e : SaveEntry} {rest : List SaveEntry} (he : s.store.queue = e :: rest)
    {x : Store} (hq : x.queue = rest) :
    State.QueueLaw ((s.withSlots (s.slots.untagCapture e.slot)).withStore x) := by
  obtain ⟨hlen, hframes, hslots, hready, hcarry⟩ := h
  rw [he] at hlen hframes hslots hready hcarry
  rw [List.map_cons, List.nodup_cons] at hframes hslots
  have hother : ∀ j, j ≠ e.slot → (s.slots.untagCapture e.slot).get j = s.slots.get j := fun j hj =>
    Table.get_set_other _ _ (Ne.symm hj)
  refine ⟨?_, ?_, ?_, fun d hd => ?_, fun j => ?_⟩ <;> simp only [State.withStore_store, State.withStore_slots,
    State.withSlots_slots, hq] at *
  · exact Nat.le_of_succ_le hlen
  · exact hframes.2
  · exact hslots.2
  · rw [hother d.slot fun e' => hslots.1 (e' ▸ List.mem_map_of_mem hd)]
    exact hready d (List.mem_cons_of_mem _ hd)
  · by_cases hj : j = e.slot
    · subst hj
      have : ((s.slots.untagCapture e.slot).get e.slot).carries .capture = false := by
        simp [Slots.untagCapture]
      simpa [this] using hslots.1
    · rw [hother j hj, hcarry j]
      simp [hj]

/-- A frame that has no entry yet is on a slot without CAPTURE, which gets it (R14, R124). -/
theorem State.QueueLaw.append (h : s.QueueLaw) {e : SaveEntry} (hf : s.slots.findFrame e.frame = some e.slot)
    (hnew : ∀ d ∈ s.store.queue, d.frame ≠ e.frame) (hcap : s.store.queue.length < Config.queueCapacity)
    {x : Store} (hq : x.queue = s.store.queue ++ [e]) :
    State.QueueLaw ((s.withSlots (s.slots.set e.slot ((s.slots.get e.slot).withTag .capture))).withStore x) := by
  obtain ⟨hlen, hframes, hslots, hready, hcarry⟩ := h
  obtain ⟨hphase, horigin⟩ := Slots.findFrame_some hf
  have hfresh : e.slot ∉ s.store.queue.map (·.slot) := by
    intro hm
    obtain ⟨d, hd, hslot⟩ := List.mem_map.mp hm
    have := (hready d hd).2
    rw [hslot, horigin] at this
    exact hnew d hd (by simpa using this.symm)
  have hget : ∀ j, ((s.slots.set e.slot ((s.slots.get e.slot).withTag .capture)).get j).phase = (s.slots.get j).phase ∧
      ((s.slots.set e.slot ((s.slots.get e.slot).withTag .capture)).get j).origin = (s.slots.get j).origin := by
    intro j
    rw [Table.get_set]
    split
    · rename_i ej; subst ej; exact ⟨rfl, rfl⟩
    · exact ⟨rfl, rfl⟩
  refine ⟨?_, ?_, ?_, fun d hd => ?_, fun j => ?_⟩ <;> simp only [State.withStore_store, State.withStore_slots,
    State.withSlots_slots, hq, List.map_append, List.map_cons, List.map_nil, List.nodup_append, List.mem_append] at *
  · simpa using hcap
  · refine ⟨hframes, by simp, fun a ha b hb => ?_⟩
    obtain ⟨d, hd, rfl⟩ := List.mem_map.mp ha
    simp only [List.mem_singleton] at hb
    rw [hb]
    exact hnew d hd
  · refine ⟨hslots, by simp, fun a ha b hb => ?_⟩
    simp only [List.mem_singleton] at hb
    rw [hb]
    rintro rfl
    exact hfresh ha
  · rw [(hget d.slot).1, (hget d.slot).2]
    rcases hd with hd | hd
    · exact hready d hd
    · rw [List.mem_singleton.mp hd]
      exact ⟨hphase, horigin⟩
  · rw [Table.get_set]
    split
    · rename_i ej; subst ej; simp
    · rename_i ej
      rw [hcarry j]
      simp [Ne.symm ej]

theorem Calm.queueLaw (h : Calm G s t) (hs : s.QueueLaw) : t.QueueLaw := by
  cases h with
  | talks h => exact hs.of_guarded (by rw [h.slots]; exact Slots.Guarded.refl _) (by rw [h.store])
  | store x hq => exact hs.of_guarded (Slots.Guarded.refl _) hq
  | hold x _ hg => exact hs.of_guarded hg rfl
  | rest x st tm hx =>
    refine hs.of_guarded ?_ rfl
    rcases hx with rfl | ⟨rfl, -⟩
    · exact Slots.abandon_guarded (by decide)
    · exact Slots.Guarded.refl _
  | line f g x _ _ _ _ _ hx =>
    refine hs.of_guarded ?_ rfl
    rcases hx with rfl | ⟨i, img, -, rfl⟩
    · exact Slots.Guarded.refl _
    · exact Slots.set_guarded ⟨rfl, fun _ hp => ⟨hp, rfl⟩⟩
  | complete f i => exact hs.of_guarded (Slots.completed_guarded rfl rfl rfl (by decide)) rfl
  | recalled r img x _ hq => exact hs.of_guarded (Slots.completed_guarded rfl rfl rfl (by decide)) hq
  | unrecalled x hq => exact hs.of_guarded (Slots.abandon_guarded (by decide)) hq
  | leave e rest x he hq => exact hs.leave he hq
  | append e x hf hnew hlen hq => exact hs.append hf hnew hlen hq
  | _ => exact hs

end Sys2Proof.Machine
end

section
/-! SUPPORT. The work law under the moves of a command: intake's frame, the recall load and the slots they use stay in step
(R3, R25, R133). -/

namespace Sys2Proof.Machine

variable {G : Prop} {s t u : State}

/-- A slot of a phase other than FILLING and LOADING, or FREE, after an abandon. -/
theorem Slots.abandon_originLaw {t : Slots} (h : ∀ i, (t.get i).OriginLaw) (p : Phase) (i : Fin 12) :
    ((t.abandon p).get i).OriginLaw := by
  rw [Slots.get_abandon]
  split
  · exact Slot.freed_originLaw _
  · exact h i

/-- Intake between frames, with no slot FILLING. -/
theorem State.Works.rest (h : s.Works) {x : Slots} {st : IntakeState} {tm : Timer}
    (hx : x = s.slots.abandonFilling ∨ x = s.slots ∧ (s.intake.state = .filling → s.intake.fillingSlot = none))
    (hf' : st ≠ .filling) (hd' : st ≠ .dropping) (ht : tm = .running ↔ st = .waiting) :
    State.Works ((s.withSlots x).withIntake { s.intake with state := st, current := none, lossTimer := tm }) := by
  have hnone : ∀ i, (x.get i).phase ≠ .filling := by
    intro i
    rcases hx with rfl | ⟨rfl, hn⟩
    · exact Slots.abandon_phase (by decide) i
    · by_cases hs : s.intake.state = .filling
      · obtain ⟨f, j, hc, hj, -⟩ := h.filling hs
        have := hn hs
        simp [Intake.fillingSlot, hc, hj] at this
      · exact h.none_filling hs i
  have hloading : ∀ i, (s.slots.get i).phase = .loading → x.get i = s.slots.get i := by
    intro i hi
    rcases hx with rfl | ⟨rfl, -⟩
    · exact Slots.abandon_other (by rw [hi]; decide)
    · rfl
  have hback : ∀ i, (x.get i).phase = .loading → (s.slots.get i).phase = .loading := by
    intro i hi
    rcases hx with rfl | ⟨rfl, -⟩
    · rw [Slots.abandonFilling_eq] at hi
      rw [← hi, Slots.abandon_of_ne_free (by rw [hi]; decide)]
    · exact hi
  refine ⟨fun i => ?_, fun e => absurd e hf', fun e => absurd e hd', fun _ _ => rfl, fun i hi => absurd hi (hnone i),
    fun r hr => ?_, fun i hi => h.loads i (hback i hi), ht⟩
  · rcases hx with rfl | ⟨rfl, -⟩
    · exact Slots.abandon_originLaw h.origin _ i
    · exact h.origin i
  · have hl := h.load r hr
    show (x.get r.slot).phase = _ ∧ (x.get r.slot).origin = _
    rw [hloading _ hl.1]
    exact hl

/-- Intake between frames takes another state. -/
theorem State.Works.turn (h : s.Works) {st : IntakeState} {tm : Timer} (hf : s.intake.state ≠ .filling)
    (hd : s.intake.state ≠ .dropping) (hf' : st ≠ .filling) (hd' : st ≠ .dropping) (ht : tm = .running ↔ st = .waiting) :
    State.Works (s.withIntake { s.intake with state := st, lossTimer := tm }) :=
  ⟨h.origin, fun e => absurd e hf', fun e => absurd e hd', fun _ _ => h.between hf hd, h.fills, h.load, h.loads, ht⟩

/-- A line changes its frame's count and sums, and its slot's image. -/
theorem State.Works.line (h : s.Works) {f g : CurrentFrame} {x : Slots} (hs : s.intake.state = .filling)
    (hc : s.intake.current = some f) (hn : g.number = f.number) (hg : g.slot = f.slot)
    (hx : x = s.slots ∨ ∃ i img, f.slot = some i ∧ x = s.slots.set i { s.slots.get i with image := img }) :
    State.Works ((s.withSlots x).withIntake { s.intake with current := some g }) := by
  have hget : ∀ i, (x.get i).phase = (s.slots.get i).phase ∧ (x.get i).origin = (s.slots.get i).origin ∧
      (x.get i).focus = (s.slots.get i).focus := by
    intro i
    rcases hx with rfl | ⟨j, img, -, rfl⟩
    · exact ⟨rfl, rfl, rfl⟩
    · rw [Table.get_set]
      split
      · rename_i e; subst e; exact ⟨rfl, rfl, rfl⟩
      · exact ⟨rfl, rfl, rfl⟩
  refine ⟨fun i => ?_, fun _ => ?_, fun e => ?_, fun e => absurd hs e, fun i hi => ?_, fun r hr => ?_, fun i hi => ?_,
    h.timer⟩
  · obtain ⟨hp, ho, hfc⟩ := hget i
    have := h.origin i
    unfold Slot.OriginLaw at this ⊢
    simp only [State.withIntake_slots, State.withSlots_slots, hp, ho, hfc]
    exact this
  · obtain ⟨f', i, hc', hi, hnum, hp, ho⟩ := h.filling hs
    rw [hc] at hc'
    cases hc'
    exact ⟨g, i, rfl, hg.trans hi, hn.trans hnum, (hget i).1.trans hp, by
      rw [hn]; exact (hget i).2.1.trans ho⟩
  · exact absurd (hs.symm.trans e) (by decide)
  · have := h.fills i ((hget i).1.symm.trans hi)
    simp only [Intake.fillingSlot, hc, Option.bind_some] at this
    simp [Intake.fillingSlot, hg, this]
  · exact ⟨(hget _).1.trans (h.load r hr).1, (hget _).2.1.trans (h.load r hr).2⟩
  · exact h.loads i ((hget i).1.symm.trans hi)

/-- A good frame's slot is READY with its focus measure, and no slot fills (R10, R30). -/
theorem State.Works.complete (h : s.Works) {f : CurrentFrame} {i : Fin 12} (hf : s.intake.endingGood = some f)
    (hi : f.slot = some i) (fm : Nat) :
    State.Works ((s.withSlots (s.slots.completeFilling i fm)).withIntake s.intake.betweenFrames) := by
  obtain ⟨hs, hc, -, -⟩ := Intake.endingGood_some hf
  have hfills : s.intake.fillingSlot = some i := by simp [Intake.fillingSlot, hc, hi]
  obtain ⟨f', i', hc', hi', hnum, hphase, horigin⟩ := h.filling hs
  rw [hc] at hc'
  cases hc'
  rw [hi] at hi'
  cases hi'
  refine ⟨fun j => ?_, nofun, nofun, fun _ _ => rfl, fun j hj => ?_, fun r hr => ?_, fun j hj => ?_,
    by simp [Intake.betweenFrames]⟩
  · by_cases e : j = i
    · subst e
      show Slot.OriginLaw ((s.slots.completeFilling j fm).get j)
      rw [Slots.completeFilling, Slots.get_completed, if_pos rfl]
      simp only [Slot.OriginLaw, Slot.withTag_phase, Slot.withTag_origin, Slot.withTag_focus, horigin]
      exact Option.some_ne_none fm
    · exact (Slots.completed_keeps e _ _).originLaw (h.origin j)
  · obtain ⟨e, hp⟩ := Slots.completed_phase rfl (by decide) (by decide) hj
    have := h.fills j hp
    rw [hfills] at this
    exact absurd (Option.some.inj this).symm e
  · obtain ⟨hp, ho⟩ := h.load r hr
    have e : r.slot ≠ i := fun e => by rw [e, hphase] at hp; cases hp
    obtain ⟨hp', ho'⟩ := Slots.completed_other (tag := .live)
      (y := { s.slots.get i with phase := .ready, focus := some fm }) e (by rw [hp]; decide)
    exact ⟨hp'.trans hp, ho'.trans ho⟩
  · exact h.loads j (Slots.completed_phase rfl (by decide) (by decide) hj).2

/-- A recalled page's slot is READY, and no slot loads (R16, R158). -/
theorem State.Works.recalled (h : s.Works) {r : RecallLoad} (hr : s.store.recallLoad = some r) (img : Image) {x : Store}
    (hn : x.recallLoad = none) :
    State.Works ((s.withSlots (s.slots.completeLoading r.slot img)).withStore x) := by
  obtain ⟨hphase, horigin⟩ := h.load r hr
  refine ⟨fun j => ?_, fun hs => ?_, h.dropping, h.between, fun j hj => ?_, fun r' hr' => ?_, fun j hj => ?_, h.timer⟩
  · by_cases e : j = r.slot
    · have hlaw := h.origin r.slot
      simp only [Slot.OriginLaw, hphase, horigin] at hlaw
      subst e
      show Slot.OriginLaw ((s.slots.completeLoading r.slot img).get r.slot)
      rw [Slots.completeLoading, Slots.get_completed, if_pos rfl]
      simp only [Slot.OriginLaw, Slot.withTag_phase, Slot.withTag_origin, Slot.withTag_focus, horigin]
      exact hlaw
    · exact (Slots.completed_keeps e _ _).originLaw (h.origin j)
  · obtain ⟨f, i, hc, hi, hnum, hp, ho⟩ := h.filling hs
    have e : i ≠ r.slot := fun e => by rw [e, hphase] at hp; cases hp
    obtain ⟨hp', ho'⟩ := Slots.completed_other (tag := .recalled)
      (y := { s.slots.get r.slot with phase := .ready, image := img }) e (by rw [hp]; decide)
    exact ⟨f, i, hc, hi, hnum, hp'.trans hp, ho'.trans ho⟩
  · exact h.fills j (Slots.completed_phase rfl (by decide) (by decide) hj).2
  · rw [State.withStore_store, hn] at hr'
    cases hr'
  · obtain ⟨e, hp⟩ := Slots.completed_phase rfl (by decide) (by decide) hj
    have := h.loads j hp
    rw [hr] at this
    exact absurd (Option.some.inj this).symm e

/-- A recall abandoned leaves no slot LOADING (R17, R158). -/
theorem State.Works.unrecalled (h : s.Works) {x : Store} (hn : x.recallLoad = none) :
    State.Works ((s.withSlots s.slots.abandonLoading).withStore x) := by
  refine ⟨fun i => Slots.abandon_originLaw h.origin _ i, fun hs => ?_, h.dropping, h.between, fun i hi => ?_,
    fun r hr => ?_, fun i hi => absurd hi (Slots.abandon_phase (by decide) i), h.timer⟩
  · obtain ⟨f, i, hc, hi, hnum, hp, ho⟩ := h.filling hs
    refine ⟨f, i, hc, hi, hnum, ?_⟩
    show ((s.slots.abandon .loading).get i).phase = _ ∧ ((s.slots.abandon .loading).get i).origin = _
    rw [Slots.abandon_other (by rw [hp]; decide)]
    exact ⟨hp, ho⟩
  · refine h.fills i ?_
    rw [← Slots.abandon_of_ne_free (p := .loading) (by exact hi ▸ by decide)]
    exact hi
  · rw [State.withStore_store, hn] at hr
    cases hr

theorem Calm.works (h : Calm G s t) (hs : s.Works) : t.Works := by
  cases h with
  | talks h => exact hs.of_keeps (fun i => by rw [h.slots]; exact Slot.Keeps.refl _) h.intake (by rw [h.store])
  | store x _ hr => exact hs.of_keeps (fun _ => Slot.Keeps.refl _) rfl hr
  | hold x he => exact hs.of_keeps he.keeps rfl rfl
  | settings i hst hn hc ht =>
    refine ⟨hs.origin, ?_, ?_, ?_, ?_, hs.load, hs.loads, ?_⟩ <;>
      simp only [State.withIntake_intake, State.withIntake_slots, Intake.fillingSlot, hst, hn, hc, ht]
    · exact hs.filling
    · exact hs.dropping
    · exact hs.between
    · exact hs.fills
    · exact hs.timer
  | turn st tm hf hd hf' hd' ht => exact hs.turn hf hd hf' hd' ht
  | rest x st tm hx hf' hd' ht => exact hs.rest hx hf' hd' ht
  | line f g x hst hc hn hg _ hx => exact hs.line hst hc hn hg hx
  | complete f i hf hi => exact hs.complete hf hi _
  | recalled r img x hr _ hn => exact hs.recalled hr img hn
  | unrecalled x _ hn => exact hs.unrecalled hn
  | leave e rest x _ _ hr => exact hs.of_keeps Slots.untagCapture_eased.keeps rfl hr
  | append e x hf _ _ _ hr =>
    exact hs.of_keeps (Slots.setCapture_eased (Slots.findFrame_some hf).1).keeps rfl hr
  | _ => exact ⟨hs.origin, hs.filling, hs.dropping, hs.between, hs.fills, hs.load, hs.loads, hs.timer⟩

/-! ### READY slots -/

/-- A move leaves the frames of READY slots alone: what is written, completed or abandoned fills or loads. -/
theorem Calm.undisturbed (h : Calm G s t) (hs : s.Works) : s.slots.Undisturbed t.slots := by
  have habandon : ∀ p : Phase, p ≠ .ready → p ≠ .free → s.slots.Undisturbed (s.slots.abandon p) := fun p hr hf =>
    Slots.Undisturbed.of_others fun i hi => by
      rw [Slots.abandon_other (by rcases hi with e | e <;> rw [e] <;> exact Ne.symm ‹_›)]
      exact Slot.Keeps.refl _
  have hcompleted : ∀ i y tag, (s.slots.get i).phase ≠ .ready → (s.slots.get i).phase ≠ .free →
      s.slots.Undisturbed (Slots.moveTag (s.slots.set i y) tag i) := fun i y tag hr hf =>
    Slots.Undisturbed.of_others fun j hj => by
      exact Slots.completed_keeps (by rintro rfl; exact hj.elim hr hf) y tag
  cases h with
  | talks h => rw [h.slots]; exact Slots.Undisturbed.refl _
  | hold x he => exact Slots.Undisturbed.of_keeps he.keeps
  | rest x st tm hx =>
    rcases hx with rfl | ⟨rfl, -⟩
    · exact habandon _ (by decide) (by decide)
    · exact Slots.Undisturbed.refl _
  | line f g x hst hc _ _ _ hx =>
    rcases hx with rfl | ⟨i, img, hi, rfl⟩
    · exact Slots.Undisturbed.refl _
    · obtain ⟨f', i', hc', hi', -, hp, -⟩ := hs.filling hst
      rw [hc] at hc'
      cases hc'
      rw [hi] at hi'
      cases hi'
      refine Slots.Undisturbed.of_others fun j hj => ?_
      have e : i ≠ j := by rintro rfl; simp [hp] at hj
      rw [State.withIntake_slots, State.withSlots_slots, Table.get_set_other _ _ e]
      exact Slot.Keeps.refl _
  | complete f i hf hi =>
    obtain ⟨hst, hc, -, -⟩ := Intake.endingGood_some hf
    obtain ⟨f', i', hc', hi', -, hp, -⟩ := hs.filling hst
    rw [hc] at hc'
    cases hc'
    rw [hi] at hi'
    cases hi'
    exact hcompleted _ _ _ (by rw [hp]; decide) (by rw [hp]; decide)
  | recalled r img x hr =>
    obtain ⟨hp, -⟩ := hs.load r hr
    exact hcompleted _ _ _ (by rw [hp]; decide) (by rw [hp]; decide)
  | unrecalled => exact habandon _ (by decide) (by decide)
  | leave e => exact Slots.Undisturbed.of_keeps Slots.untagCapture_eased.keeps
  | append e x hf => exact Slots.Undisturbed.of_keeps (Slots.setCapture_eased (Slots.findFrame_some hf).1).keeps
  | _ => exact Slots.Undisturbed.refl _

end Sys2Proof.Machine
end

section
/-! SUPPORT. The ranges and the pins under the moves of a command. -/

namespace Sys2Proof.Machine

variable {G : Prop} {s t u : State}

/-! ### Measurements of a good frame -/

/-- The frame arriving is lawful. -/
theorem Intake.Law.frame {i : Intake} (h : i.Law) {f : CurrentFrame} (hc : i.current = some f) :
    f.area.AreaLaw ∧ f.SumLaw := by
  obtain ⟨-, -, -, hf⟩ := h
  rw [hc] at hf
  exact hf

/-- A whole frame's focus measure is at most 65280 (R36, R37). -/
theorem CurrentFrame.focusMeasure_le {f : CurrentFrame} (ha : f.area.AreaLaw) (hs : f.SumLaw)
    (hl : f.lines = Config.frameHeight) : f.sums.focusMeasure f.area ≤ 65280 := by
  obtain ⟨-, -, -, -, hw, hh, -, hbottom⟩ := ha
  obtain ⟨-, -, hfocus⟩ := hs
  rw [if_neg (by rw [hl]; exact lt_irrefl _), min_eq_right hbottom, Nat.add_sub_cancel_left] at hfocus
  unfold Sums.focusMeasure
  rw [Nat.div_le_iff_le_mul_add_pred (Nat.mul_pos (by omega) (by omega))]
  calc f.sums.focus * 256 ≤ 255 * (f.area.w * f.area.h) * 256 := Nat.mul_le_mul_right _ hfocus
    _ = f.area.w * f.area.h * 65280 := by ring
    _ ≤ _ := Nat.le_add_right _ _

/-- A whole frame's mean luma is at most 255 (R34, R37). -/
theorem CurrentFrame.meanLuma_le {f : CurrentFrame} (hs : f.SumLaw) (hl : f.lines = Config.frameHeight) :
    f.sums.meanLuma ≤ 255 := by
  obtain ⟨hluma, -, -⟩ := hs
  rw [hl] at hluma
  simp only [Config.frameWidth, Config.frameHeight, min_self] at hluma
  unfold Sums.meanLuma Config.framePixels
  omega

/-- A whole frame's tile means are at most 255 (R35, R43). -/
theorem CurrentFrame.tileMeans_le {f : CurrentFrame} (hs : f.SumLaw) (hl : f.lines = Config.frameHeight) (k : Fin 192) :
    f.sums.tileMeans.get k ≤ 255 := by
  obtain ⟨-, htiles, -⟩ := hs
  have := htiles k
  rw [hl] at this
  simp only [tileRowsBelow, Config.frameHeight, Config.tileSide, Config.tileColumns, min_self] at this
  rw [Sums.tileMeans, Table.get_map, Config.tilePixels]
  omega

/-! ### Ranges -/

/-- Ranges speak of the slots by their focus measures alone. -/
theorem State.Ranged.withSlots (h : s.Ranged) {x : Slots}
    (hx : ∀ i, ((x.get i).focus.all fun fm => fm ≤ 65280) = true) : (s.withSlots x).Ranged := { h with focus := hx }

theorem State.Ranged.withStore (h : s.Ranged) {x : Store} (hx : ∀ e ∈ x.queue, e.RangeLaw) :
    (s.withStore x).Ranged := { h with queue := hx }

theorem State.Ranged.withIntake (h : s.Ranged) {x : Intake} (hx : x.Law) : (s.withIntake x).Ranged :=
  { h with intake := hx }

/-- Slots that are kept or freed have no other focus measures. -/
theorem State.Ranged.of_keeps (h : s.Ranged) {x : Slots} (hx : ∀ i, (s.slots.get i).Keeps (x.get i)) :
    (s.withSlots x).Ranged := h.withSlots fun i => (hx i).focus_le (h.focus i)

theorem Slots.abandon_focus {x : Slots} (h : ∀ i, ((x.get i).focus.all fun fm => fm ≤ 65280) = true) (p : Phase)
    (i : Fin 12) : (((x.abandon p).get i).focus.all fun fm => fm ≤ 65280) = true := by
  rw [Slots.get_abandon]
  split
  · rfl
  · exact h i

/-- A completed slot's focus measure is its record's. -/
theorem Slots.completed_focus {x : Slots} (h : ∀ i, ((x.get i).focus.all fun fm => fm ≤ 65280) = true) {i : Fin 12}
    {y : Slot} (hy : (y.focus.all fun fm => fm ≤ 65280) = true) (tag : Tag) (j : Fin 12) :
    (((Slots.moveTag (x.set i y) tag i).get j).focus.all fun fm => fm ≤ 65280) = true := by
  rw [Slots.get_completed]
  split
  · exact hy
  · exact (Slot.withoutTag_keeps _ _).focus_le (h j)

theorem Calm.ranged (h : Calm G s t) (hG : G) (hs : s.Ranged) : t.Ranged := by
  have hintake : ∀ st tm, Intake.Law { s.intake with state := st, current := none, lossTimer := tm } := fun _ _ =>
    ⟨hs.intake.1, hs.intake.2.1, hs.intake.2.2.1, trivial⟩
  cases h with
  | talks h => exact h.ranged hs
  | capture c h => exact { hs with capture := h hs.capture }
  | watch w h => exact { hs with watch := h hG hs.watch }
  | views v h => exact { hs with views := h hs.views }
  | profiles p h => exact { hs with profiles := h hs.profiles }
  | output o _ _ h => exact { hs with output := h hs.output }
  | schedule => exact { hs with }
  | openChoice => exact { hs with }
  | store x hq => exact hs.withStore (by rw [hq]; exact hs.queue)
  | hold x he => exact hs.of_keeps he.keeps
  | settings i _ _ _ _ h => exact hs.withIntake (h hG hs.intake)
  | turn => exact hs.withIntake ⟨hs.intake.1, hs.intake.2.1, hs.intake.2.2.1, hs.intake.2.2.2⟩
  | rest x st tm hx =>
    refine (hs.withSlots fun i => ?_).withIntake (hintake st tm)
    rcases hx with rfl | ⟨rfl, -⟩
    · exact Slots.abandon_focus hs.focus _ i
    · exact hs.focus i
  | line f g x _ hc _ _ hl hx =>
    refine (hs.withSlots fun i => ?_).withIntake
      ⟨hs.intake.1, hs.intake.2.1, hs.intake.2.2.1, hl (hs.intake.frame hc)⟩
    rcases hx with rfl | ⟨j, img, -, rfl⟩
    · exact hs.focus i
    · rw [Table.get_set]
      split
      · exact hs.focus j
      · exact hs.focus i
  | complete f i hf hi =>
    obtain ⟨-, hc, -, hlines⟩ := Intake.endingGood_some hf
    obtain ⟨harea, hsums⟩ := hs.intake.frame hc
    refine (hs.withSlots (Slots.completed_focus hs.focus ?_ .live)).withIntake (hintake _ _)
    simpa using CurrentFrame.focusMeasure_le harea hsums hlines
  | recalled r img x _ hq =>
    exact (hs.withSlots (Slots.completed_focus hs.focus
      (y := { s.slots.get r.slot with phase := .ready, image := img }) (hs.focus r.slot) .recalled)).withStore
      (by rw [hq]; exact hs.queue)
  | unrecalled x hq =>
    exact (hs.withSlots (Slots.abandon_focus hs.focus .loading)).withStore (by rw [hq]; exact hs.queue)
  | leave e rest x he hq =>
    refine (hs.of_keeps Slots.untagCapture_eased.keeps).withStore fun d hd => hs.queue d ?_
    rw [he]
    exact List.mem_cons_of_mem _ (hq ▸ hd)
  | append e x hf _ _ hq _ he =>
    refine (hs.of_keeps (Slots.setCapture_eased (Slots.findFrame_some hf).1).keeps).withStore fun d hd => ?_
    rw [hq, List.mem_append, List.mem_singleton] at hd
    rcases hd with hd | rfl
    · exact hs.queue d hd
    · exact he hG

/-! ### Pins -/

/-- Pins, pane jobs and the frame latch are as they were, and the output state too. -/
structure State.SamePins (s t : State) : Prop where
  pins : ∀ i, (t.slots.get i).pins = (s.slots.get i).pins
  jobs : t.pipe.jobs = s.pipe.jobs
  latch : t.output.latch = s.output.latch
  state : t.output.state = s.output.state

theorem State.SamePins.refl (s : State) : s.SamePins s := ⟨fun _ => rfl, rfl, rfl, rfl⟩

theorem State.SamePins.trans (h : s.SamePins t) (h' : t.SamePins u) : s.SamePins u :=
  ⟨fun i => (h'.pins i).trans (h.pins i), h'.jobs.trans h.jobs, h'.latch.trans h.latch, h'.state.trans h.state⟩

theorem State.SamePins.scannedPanes (h : s.SamePins t) : t.scannedPanes = s.scannedPanes := by
  unfold State.scannedPanes
  rw [h.latch]

theorem State.PinLaw.of_samePins (hs : s.PinLaw) (h : s.SamePins t) : t.PinLaw := by
  obtain ⟨hpins, hjobs, hrun, hoff⟩ := hs
  refine ⟨fun i => ?_, ?_, ?_, ?_⟩
  · rw [h.pins, h.scannedPanes, hpins]
  · rw [h.jobs, h.scannedPanes, hjobs]
  · rw [h.state, h.scannedPanes]; exact hrun
  · rw [h.state, h.latch]; exact hoff

theorem Calm.samePins (h : Calm G s t) : s.SamePins t := by
  cases h with
  | talks h => exact ⟨fun i => by rw [h.slots], by rw [h.pipe], by rw [h.output], by rw [h.output]⟩
  | output o hl hs => exact ⟨fun _ => rfl, rfl, hl, hs⟩
  | hold x _ _ hp => exact ⟨hp, rfl, rfl, rfl⟩
  | rest x st tm hx =>
    refine ⟨fun i => ?_, rfl, rfl, rfl⟩
    rcases hx with rfl | ⟨rfl, -⟩
    · exact Slots.abandon_pins _ _ _
    · rfl
  | line f g x _ _ _ _ _ hx =>
    refine ⟨fun i => ?_, rfl, rfl, rfl⟩
    rcases hx with rfl | ⟨j, img, -, rfl⟩
    · rfl
    · rw [State.withIntake_slots, State.withSlots_slots, Table.get_set]
      split
      · rename_i e; subst e; rfl
      · rfl
  | complete f i => exact ⟨fun j => Slots.completed_pins _ _ _ _ _ rfl, rfl, rfl, rfl⟩
  | recalled r img => exact ⟨fun j => Slots.completed_pins _ _ _ _ _ rfl, rfl, rfl, rfl⟩
  | unrecalled => exact ⟨fun i => Slots.abandon_pins _ _ _, rfl, rfl, rfl⟩
  | leave e =>
    refine ⟨fun i => ?_, rfl, rfl, rfl⟩
    rw [State.withStore_slots, State.withSlots_slots, Slots.untagCapture, Table.get_set]
    split
    · rename_i e; subst e; simp
    · rfl
  | append e x =>
    refine ⟨fun i => ?_, rfl, rfl, rfl⟩
    rw [State.withStore_slots, State.withSlots_slots, Table.get_set]
    split
    · rename_i e; subst e; rfl
    · rfl
  | _ => exact ⟨fun _ => rfl, rfl, rfl, rfl⟩

/-! ### Chains of moves -/

/-- Moves one after another. -/
abbrev Calms (G : Prop) : State → State → Prop := Relation.ReflTransGen (Calm G)

theorem Calms.slotLaw (h : Calms G s t) (hs : s.slots.Law) : t.slots.Law := by
  induction h with
  | refl => exact hs
  | tail _ h ih => exact h.slotLaw ih

theorem Calms.queueLaw (h : Calms G s t) (hs : s.QueueLaw) : t.QueueLaw := by
  induction h with
  | refl => exact hs
  | tail _ h ih => exact h.queueLaw ih

theorem Calms.works (h : Calms G s t) (hs : s.Works) : t.Works := by
  induction h with
  | refl => exact hs
  | tail _ h ih => exact h.works ih

theorem Calms.ranged (h : Calms G s t) (hG : G) (hs : s.Ranged) : t.Ranged := by
  induction h with
  | refl => exact hs
  | tail _ h ih => exact h.ranged hG ih

theorem Calms.undisturbed (h : Calms G s t) (hs : s.Works) : s.slots.Undisturbed t.slots := by
  induction h with
  | refl => exact Slots.Undisturbed.refl _
  | tail hc h ih => exact ih.trans (h.undisturbed (Calms.works hc hs))

theorem Calms.samePins (h : Calms G s t) : s.SamePins t := by
  induction h with
  | refl => exact State.SamePins.refl _
  | tail _ h ih => exact ih.trans h.samePins

/-- One move is a chain. -/
theorem Calm.one (h : Calm G s t) : Calms G s t := .single h

theorem State.Talks.calms (h : s.Talks t) : Calms G s t := .single (.talks h)

end Sys2Proof.Machine
end

section
/-! SUPPORT. The acts of a command that moves of pins, an allocation or a reset are part of, and what a whole command is made of.
-/

namespace Sys2Proof.Machine

variable {G : Prop} {s t u : State}

/-- A move of the projector output too: pins, pane jobs, frame latch and output state may change. -/
inductive Fine (G : Prop) : State → State → Prop
  | calm {s t : State} (h : Calm G s t) : Fine G s t
  | hold {s : State} (x : Slots) (he : s.slots.Eased x) (hg : s.slots.Guarded x) : Fine G s (s.withSlots x)
  | output {s : State} (o : Output) (h : s.output.Law → o.Law) : Fine G s (s.withOutput o)
  | pipe {s : State} (p : Pipe) (hp : p.profiles = s.pipe.profiles)
      (hj : (∀ x ∈ p.profiles.toList, x.Law) → ∀ j ∈ p.jobs, j.values.Law) : Fine G s (s.withPipe p)

/-- Such moves one after another. -/
abbrev Fines (G : Prop) : State → State → Prop := Relation.ReflTransGen (Fine G)

/-- What a command may do once, besides its moves: begin a sensor frame, allocate a recall's slot, reset the part, or act on the
projector output's scan. -/
inductive Act (G : Prop) : State → State → Prop
  | fill {s : State} (x : Slots) (slot : Option (Fin 12)) (drops : Nat)
      (ha : s.slots.allocateFilling (s.intake.counter + 1) = (x, slot)) (hd : s.intake.drops ≤ 65535 → drops ≤ 65535) :
      Act G s ((s.withSlots x).withIntake
        { s.intake with
          state := if slot.isSome then .filling else .dropping, counter := s.intake.counter + 1, lossTimer := .stopped
          current := some ⟨s.intake.counter + 1, slot, 0, false, s.intake.area, Sums.zero⟩, drops := drops })
  | load {s : State} (r : RecallLoad) (x : Slots) (y : Store) (hr : s.store.recallLoad = none)
      (ha : s.slots.allocateLoading r.lesson r.ordinal = (x, .slot r.slot)) (hq : y.queue = s.store.queue)
      (hl : y.recallLoad = some r) : Act G s ((s.withSlots x).withStore y)
  | reset {s : State} (rate : Fin 4) : Act G s (s.resetBlocks rate)
  | scan {s t : State} (h : Fines G s t) (hp : s.PinLaw → t.PinLaw) : Act G s t

/-- A whole command: moves alone, or messages, one act and what follows it. -/
inductive State.Run (G : Prop) : State → State → Prop
  | calm {s t : State} (h : Calms G s t) : State.Run G s t
  | acts {s a b t : State} (h : s.Talks a) (ha : Act G a b) (h' : Calms G b t) : State.Run G s t

/-! ### Moves of the output -/

theorem Fine.slotLaw (h : Fine G s t) (hs : s.slots.Law) : t.slots.Law := by
  cases h with
  | calm h => exact h.slotLaw hs
  | hold x he => exact he.law hs
  | _ => exact hs

theorem Fine.queueLaw (h : Fine G s t) (hs : s.QueueLaw) : t.QueueLaw := by
  cases h with
  | calm h => exact h.queueLaw hs
  | hold x _ hg => exact hs.of_guarded hg rfl
  | _ => exact hs

theorem Fine.works (h : Fine G s t) (hs : s.Works) : t.Works := by
  cases h with
  | calm h => exact h.works hs
  | hold x he => exact hs.of_keeps he.keeps rfl rfl
  | _ => exact hs.of_keeps (fun _ => Slot.Keeps.refl _) rfl rfl

theorem Fine.ranged (h : Fine G s t) (hG : G) (hs : s.Ranged) : t.Ranged := by
  cases h with
  | calm h => exact h.ranged hG hs
  | hold x he => exact hs.of_keeps he.keeps
  | output o h => exact { hs with output := h hs.output }
  | pipe p hp hj =>
    have hprofiles : ∀ x ∈ p.profiles.toList, x.Law := by rw [hp]; exact hs.profiles
    exact { hs with profiles := hprofiles, jobs := hj hprofiles }

theorem Fine.undisturbed (h : Fine G s t) (hs : s.Works) : s.slots.Undisturbed t.slots := by
  cases h with
  | calm h => exact h.undisturbed hs
  | hold x he => exact Slots.Undisturbed.of_keeps he.keeps
  | _ => exact Slots.Undisturbed.refl _

theorem Fines.slotLaw (h : Fines G s t) (hs : s.slots.Law) : t.slots.Law := by
  induction h with
  | refl => exact hs
  | tail _ h ih => exact h.slotLaw ih

theorem Fines.queueLaw (h : Fines G s t) (hs : s.QueueLaw) : t.QueueLaw := by
  induction h with
  | refl => exact hs
  | tail _ h ih => exact h.queueLaw ih

theorem Fines.works (h : Fines G s t) (hs : s.Works) : t.Works := by
  induction h with
  | refl => exact hs
  | tail _ h ih => exact h.works ih

theorem Fines.ranged (h : Fines G s t) (hG : G) (hs : s.Ranged) : t.Ranged := by
  induction h with
  | refl => exact hs
  | tail _ h ih => exact h.ranged hG ih

theorem Fines.undisturbed (h : Fines G s t) (hs : s.Works) : s.slots.Undisturbed t.slots := by
  induction h with
  | refl => exact Slots.Undisturbed.refl _
  | tail hc h ih => exact ih.trans (h.undisturbed (Fines.works hc hs))

theorem Calms.fines (h : Calms G s t) : Fines G s t := by
  induction h with
  | refl => exact .refl
  | tail _ h ih => exact ih.tail (.calm h)

/-! ### A frame begun (R6, R27) -/

/-- Intake's allocation leaves a lawful table. -/
theorem Slots.Law.allocateFilling {x t : Slots} {n : Word} {slot : Option (Fin 12)} (h : t.Law)
    (ha : t.allocateFilling n = (x, slot)) : x.Law := by
  have hab : t.abandonFilling.Law := h.abandon (by decide)
  rcases t.allocateFilling_cases n with ⟨i, hi, e⟩ | ⟨-, e⟩ <;> rw [e] at ha <;> cases ha
  · exact hab.allocated _ (Slots.lowestFree_free hi) (.inl rfl) (Slots.abandon_phase (by decide))
  · exact hab

theorem Slots.allocateFilling_guarded {x t : Slots} {n : Word} {slot : Option (Fin 12)}
    (ha : t.allocateFilling n = (x, slot)) : t.Guarded x := by
  have hab : t.Guarded t.abandonFilling := Slots.abandon_guarded (by decide)
  rcases t.allocateFilling_cases n with ⟨i, hi, e⟩ | ⟨-, e⟩ <;> rw [e] at ha <;> cases ha
  · intro j
    have hset := Slots.set_guarded_of_free (y := (t.abandonFilling.get i).allocated .filling (.sensor n))
      (Slots.lowestFree_free hi) rfl j
    exact ⟨hset.capture.trans (hab j).capture, fun hc hp =>
      have hr := (hab j).ready hc hp
      have hr' := hset.ready ((hab j).capture.trans hc) hr.1
      ⟨hr'.1, hr'.2.trans hr.2⟩⟩
  · exact hab

/-- A slot that is not FILLING before an allocation, and not FREE, is untouched by it. -/
theorem Slots.allocateFilling_other {x t : Slots} {n : Word} {slot : Option (Fin 12)}
    (ha : t.allocateFilling n = (x, slot)) {j : Fin 12} (hf : (t.get j).phase ≠ .filling)
    (hn : (t.get j).phase ≠ .free) : x.get j = t.get j := by
  have hab : t.abandonFilling.get j = t.get j := Slots.abandon_other hf
  rcases t.allocateFilling_cases n with ⟨i, hi, e⟩ | ⟨-, e⟩ <;> rw [e] at ha <;> cases ha
  · rw [Table.get_set_other, hab]
    rintro rfl
    exact hn (hab ▸ Slots.lowestFree_free hi)
  · exact hab

/-- The slots after an allocation: the chosen one fills with the frame's number, and no other fills (R6). -/
theorem Slots.allocateFilling_filling {x t : Slots} {n : Word} {slot : Option (Fin 12)}
    (ha : t.allocateFilling n = (x, slot)) :
    (∀ i, slot = some i → (x.get i).phase = .filling ∧ (x.get i).origin = some (.sensor n)) ∧
      ∀ j, (x.get j).phase = .filling → slot = some j := by
  have hab : ∀ j, (t.abandonFilling.get j).phase ≠ .filling := Slots.abandon_phase (by decide)
  rcases t.allocateFilling_cases n with ⟨i, -, e⟩ | ⟨-, e⟩ <;> rw [e] at ha <;> cases ha
  · refine ⟨fun j hj => ?_, fun j hj => ?_⟩
    · cases hj
      rw [Table.get_set_same]
      exact ⟨rfl, rfl⟩
    · by_cases e : i = j
      · rw [e]
      · rw [Table.get_set_other _ _ e] at hj
        exact absurd hj (hab j)
  · exact ⟨nofun, fun j hj => absurd hj (hab j)⟩

/-- Allocation leaves slots lawful one by one. -/
theorem Slots.allocateFilling_originLaw {x t : Slots} {n : Word} {slot : Option (Fin 12)}
    (ha : t.allocateFilling n = (x, slot)) (h : ∀ i, (t.get i).OriginLaw) (j : Fin 12) : (x.get j).OriginLaw := by
  have hab : ∀ j, (t.abandonFilling.get j).OriginLaw := Slots.abandon_originLaw h .filling
  rcases t.allocateFilling_cases n with ⟨i, -, e⟩ | ⟨-, e⟩ <;> rw [e] at ha <;> cases ha
  · rw [Table.get_set]
    split
    · exact rfl
    · exact hab j
  · exact hab j

theorem Slots.allocateFilling_focus {x t : Slots} {n : Word} {slot : Option (Fin 12)}
    (ha : t.allocateFilling n = (x, slot)) (h : ∀ i, ((t.get i).focus.all fun fm => fm ≤ 65280) = true) (j : Fin 12) :
    ((x.get j).focus.all fun fm => fm ≤ 65280) = true := by
  have hab : ∀ j, ((t.abandonFilling.get j).focus.all fun fm => fm ≤ 65280) = true := Slots.abandon_focus h .filling
  rcases t.allocateFilling_cases n with ⟨i, -, e⟩ | ⟨-, e⟩ <;> rw [e] at ha <;> cases ha
  · rw [Table.get_set]
    split
    · rfl
    · exact hab j
  · exact hab j

@[simp] theorem Slots.set_allocated_pins (t : Slots) (i j : Fin 12) (p : Phase) (o : Origin) :
    ((t.set i ((t.get i).allocated p o)).get j).pins = (t.get j).pins := by
  rw [Table.get_set]
  split
  · rename_i e; subst e; rfl
  · rfl

theorem Slots.allocateFilling_pins {x t : Slots} {n : Word} {slot : Option (Fin 12)}
    (ha : t.allocateFilling n = (x, slot)) (j : Fin 12) : (x.get j).pins = (t.get j).pins := by
  have hab : (t.abandonFilling.get j).pins = (t.get j).pins := Slots.abandon_pins t .filling j
  rcases t.allocateFilling_cases n with ⟨i, -, e⟩ | ⟨-, e⟩ <;> rw [e] at ha <;> cases ha
  · exact (Slots.set_allocated_pins _ _ _ _ _).trans hab
  · exact hab

/-- No sums are lawful sums (R27). -/
theorem CurrentFrame.sumLaw_zero {f : CurrentFrame} (h : f.sums = Sums.zero) : f.SumLaw := by
  refine ⟨?_, fun k => ?_, ?_⟩ <;> rw [h]
  · exact Nat.zero_le _
  · rw [Sums.zero, Table.get_fill]
    exact Nat.zero_le _
  · exact Nat.zero_le _

theorem State.Works.fill (h : s.Works) {x : Slots} {slot : Option (Fin 12)}
    (ha : s.slots.allocateFilling (s.intake.counter + 1) = (x, slot)) (d : Nat) :
    State.Works ((s.withSlots x).withIntake
      { s.intake with
        state := if slot.isSome then .filling else .dropping, counter := s.intake.counter + 1, lossTimer := .stopped
        current := some ⟨s.intake.counter + 1, slot, 0, false, s.intake.area, Sums.zero⟩, drops := d }) := by
  obtain ⟨hfilled, hfills⟩ := Slots.allocateFilling_filling ha
  refine ⟨Slots.allocateFilling_originLaw ha h.origin, fun hs => ?_, fun hs => ?_, fun hf hd => ?_,
    fun i hi => hfills i hi, fun r hr => ?_, fun i hi => ?_, ?_⟩
  · cases slot with
    | none => cases hs
    | some i => exact ⟨_, i, rfl, rfl, rfl, hfilled i rfl⟩
  · cases slot with
    | none => exact ⟨_, rfl, rfl, rfl⟩
    | some i => cases hs
  · cases slot with
    | none => exact absurd rfl hd
    | some i => exact absurd rfl hf
  · obtain ⟨hp, ho⟩ := h.load r hr
    show (x.get r.slot).phase = _ ∧ (x.get r.slot).origin = _
    rw [Slots.allocateFilling_other ha (by rw [hp]; decide) (by rw [hp]; decide)]
    exact ⟨hp, ho⟩
  · refine h.loads i ?_
    change (x.get i).phase = _ at hi
    rcases s.slots.allocateFilling_cases (s.intake.counter + 1) with ⟨j, -, e⟩ | ⟨-, e⟩ <;> rw [e] at ha <;> cases ha
    · have hne : j ≠ i := by
        rintro rfl
        rw [Table.get_set_same] at hi
        cases hi
      rw [Table.get_set_other _ _ hne, Slots.abandonFilling_eq] at hi
      rw [← hi, Slots.abandon_of_ne_free (by rw [hi]; decide)]
    · rw [Slots.abandonFilling_eq] at hi
      rw [← hi, Slots.abandon_of_ne_free (by rw [hi]; decide)]
  · cases slot <;> simp

/-! ### A recall's allocation (R6, R157) -/

/-- A recall's slot was the lowest FREE one, and none was loading. -/
theorem Slots.allocateLoading_slot {x t : Slots} {l o : Nat} {i : Fin 12}
    (ha : t.allocateLoading l o = (x, .slot i)) : (∀ j, (t.get j).phase ≠ .loading) ∧ t.lowestFree = some i ∧
      x = t.set i ((t.get i).allocated .loading (.store l o)) := by
  rcases t.allocateLoading_cases l o with ⟨-, e⟩ | ⟨hn, ⟨j, hj, e⟩ | ⟨-, e⟩⟩ <;> rw [e] at ha <;> cases ha
  exact ⟨hn, hj, rfl⟩

theorem State.Works.loading (h : s.Works) {r : RecallLoad} {x : Slots} {y : Store}
    (ha : s.slots.allocateLoading r.lesson r.ordinal = (x, .slot r.slot)) (hl : y.recallLoad = some r) :
    State.Works ((s.withSlots x).withStore y) := by
  obtain ⟨hnone, hfree, rfl⟩ := Slots.allocateLoading_slot ha
  have hphase := Slots.lowestFree_free hfree
  have hother : ∀ j p, p ≠ .free → (s.slots.get j).phase = p →
      (s.slots.set r.slot ((s.slots.get r.slot).allocated .loading (.store r.lesson r.ordinal))).get j =
        s.slots.get j := by
    rintro j p hp rfl
    refine Table.get_set_other _ _ ?_
    rintro rfl
    exact hp hphase
  refine ⟨fun j => ?_, fun hs => ?_, h.dropping, h.between, fun j hj => ?_, fun r' hr' => ?_, fun j hj => ?_, h.timer⟩
  · rw [State.withStore_slots, State.withSlots_slots, Table.get_set]
    split
    · exact rfl
    · exact h.origin j
  · obtain ⟨f, i, hc, hi, hnum, hp, ho⟩ := h.filling hs
    refine ⟨f, i, hc, hi, hnum, ?_⟩
    rw [State.withStore_slots, State.withSlots_slots, hother i _ (by decide) hp]
    exact ⟨hp, ho⟩
  · rw [State.withStore_slots, State.withSlots_slots, Table.get_set] at hj
    split at hj
    · cases hj
    · exact h.fills j hj
  · rw [State.withStore_store, hl] at hr'
    cases hr'
    rw [State.withStore_slots, State.withSlots_slots, Table.get_set_same]
    exact ⟨rfl, rfl⟩
  · rw [State.withStore_slots, State.withSlots_slots, Table.get_set] at hj
    split at hj
    · rename_i e
      rw [State.withStore_store, hl]
      exact congrArg some e
    · exact absurd hj (hnone j)

/-! ### The reset (R23, R175) -/

/-- Every slot FREE with its image. -/
theorem Slots.get_afterReset (t : Slots) (i : Fin 12) : t.afterReset.get i = Slot.freeWith (t.get i).image :=
  Table.get_map _ _ _

theorem Slots.afterReset_law (t : Slots) : t.afterReset.Law := by
  refine Slots.law_iff.mpr ⟨fun i => ?_, fun i j hi => ?_, fun i j hi => ?_, fun g _ i j hi => ?_⟩
  · rw [Slots.get_afterReset]
    simp [Slot.Held, Slot.freeWith]
  · rw [Slots.get_afterReset] at hi; cases hi
  · rw [Slots.get_afterReset] at hi; cases hi
  · rw [Slots.get_afterReset] at hi; cases g <;> cases hi

theorem State.resetBlocks_slots (s : State) (rate : Fin 4) (i : Fin 12) :
    (s.resetBlocks rate).slots.get i = Slot.freeWith (s.slots.get i).image := s.slots.get_afterReset i

theorem State.resetBlocks_queueLaw (s : State) (rate : Fin 4) : (s.resetBlocks rate).QueueLaw := by
  refine ⟨Nat.zero_le _, .nil, .nil, nofun, fun i => ?_⟩
  rw [State.resetBlocks_slots]
  exact ⟨nofun, nofun⟩

theorem State.resetBlocks_pinLaw (s : State) (rate : Fin 4) : (s.resetBlocks rate).PinLaw := by
  refine ⟨fun i => ?_, rfl, fun _ => rfl, fun _ => rfl⟩
  rw [State.resetBlocks_slots]
  rfl

theorem State.resetBlocks_works (s : State) (rate : Fin 4) : (s.resetBlocks rate).Works := by
  refine ⟨fun i => ?_, nofun, nofun, fun _ _ => rfl, fun i hi => ?_, nofun, fun i hi => ?_, ⟨nofun, nofun⟩⟩
  · rw [State.resetBlocks_slots]
    exact ⟨rfl, rfl⟩
  · rw [State.resetBlocks_slots] at hi; cases hi
  · rw [State.resetBlocks_slots] at hi; cases hi

/-- The watch restarted with settings in range is lawful (R56, R58). -/
theorem Watch.restarted_law {w : WatchSettings} (ht : 1 ≤ w.threshold ∧ w.threshold ≤ 63)
    (hr : 1 ≤ w.rise ∧ w.rise ≤ 15) (hl : 1 ≤ w.length ∧ w.length ≤ 15) (hq : 1 ≤ w.quorum ∧ w.quorum ≤ 192) :
    (Watch.restarted w).Law := by
  refine ⟨ht, hr, hl, hq, fun t hm => ?_, ?_, ?_, fun _ => rfl⟩
  · rw [(List.mem_replicate.mp hm).2]
    exact ⟨⟨Nat.zero_le _, nofun, fun _ => hl.1⟩, rfl, ⟨fun _ => rfl, fun _ => rfl⟩⟩
  · simp [Watch.restarted, Table.fill]
  · cases h : w.enable <;> simp [Watch.restarted, h]

theorem Intake.reset_law : Intake.reset.Law := ⟨by decide, by decide, by decide, trivial⟩

theorem defaultNotices_ranged : defaultNotices.Ranged := fun k => by
  fin_cases k <;> exact ⟨by decide, rfl⟩

theorem defaultProfiles_law : ∀ p ∈ defaultProfiles.toList, p.Law := by decide

theorem Output.reset_law : Output.reset.Law := by decide

theorem Capture.reset_law : Capture.reset.Law := by decide

theorem Window.default_law : Window.default.Law := by decide

theorem State.resetBlocks_ranged (s : State) (rate : Fin 4) : (s.resetBlocks rate).Ranged where
  focus i := by rw [State.resetBlocks_slots]; rfl
  queue := nofun
  intake := Intake.reset_law
  watch := Watch.restarted_law (by decide) (by decide) (by decide) (by decide)
  views w hw := by rw [(List.mem_replicate.mp hw).2]; exact Window.default_law
  profiles := defaultProfiles_law
  jobs := nofun
  output := Output.reset_law
  capture := Capture.reset_law
  notices := defaultNotices_ranged
  errors := ⟨Nat.zero_le _, .nil, nofun⟩
  link := ⟨rfl, nofun⟩

/-! ### What every command keeps -/

theorem Act.slotLaw (h : Act G s t) (hs : s.slots.Law) : t.slots.Law := by
  cases h with
  | fill x slot d ha => exact hs.allocateFilling ha
  | load r x y _ ha =>
    obtain ⟨hnone, hfree, rfl⟩ := Slots.allocateLoading_slot ha
    exact hs.allocated _ (Slots.lowestFree_free hfree) (.inr rfl) hnone
  | reset => exact Slots.afterReset_law _
  | scan h => exact Fines.slotLaw h hs

theorem Act.queueLaw (h : Act G s t) (hs : s.QueueLaw) : t.QueueLaw := by
  cases h with
  | fill x slot d ha => exact hs.of_guarded (Slots.allocateFilling_guarded ha) rfl
  | load r x y _ ha hq =>
    obtain ⟨-, hfree, rfl⟩ := Slots.allocateLoading_slot ha
    exact hs.of_guarded (Slots.set_guarded_of_free (Slots.lowestFree_free hfree) rfl) hq
  | reset => exact State.resetBlocks_queueLaw _ _
  | scan h => exact Fines.queueLaw h hs

theorem Act.works (h : Act G s t) (hs : s.Works) : t.Works := by
  cases h with
  | fill x slot d ha => exact hs.fill ha d
  | load r x y _ ha _ hl => exact hs.loading ha hl
  | reset => exact State.resetBlocks_works _ _
  | scan h => exact Fines.works h hs

theorem Act.ranged (h : Act G s t) (hG : G) (hs : s.Ranged) : t.Ranged := by
  cases h with
  | fill x slot d ha hd =>
    exact (hs.withSlots (Slots.allocateFilling_focus ha hs.focus)).withIntake
      ⟨hs.intake.1, hd hs.intake.2.1, hs.intake.2.2.1, hs.intake.1, CurrentFrame.sumLaw_zero rfl⟩
  | load r x y _ ha hq =>
    obtain ⟨-, -, rfl⟩ := Slots.allocateLoading_slot ha
    refine (hs.withSlots fun i => ?_).withStore (by rw [hq]; exact hs.queue)
    rw [Table.get_set]
    split
    · rfl
    · exact hs.focus i
  | reset => exact State.resetBlocks_ranged _ _
  | scan h => exact Fines.ranged h hG hs

theorem Act.pinLaw (h : Act G s t) (hs : s.PinLaw) : t.PinLaw := by
  cases h with
  | fill x slot d ha => exact hs.of_samePins ⟨Slots.allocateFilling_pins ha, rfl, rfl, rfl⟩
  | load r x y _ ha =>
    obtain ⟨-, -, rfl⟩ := Slots.allocateLoading_slot ha
    exact hs.of_samePins ⟨fun i => Slots.set_allocated_pins _ _ _ _ _, rfl, rfl, rfl⟩
  | reset => exact State.resetBlocks_pinLaw _ _
  | scan _ hp => exact hp hs

/-- An act leaves a READY slot its frame, or frees it. -/
theorem Act.readyKept (h : Act G s t) (hs : s.Works) : s.slots.ReadyKept t.slots := by
  cases h with
  | fill x slot d ha =>
    intro i hi
    rw [State.withIntake_slots, State.withSlots_slots,
      Slots.allocateFilling_other ha (by rw [hi]; decide) (by rw [hi]; decide)]
    exact .inr ⟨hi, rfl, rfl, rfl⟩
  | load r x y _ ha =>
    obtain ⟨-, hfree, rfl⟩ := Slots.allocateLoading_slot ha
    intro i hi
    have hne : r.slot ≠ i := by
      rintro rfl
      rw [Slots.lowestFree_free hfree] at hi
      cases hi
    rw [State.withStore_slots, State.withSlots_slots, Table.get_set_other _ _ hne]
    exact .inr ⟨hi, rfl, rfl, rfl⟩
  | reset => exact fun i _ => .inl (by rw [State.resetBlocks_slots]; rfl)
  | scan h => exact (Fines.undisturbed h hs).readyKept

namespace State.Run

theorem slotLaw (h : State.Run G s t) (hs : s.slots.Law) : t.slots.Law := by
  cases h with
  | calm h => exact Calms.slotLaw h hs
  | acts h ha h' => exact Calms.slotLaw h' (ha.slotLaw (h.slots ▸ hs))

theorem queueLaw (h : State.Run G s t) (hs : s.QueueLaw) : t.QueueLaw := by
  cases h with
  | calm h => exact Calms.queueLaw h hs
  | acts h ha h' => exact Calms.queueLaw h' (ha.queueLaw (Calms.queueLaw (G := G) h.calms hs))

theorem works (h : State.Run G s t) (hs : s.Works) : t.Works := by
  cases h with
  | calm h => exact Calms.works h hs
  | acts h ha h' => exact Calms.works h' (ha.works (Calms.works (G := G) h.calms hs))

theorem ranged (h : State.Run G s t) (hG : G) (hs : s.Ranged) : t.Ranged := by
  cases h with
  | calm h => exact Calms.ranged h hG hs
  | acts h ha h' => exact Calms.ranged h' hG (ha.ranged hG (h.ranged hs))

theorem pinLaw (h : State.Run G s t) (hs : s.PinLaw) : t.PinLaw := by
  cases h with
  | calm h => exact hs.of_samePins (Calms.samePins h)
  | acts h ha h' =>
    exact (ha.pinLaw (hs.of_samePins (Calms.samePins (G := G) h.calms))).of_samePins (Calms.samePins h')

theorem readyKept (h : State.Run G s t) (hs : s.Works) : s.slots.ReadyKept t.slots := by
  cases h with
  | calm h => exact (Calms.undisturbed h hs).readyKept
  | acts h ha h' =>
    have ha' := Calms.works (G := G) h.calms hs
    rw [← h.slots]
    exact (ha.readyKept ha').trans (Calms.undisturbed h' (ha.works ha'))

/-- What follows a command's act may be longer. -/
theorem andThen (h : State.Run G s t) (h' : Calms G t u) : State.Run G s u := by
  cases h with
  | calm h => exact .calm (h.trans h')
  | acts h ha h'' => exact .acts h ha (h''.trans h')

/-- Messages come first. -/
theorem after (h : s.Talks t) (h' : State.Run G t u) : State.Run G s u := by
  cases h' with
  | calm h' => exact .calm (.head (.talks h) h')
  | acts h'' ha h' => exact .acts (h.trans h'') ha h'

theorem act (h : Act G s t) : State.Run G s t := .acts (.refl s) h .refl

theorem refl (s : State) : State.Run G s s := .calm .refl

end State.Run

end Sys2Proof.Machine
end

section
/-! SUPPORT. The capture unit, the writer and the port as chains of moves (R116 to R126, R147 to R154). -/

namespace Sys2Proof.Machine

variable {G : Prop} {s t u : State}

/-- What the command may rely on stands after some of its moves too. -/
theorem Calms.ground (h : Calms G s t) (hG : G → s.Ranged) : G → t.Ranged := fun g => Calms.ranged h g (hG g)

/-! ### The capture unit's own values -/

/-- After a capture taken (R126). -/
theorem Capture.Law.afterTaken {c : Capture} (h : c.Law) : c.afterTaken.Law := by
  obtain ⟨hfloor, hset, -, harmed, hpre, hpost, hframe, hcount, hkey⟩ := h
  refine ⟨hfloor, hset, le_refl _, fun ha => ?_, hpre, hpost, ?_, ?_, hkey⟩ <;> simp only [Capture.afterTaken] at *
  · split at ha
    · cases ha
    · exact harmed ha
  · split <;> omega
  · split <;> omega

/-- After a good frame (R117). -/
theorem Capture.Law.goodFrame {c : Capture} (h : c.Law) : c.goodFrame.Law := by
  obtain ⟨hfloor, hset, hhold, hrest⟩ := h
  exact ⟨hfloor, hset, (Nat.sub_le _ _).trans hhold, hrest⟩

/-- After a key sample (R120). -/
theorem Capture.Law.sampleKey {c : Capture} (h : c.Law) (pressed : Bool) : (c.sampleKey pressed).1.Law := by
  obtain ⟨hfloor, hset, hhold, harmed, hpre, hpost, hframe, hcount, hkey, hdown, hup⟩ := h
  have hk : (if pressed then min (c.keyCounter + 1) 15 else c.keyCounter - 1) ≤ 15 := by split <;> omega
  unfold Capture.sampleKey
  dsimp only
  generalize (if pressed then min (c.keyCounter + 1) 15 else c.keyCounter - 1) = k at hk
  split
  · exact ⟨hfloor, hset, hhold, harmed, hpre, hpost, hframe, hcount, hk, fun _ => by dsimp only; omega, nofun⟩
  · rename_i hpress
    split
    · exact ⟨hfloor, hset, hhold, harmed, hpre, hpost, hframe, hcount, hk, nofun, fun _ => by dsimp only; omega⟩
    · rename_i hlift
      refine ⟨hfloor, hset, hhold, harmed, hpre, hpost, hframe, hcount, hk, fun hp => ?_, fun hp => ?_⟩
      · by_contra hz
        exact hlift ⟨by dsimp only at hz; omega, hp⟩
      · by_contra hz
        exact hpress ⟨by dsimp only at hz; omega, hp⟩

/-- With other expiries waiting (R118). -/
theorem Capture.Law.expiries {c : Capture} (h : c.Law) (n : Nat) : Capture.Law { c with expiries := n } := h

/-- After one count of the interval timer (R118). -/
theorem Capture.Law.countFrame {c : Capture} (h : c.Law) : c.countFrame.Law := by
  obtain ⟨hfloor, hset, hhold, harmed, hpre, hpost, hframe, hcount, hkey⟩ := h
  rcases c.countFrame_cases with ⟨hne, e⟩ | ⟨-, hne, e⟩ | ⟨-, -, e⟩ <;> rw [e]
  · exact ⟨hfloor, hset, hhold, harmed, hpre, hpost, by dsimp only; omega, hcount, hkey⟩
  · exact ⟨hfloor, hset, hhold, harmed, hpre, hpost, by dsimp only; omega, by dsimp only; omega, hkey⟩
  · exact ⟨hfloor, hset, hhold, harmed, hpre, hpost, by dsimp only; omega, by dsimp only; omega, hkey⟩

/-! ### The store's own moves -/

@[simp] theorem Store.arbitrate_queue (x : Store) : x.arbitrate.queue = x.queue := by
  obtain ⟨port, stamp, attempt, h⟩ := x.arbitrate_frame
  rw [h]

@[simp] theorem Store.arbitrate_recallLoad (x : Store) : x.arbitrate.recallLoad = x.recallLoad := by
  obtain ⟨port, stamp, attempt, h⟩ := x.arbitrate_frame
  rw [h]

theorem State.arbitratePort_calms (s : State) : Calms G s s.arbitratePort :=
  Calm.one (Calm.store _ s.store.arbitrate_queue s.store.arbitrate_recallLoad)

theorem State.raise_calms (s : State) (p : NoticePayload) : Calms G s (s.raise p) := (State.Talks.raise s p).calms

theorem State.recordError_calms (s : State) (src : ErrorSource) (k : ErrorKind) (d : Nat) :
    Calms G s (s.recordError src k d) := (State.Talks.recordError s src k d).calms

theorem State.leaveQueue_calms (s : State) : Calms G s s.leaveQueue := by
  unfold State.leaveQueue
  split
  · exact .refl
  · rename_i e rest h
    exact Calm.one (Calm.leave e rest _ h rfl rfl)

theorem State.dropFull_calms (s : State) : Calms G s s.dropFull := by
  unfold State.dropFull
  split
  · exact .refl
  · exact s.leaveQueue_calms.trans (State.raise_calms _ _)

theorem State.dropFailed_calms (s : State) (cell : Nat) : Calms G s (s.dropFailed cell) := by
  unfold State.dropFailed
  split
  · exact .refl
  · exact s.leaveQueue_calms.trans (State.raise_calms _ _)

theorem State.chooseCell_calms (s : State) (tries : Nat) : Calms G s (s.chooseCell tries) := by
  unfold State.chooseCell
  split
  · exact s.dropFull_calms
  · split
    · exact Calm.one (Calm.store _ rfl rfl)
    · split
      · exact Calm.one (Calm.store _ rfl rfl)
      · exact s.dropFull_calms

theorem beginSaves_calms (n : Nat) (s : State) : Calms G s (beginSaves n s) := by
  induction n generalizing s with
  | zero => exact .refl
  | succ n ih =>
    unfold beginSaves
    split
    · exact (s.chooseCell_calms 0).trans (ih _)
    · exact .refl

/-- A reclaim begun leaves the queue and the recall load as they are (R152). -/
theorem Store.beginReclaim_frame (x : Store) :
    x.beginReclaim.queue = x.queue ∧ x.beginReclaim.recallLoad = x.recallLoad := by
  unfold Store.beginReclaim
  split
  · split <;> exact ⟨rfl, rfl⟩
  · exact ⟨rfl, rfl⟩

theorem State.runWriter_calms (s : State) : Calms G s s.runWriter := by
  obtain ⟨hq, hr⟩ := Store.beginReclaim_frame (beginSaves s.store.queue.length s).store
  exact (beginSaves_calms _ s).tail (.store _ hq hr)

theorem State.afterStep_calms (s : State) : Calms G s s.afterStep :=
  s.runWriter_calms.trans (State.arbitratePort_calms _)

theorem State.endStep_calms (s : State) : Calms G s s.endStep := Calm.one (Calm.store _ rfl rfl)

theorem State.saveStepFailed_calms (s : State) (cell : Nat) (k : ErrorKind) : Calms G s (s.saveStepFailed cell k) := by
  have hbad : Calms G s ((s.withStore (s.store.setCell cell .bad)).recordError .store k cell) :=
    (Calm.one (Calm.store (s.store.setCell cell .bad) rfl rfl)).trans (State.recordError_calms _ _ _ _)
  unfold State.saveStepFailed
  dsimp only
  split
  · exact hbad.trans (State.chooseCell_calms _ _)
  · exact hbad.trans (State.dropFailed_calms _ _)

/-- An entry appended stands at the queue's tail (R124, R153). -/
theorem Store.append_frame (x : Store) (e : SaveEntry) :
    (x.append e).queue = x.queue ++ [e] ∧ (x.append e).recallLoad = x.recallLoad := by
  unfold Store.append Store.withdrawReclaim
  split <;> exact ⟨rfl, rfl⟩

/-! ### Captures -/

/-- What a capture read lies in range (R122). -/
structure CaptureRead.InRange (r : CaptureRead) : Prop where
  focus : ∀ n fm, r.named = some (n, fm) → fm ≤ 65280
  zoom : 256 ≤ r.zoom ∧ r.zoom ≤ 2048
  cx : r.cx ≤ 2591
  cy : r.cy ≤ 1943

/-- A frame's focus measure where one is named. -/
def Named (named : Option (Word × Nat)) : Prop := ∀ n fm, named = some (n, fm) → fm ≤ 65280

theorem State.Ranged.readCapture (h : s.Ranged) (src : Trigger) {named : Option (Word × Nat)} (hn : Named named) :
    (s.readCapture src named).InRange := by
  obtain ⟨hzoom, -, -, hx, hy⟩ := h.views (s.views.get 0) ((Table.mem_toList _ _).mpr ⟨0, rfl⟩)
  exact ⟨hn, hzoom, hx, hy⟩

theorem State.Ranged.liveFrame (h : s.Ranged) : Named s.slots.liveFrame := by
  intro n fm hl
  unfold Slots.liveFrame at hl
  split at hl
  · rename_i i _
    split at hl
    · rename_i m d _ hd
      cases hl
      simpa [hd] using h.focus i
    · cases hl
  · cases hl

theorem State.missCapture_calms (s : State) (src : Trigger) (r : MissReason) (frame : Word) :
    Calms G s (s.missCapture src r frame).1 := State.raise_calms _ _

theorem State.takenCapture_calms (s : State) (src : Trigger) (frame : Word) (slot : Fin 12) (lesson ordinal : Nat)
    (merged : Bool) : Calms G s (s.takenCapture src frame slot lesson ordinal merged).1 :=
  (Calm.one (Calm.capture _ fun h => h.afterTaken)).trans (State.raise_calms _ _)

/-- Capture's tag of a frame: the slot found gets CAPTURE (R14). -/
theorem Slots.tagCapture_some {t x : Slots} {frame : Word} {i : Fin 12} (h : t.tagCapture frame = (x, some i)) :
    t.findFrame frame = some i ∧ x = t.set i ((t.get i).withTag .capture) := by
  unfold Slots.tagCapture at h
  cases hf : t.findFrame frame with
  | none => rw [hf] at h; cases h
  | some j => rw [hf] at h; cases h; exact ⟨rfl, rfl⟩

theorem State.jointCapture_calms {r : CaptureRead} (hr : G → r.InRange) {frame : Word} {focus : Nat}
    (hf : G → focus ≤ 65280) : Calms G s (s.jointCapture r frame focus).1 := by
  unfold State.jointCapture
  split
  · exact s.missCapture_calms _ _ _
  · rename_i l _
    split
    · exact s.missCapture_calms _ _ _
    · split
      · exact s.takenCapture_calms _ _ _ _ _ _
      · rename_i hnew
        split
        · exact s.missCapture_calms _ _ _
        · rename_i hlen
          split
          · exact s.missCapture_calms _ _ _
          · rename_i x i htag
            obtain ⟨hfound, rfl⟩ := Slots.tagCapture_some htag
            obtain ⟨hq, hl⟩ := s.store.append_frame (r.entry frame focus i l)
            refine (Calm.one (Calm.append (r.entry frame focus i l) _ hfound (fun d hd => ?_) (not_le.mp hlen) hq hl
              fun g => ⟨hf g, (hr g).zoom, (hr g).cx, (hr g).cy⟩)).trans
              ((State.takenCapture_calms _ _ _ _ _ _ _).trans (State.afterStep_calms _))
            have := List.find?_eq_none.mp hnew d hd
            simpa [CaptureRead.entry] using this

theorem State.completeCapture_calms {r : CaptureRead} (hr : G → r.InRange) : Calms G s (s.completeCapture r).1 := by
  unfold State.completeCapture
  split
  · exact s.missCapture_calms _ _ _
  · rename_i frame focus hn
    split
    · exact s.missCapture_calms _ _ _
    · exact State.jointCapture_calms hr fun g => (hr g).focus frame focus hn

theorem State.takeCapture_calms (hG : G → s.Ranged) (src : Trigger) {named : Option (Word × Nat)}
    (hn : G → Named named) : Calms G s (s.takeCapture src named).1 :=
  State.completeCapture_calms fun g => (hG g).readCapture src (hn g)

theorem State.trigger_calms (hG : G → s.Ranged) (src : Trigger) {named : Option (Word × Nat)} (hn : G → Named named) :
    Calms G s (s.trigger src named) := by
  unfold State.trigger
  split
  · exact State.takeCapture_calms hG src hn
  · exact .refl

/-- A trigger of the LIVE frame. -/
theorem State.triggerLive_calms (hG : G → s.Ranged) (src : Trigger) : Calms G s (s.trigger src s.slots.liveFrame) :=
  State.trigger_calms hG src fun g => (hG g).liveFrame

/-! The capture that a good frame end overtakes (R124) -/

/-- A capture begun with its reads in range. -/
def Begun (begun : Option BegunCapture) : Prop := ∀ b, begun = some b → b.read.InRange

theorem State.Ranged.beginTrigger (h : s.Ranged) (src : Trigger) : Begun (s.beginTrigger src) := by
  intro b hb
  unfold State.beginTrigger at hb
  split at hb
  · cases hb
    exact h.readCapture src h.liveFrame
  · cases hb

theorem State.beginEarly_calms (hG : G → s.Ranged) (e : EarlyCapture) :
    Calms G s (s.beginEarly e).1 ∧ (G → Begun (s.beginEarly e).2) := by
  cases e with
  | key =>
    have hkey : Calms G s (s.withCapture (s.capture.sampleKey true).1) :=
      Calm.one (Calm.capture _ fun h => h.sampleKey true)
    refine ⟨hkey, fun g => ?_⟩
    unfold State.beginEarly
    dsimp only
    split
    · exact (Calms.ground hkey hG g).beginTrigger .key
    · exact nofun
  | interval =>
    unfold State.beginEarly
    rcases s.takeExpiry_cases with ⟨-, e⟩ | ⟨n, -, e⟩ <;> rw [e]
    · exact ⟨.refl, fun _ => nofun⟩
    · have hexpiry : Calms G s (s.withCapture { s.capture with expiries := n }) :=
        Calm.one (Calm.capture _ fun h => h.expiries n)
      exact ⟨hexpiry, fun g => (Calms.ground hexpiry hG g).beginTrigger .interval⟩
  | request tag =>
    unfold State.beginEarly
    dsimp only
    split
    · refine ⟨(State.Talks.takeInHand s _).calms, fun g b hb => ?_⟩
      cases hb
      exact (hG g).readCapture _ (hG g).liveFrame
    · rename_i hhand
      exact ⟨(State.Talks.keepWaiting hhand _).calms, fun _ => nofun⟩

theorem State.beginOvertaken_calms (hG : G → s.Ranged) :
    Calms G s s.beginOvertaken.1 ∧ (G → Begun s.beginOvertaken.2) := by
  unfold State.beginOvertaken
  split
  · exact ⟨.refl, fun _ => nofun⟩
  · rename_i entry rest _
    have hused : Calms G s (s.withSchedule { s.schedule with overtaken := rest }) := Calm.one (Calm.schedule _)
    dsimp only
    split
    · exact ⟨hused, fun _ => nofun⟩
    · obtain ⟨hearly, hbegun⟩ := State.beginEarly_calms (Calms.ground hused hG) (by assumption)
      exact ⟨hused.trans hearly, hbegun⟩

theorem State.endCapture_calms {begun : Option BegunCapture} (hb : G → Begun begun) :
    Calms G s (s.endCapture begun) := by
  unfold State.endCapture
  split
  · exact .refl
  · rename_i b
    have hjoint : Calms G s (s.completeCapture b.read).1 := State.completeCapture_calms fun g => hb g b rfl
    dsimp only
    split
    · exact hjoint.trans (State.Talks.formReply _ _ _ _).calms
    · exact hjoint

end Sys2Proof.Machine
end

section
/-! SUPPORT. Sensor intake and the page watch as chains of moves (R26 to R52). -/

namespace Sys2Proof.Machine

variable {G : Prop} {s t u : State}

/-! ### The watch -/

/-- The records of a table, read one after another. -/
theorem Table.toList_eq {α : Type} {n : Nat} (t : Table α n) : t.toList = (List.finRange n).map t.get := by
  refine List.ext_getElem (by simp [t.length_eq]) fun k h1 h2 => ?_
  simp [Table.get]

/-- The records of a table that satisfy a test are counted index by index. -/
theorem Table.countP_toList {α : Type} {n : Nat} (t : Table α n) (p : α → Bool) :
    t.toList.countP p = (List.finRange n).countP fun i => p (t.get i) := by
  rw [t.toList_eq, List.countP_map]
  rfl

/-- A tile judged stays lawful (R46). -/
theorem Tile.Law.judged {w : WatchSettings} {x : Tile} (h : Tile.Law w x) (hl : 1 ≤ w.length) (new : Nat) :
    Tile.Law w (x.judged w new) := by
  unfold Tile.judged
  split
  · exact h
  · obtain ⟨hc, -, -⟩ := h
    rename_i previous _
    have hcount : tileCounter w x.counter (movingSample w.threshold previous new) ≤ w.length := by
      unfold tileCounter; split <;> omega
    generalize tileCounter w x.counter (movingSample w.threshold previous new) = c at hcount
    refine ⟨hcount, fun hs => ?_, fun hs => ?_⟩ <;> dsimp only at hs ⊢ <;> unfold tileState at hs
    · split at hs
      · omega
      · split at hs
        · cases hs
        · omega
    · split at hs
      · cases hs
      · omega

theorem Tile.judged_mean (w : WatchSettings) (x : Tile) (new : Nat) : (x.judged w new).mean = some new := by
  unfold Tile.judged
  split <;> rfl

/-- A sample of means in range leaves the watch lawful (R44 to R50). -/
theorem Watch.Law.sample {w : Watch} (h : w.Law) {means : Table Nat 192} (hm : ∀ k, means.get k ≤ 255) :
    (w.sample means).1.Law := by
  obtain ⟨hthreshold, hrise, hlength, hquorum, htiles, hmoving, hoff, hcount⟩ := h
  unfold Watch.sample
  split
  · exact ⟨hthreshold, hrise, hlength, hquorum, htiles, hmoving, hoff, hcount⟩
  · rename_i hpage
    have hon : w.page ≠ .off := fun e => hpage e
    have htile : ∀ k, Tile.Law w.settings (w.tiles.get k) := fun k =>
      (htiles _ ((Table.mem_toList _ _).mpr ⟨k, rfl⟩)).1
    split
    · rename_i hpresent
      have hstay : pageAfter w.page (pageEvent w (movingCount (w.tiles.mapIdx fun i t =>
          t.judged w.settings (means.get i)))) ≠ .off := by
        unfold pageAfter; split <;> first | exact hon | decide
      refine ⟨hthreshold, hrise, hlength, hquorum, fun x hx => ?_, rfl,
        ⟨fun e => absurd e hstay, fun e => absurd (hoff.mpr e) hon⟩, fun e => absurd e hstay⟩
      obtain ⟨k, rfl⟩ := (Table.mem_toList _ _).mp hx
      rw [Table.get_mapIdx]
      refine ⟨(htile k).judged hlength.1 _, ?_, ?_⟩
      · simpa [Tile.MeanLaw, Tile.judged_mean] using hm k
      · simp [Tile.judged_mean, hpresent]
    · refine ⟨hthreshold, hrise, hlength, hquorum, fun x hx => ?_, ?_, hoff, hcount⟩
      · obtain ⟨k, rfl⟩ := (Table.mem_toList _ _).mp hx
        rw [Table.get_mapIdx]
        exact ⟨htile k, by simpa [Tile.MeanLaw] using hm k, by simp⟩
      · rw [Table.countP_toList]
        simp only [Table.get_mapIdx]
        rw [hmoving, Table.countP_toList]

/-- The count that the watch answers is one of tiles (R44). -/
theorem Watch.Law.answer_le {w : Watch} (h : w.Law) : w.answer ≤ 192 := by
  obtain ⟨-, -, -, -, -, hmoving, -, -⟩ := h
  unfold Watch.answer
  split
  · exact Nat.zero_le _
  · rw [hmoving]
    exact List.countP_le_length.trans w.tiles.length_eq.le

theorem State.settle_calms (hG : G → s.Ranged) (frame : Word) {focus : Nat} (hf : G → focus ≤ 65280) :
    Calms G s (s.settle frame focus) := by
  have hmove : Calms G s (s.withSlots (s.slots.moveSettled frame)) := by
    rcases s.slots.moveSettled_cases frame with ⟨i, -, hp, e⟩ | ⟨-, e⟩ <;> rw [e]
    · exact Calm.one (Calm.hold _ (Slots.moveTag_eased fun _ => hp) (Slots.moveTag_guarded (by decide))
        fun j => Slots.moveTag_pins _ _ _ _)
    · exact .refl
  have htold : Calms G s ((s.withSlots (s.slots.moveSettled frame)).raise (.pageSettled frame focus)) :=
    hmove.trans (State.raise_calms _ _)
  refine htold.trans (State.trigger_calms (Calms.ground htold hG) _ fun g n fm hn => ?_)
  cases hn
  exact hf g

theorem State.takeSample_calms (hG : G → s.Ranged) (frame : Word) {focus : Nat} (hf : G → focus ≤ 65280)
    {means : Table Nat 192} (hm : G → ∀ k, means.get k ≤ 255) : Calms G s (s.takeSample frame focus means) := by
  have hwatch : Calms G s (s.withWatch (s.watch.sample means).1) := Calm.one (Calm.watch _ fun g h => h.sample (hm g))
  unfold State.takeSample
  dsimp only
  split
  · exact hwatch.trans (State.raise_calms _ _)
  · exact hwatch.trans (State.settle_calms (Calms.ground hwatch hG) frame hf)
  · exact hwatch

/-! ### Frame ends -/

theorem State.abandonFrame_calms (s : State) (i : Intake) (hi : i = s.intake.betweenFrames) :
    Calms G s (s.abandonFrame.withIntake i) := by
  subst hi
  exact Calm.one (Calm.rest _ _ _ (.inl rfl) (by decide) (by decide) (by decide))

/-- A good frame's end once its slot is completed: a capture begun takes its joint step, the holdoff counts, the watch takes
the sample, the statistics are written (R31, R124). -/
def State.handOn (s : State) (f : CurrentFrame) (begun : Option BegunCapture) : State :=
  let focus := f.sums.focusMeasure f.area
  let s1 := s.endCapture begun
  let s2 := (s1.withCapture s1.capture.goodFrame).takeSample f.number focus f.sums.tileMeans
  s2.withIntake { s2.intake with stats := ⟨f.number, f.sums.meanLuma, focus, s2.watch.answer, true⟩ }

theorem State.endGood_some {f : CurrentFrame} {i : Fin 12} (hi : f.slot = some i) (s : State)
    (begun : Option BegunCapture) : s.endGood f begun =
      ((s.withSlots (s.slots.completeFilling i (f.sums.focusMeasure f.area))).withIntake
        s.intake.betweenFrames).handOn f begun := by
  simp only [State.endGood, hi, State.handOn]

theorem State.endGood_none {f : CurrentFrame} (hi : f.slot = none) (s : State) (begun : Option BegunCapture) :
    s.endGood f begun = ((s.withSlots s.slots).withIntake s.intake.betweenFrames).handOn f begun := by
  simp only [State.endGood, hi, State.handOn]

theorem State.handOn_calms (hG : G → s.Ranged) {f : CurrentFrame} (hf : G → f.area.AreaLaw ∧ f.SumLaw)
    (hlines : f.lines = Config.frameHeight) {begun : Option BegunCapture} (hb : G → Begun begun) :
    Calms G s (s.handOn f begun) := by
  have hfocus : G → f.sums.focusMeasure f.area ≤ 65280 := fun g =>
    CurrentFrame.focusMeasure_le (hf g).1 (hf g).2 hlines
  have hheld := (State.endCapture_calms (s := s) hb).tail (Calm.capture _ fun h => h.goodFrame)
  have hsampled := hheld.trans (State.takeSample_calms (Calms.ground hheld hG) f.number hfocus
    fun g => CurrentFrame.tileMeans_le (hf g).2 hlines)
  refine Relation.ReflTransGen.trans hsampled (Calm.one (Calm.settings _ rfl rfl rfl rfl fun g hi =>
    ⟨hi.1, hi.2.1, ⟨?_, hfocus g, ?_⟩, hi.2.2.2⟩))
  · exact CurrentFrame.meanLuma_le (hf g).2 hlines
  · exact (Calms.ground hsampled hG g).watch.answer_le

/-- A good frame's end, from the state in which the capture it overtakes has been begun (R31). -/
theorem State.endGood_calms (hG : G → s.Ranged) {f : CurrentFrame} (hf : s.intake.endingGood = some f)
    {begun : Option BegunCapture} (hb : G → Begun begun) : Calms G s (s.endGood f begun) := by
  obtain ⟨-, hcurrent, -, hlines⟩ := Intake.endingGood_some hf
  have hframe : G → f.area.AreaLaw ∧ f.SumLaw := fun g => (hG g).intake.frame hcurrent
  cases hi : f.slot with
  | some i =>
    rw [State.endGood_some hi]
    have hdone := Calm.one (G := G) (Calm.complete f i hf hi)
    exact hdone.trans (State.handOn_calms (Calms.ground hdone hG) hframe hlines hb)
  | none =>
    rw [State.endGood_none hi]
    have hdone : Calms G s ((s.withSlots s.slots).withIntake s.intake.betweenFrames) :=
      Calm.one (Calm.rest _ _ _ (.inr ⟨rfl, fun _ => by simp [Intake.fillingSlot, hcurrent, hi]⟩) (by decide)
        (by decide) (by decide))
    exact hdone.trans (State.handOn_calms (Calms.ground hdone hG) hframe hlines hb)

end Sys2Proof.Machine
end

section
/-! SUPPORT. The running sums of a frame stay within what its rows can add (R29, R34 to R36). -/

namespace Sys2Proof.Machine

/-- A sum of numbers up to 255. -/
theorem sum_le_255 {l : List Nat} (h : ∀ n ∈ l, n ≤ 255) : l.sum ≤ 255 * l.length := by
  have := List.sum_le_card_nsmul l 255 h
  rw [smul_eq_mul] at this
  omega

theorem lineLumas_le (line : List Byte) : ∀ n ∈ lineLumas line, n ≤ 255 := by
  induction line using lineLumas.induct with
  | case1 _ y rest ih =>
    intro n hn
    rw [lineLumas, List.mem_cons] at hn
    rcases hn with rfl | hn
    · have := y.isLt
      omega
    · exact ih n hn
  | case2 line h =>
    rw [lineLumas]
    · exact nofun
    · exact h

/-- A line has one luma for two bytes (R24). -/
theorem lineLumas_length (line : List Byte) : (lineLumas line).length = line.length / 2 := by
  induction line using lineLumas.induct with
  | case1 _ y rest ih =>
    rw [lineLumas, List.length_cons, ih, List.length_cons, List.length_cons]
    omega
  | case2 line h =>
    rw [lineLumas]
    · match line, h with
      | [], _ => rfl
      | [_], _ => simp
      | a :: b :: rest, h => exact absurd rfl (h a b rest)
    · exact h

theorem imageLuma_le (slot : Nat) (img : Image) (x y : Nat) : imageLuma slot img x y ≤ 255 := by
  have := (imageByte slot img y (2 * x + 1)).isLt
  unfold imageLuma
  omega

theorem blurAt_le {f : Nat → Nat → Nat} (h : ∀ x y, f x y ≤ 255) (w k x y : Nat) : blurAt f w k x y ≤ 255 := by
  unfold blurAt
  dsimp only
  have h1 := h (x - 1) (y - 1)
  have h2 := h x (y - 1)
  have h3 := h (min (x + 1) (w - 1)) (y - 1)
  have h4 := h (x - 1) y
  have h5 := h x y
  have h6 := h (min (x + 1) (w - 1)) y
  have h7 := h (x - 1) (min (y + 1) (k - 1))
  have h8 := h x (min (y + 1) (k - 1))
  have h9 := h (min (x + 1) (w - 1)) (min (y + 1) (k - 1))
  omega

/-- A row of the focus area adds at most 255 for each of its pixels (R36). -/
theorem focusRow_le {f : Nat → Nat → Nat} (h : ∀ x y, f x y ≤ 255) (a : Rect) (y : Nat) :
    focusRow f a y ≤ 255 * a.w := by
  unfold focusRow
  refine (sum_le_255 fun n hn => ?_).trans (by simp)
  obtain ⟨i, -, rfl⟩ := List.mem_map.mp hn
  have h1 := h (a.x + i) y
  have h2 := blurAt_le h Config.frameWidth Config.frameHeight (a.x + i) y
  omega

/-- The rows of a focus area among the first `n` lines of a frame. -/
def areaRows (a : Rect) (n : Nat) : Nat := min n (a.y + a.h) - a.y

/-- One row's focus sum, if it lies in the area, is covered by the row it adds. -/
theorem focusRowIn_le {f : Nat → Nat → Nat} (h : ∀ x y, f x y ≤ 255) (a : Rect) (y : Nat) :
    255 * (a.w * areaRows a y) + focusRowIn f a y ≤ 255 * (a.w * areaRows a (y + 1)) := by
  unfold focusRowIn
  split
  · rename_i hy
    have hrows : areaRows a (y + 1) = areaRows a y + 1 := by unfold areaRows; omega
    have := focusRow_le h a y
    rw [hrows, Nat.mul_succ, Nat.mul_add]
    omega
  · have hrows : areaRows a y ≤ areaRows a (y + 1) := by unfold areaRows; omega
    exact Nat.mul_le_mul_left _ (Nat.mul_le_mul_left _ hrows)

/-- The rows whose focus sums are in after so many lines (R29). -/
def focusRows (lines : Nat) : Nat := if lines < Config.frameHeight then lines - 1 else Config.frameHeight

theorem CurrentFrame.sumLaw_iff (f : CurrentFrame) : f.SumLaw ↔
    f.sums.luma ≤ 255 * (Config.frameWidth * min f.lines Config.frameHeight) ∧
      (∀ k : Fin 192, f.sums.tiles.get k ≤
        255 * (Config.tileSide * tileRowsBelow k (min f.lines Config.frameHeight))) ∧
      f.sums.focus ≤ 255 * (f.area.w * areaRows f.area (focusRows f.lines)) := Iff.rfl

/-- A line that is counted and not summed. -/
theorem CurrentFrame.SumLaw.counted {f : CurrentFrame} (h : f.SumLaw) (d : Bool) :
    CurrentFrame.SumLaw { f with lines := f.lines + 1, damaged := d } := by
  obtain ⟨hluma, htiles, hfocus⟩ := f.sumLaw_iff.mp h
  have hlines : min f.lines Config.frameHeight ≤ min (f.lines + 1) Config.frameHeight := by omega
  refine (CurrentFrame.sumLaw_iff _).mpr ⟨hluma.trans ?_, fun k => (htiles k).trans ?_, hfocus.trans ?_⟩
  · exact Nat.mul_le_mul_left _ (Nat.mul_le_mul_left _ hlines)
  · refine Nat.mul_le_mul_left _ (Nat.mul_le_mul_left _ ?_)
    unfold tileRowsBelow
    dsimp only
    omega
  · refine Nat.mul_le_mul_left _ (Nat.mul_le_mul_left _ ?_)
    unfold areaRows focusRows
    dsimp only
    split <;> split <;> omega

/-- A whole line of an undamaged frame, summed (R29). -/
theorem CurrentFrame.SumLaw.addLine {f : CurrentFrame} (h : f.SumLaw) {luma : Nat → Nat → Nat}
    (hluma : ∀ x y, luma x y ≤ 255) {line : List Byte} (hline : line.length = Config.lineBytes)
    (hlines : f.lines < Config.frameHeight) :
    CurrentFrame.SumLaw { f with lines := f.lines + 1, sums := f.sums.addLine f.area luma f.lines line } := by
  obtain ⟨hl, ht, hf⟩ := f.sumLaw_iff.mp h
  have hlen : (lineLumas line).length = 2592 := by rw [lineLumas_length, hline]; rfl
  have hbefore : min f.lines Config.frameHeight = f.lines := min_eq_left hlines.le
  have hafter : min (f.lines + 1) Config.frameHeight = f.lines + 1 := min_eq_left hlines
  rw [hbefore] at hl ht
  refine (CurrentFrame.sumLaw_iff _).mpr ⟨?_, fun k => ?_, ?_⟩ <;> dsimp only [Sums.addLine]
  · rw [hafter]
    have := sum_le_255 (lineLumas_le line)
    simp only [Config.frameWidth] at hl ⊢
    omega
  · rw [hafter, Table.get_mapIdx]
    have hk := ht k
    unfold tileRowsBelow at hk ⊢
    by_cases hrow : k.val / Config.tileColumns = f.lines / Config.tileSide
    · rw [if_pos hrow]
      simp only [Config.tileSide, Config.tileColumns, Config.frameHeight] at hk hlines hrow ⊢
      have hpart := sum_le_255 (l := ((lineLumas line).drop (162 * (k.val % 16))).take 162) fun n hn =>
        lineLumas_le line n (List.mem_of_mem_drop (List.mem_of_mem_take hn))
      have hshort : (((lineLumas line).drop (162 * (k.val % 16))).take 162).length ≤ 162 := List.length_take_le _ _
      omega
    · rw [if_neg hrow]
      simp only [Config.tileSide, Config.tileColumns] at hk ⊢
      omega
  · have hrow := focusRowIn_le hluma f.area
    unfold focusRows at hf ⊢
    rw [if_pos hlines] at hf
    by_cases hlast : f.lines + 1 = Config.frameHeight
    · have h1 := hrow (f.lines - 1)
      have h2 := hrow f.lines
      have hpos : f.lines - 1 + 1 = f.lines := by simp only [Config.frameHeight] at hlast; omega
      rw [hpos] at h1
      rw [if_neg (by omega), if_pos hlast, if_neg (by omega), ← hlast]
      omega
    · rw [if_neg hlast, if_pos (show f.lines + 1 < Config.frameHeight by omega), Nat.add_sub_cancel]
      split
      · rename_i hzero
        rw [hzero] at hf ⊢
        exact hf
      · have h1 := hrow (f.lines - 1)
        rw [Nat.sub_add_cancel (by omega)] at h1
        omega

end Sys2Proof.Machine
end

section
/-! SUPPORT. What the outcome of a command is, and the events of the sensor, the timers and the flash as runs of moves. -/

namespace Sys2Proof.Machine

variable {G : Prop} {s t u : State} {o : Host.Outcome State Fault Refusal}

/-- The command goes on to a state that moves alone lead to. -/
def State.Calmly (G : Prop) (s : State) (o : Host.Outcome State Fault Refusal) : Prop := ∃ t, o = .next t ∧ Calms G s t

/-- The command goes on to a state that a whole run leads to. -/
def State.Goes (G : Prop) (s : State) (o : Host.Outcome State Fault Refusal) : Prop := ∃ t, o = .next t ∧ s.Run G t

theorem State.Calmly.goes (h : s.Calmly G o) : s.Goes G o := by
  obtain ⟨t, ht, hc⟩ := h
  exact ⟨t, ht, .calm hc⟩

theorem State.Calmly.after (h : Calms G s t) (h' : t.Calmly G o) : s.Calmly G o := by
  obtain ⟨u, hu, hc⟩ := h'
  exact ⟨u, hu, h.trans hc⟩

theorem State.Goes.after (h : s.Talks t) (h' : t.Goes G o) : s.Goes G o := by
  obtain ⟨u, hu, hr⟩ := h'
  exact ⟨u, hu, hr.after h⟩

theorem ignored_calmly (s : State) : s.Calmly G (ignored s) := ⟨s, rfl, .refl⟩

theorem finish_calmly (h : Calms G s t) : s.Calmly G (finish t) :=
  ⟨_, rfl, h.tail (.talks (State.Talks.transmit t))⟩

theorem finish_goes (h : s.Run G t) : s.Goes G (finish t) :=
  ⟨_, rfl, h.andThen (State.Talks.transmit t).calms⟩

/-- A request: its block takes its step, or takes none; what follows is on the link (R166 to R169). -/
theorem respondOrDefer_talks (i : Instr) (s : State) (step : State → State × Option Answer) :
    ∃ t, respondOrDefer i s step = .next t ∧ (s.Talks t ∨ (step s).1.Talks t) := by
  unfold respondOrDefer
  split
  · rename_i r _ _
    split
    · rename_i t a e
      refine ⟨_, rfl, .inr ?_⟩
      rw [e]
      exact (State.Talks.takeInHand t r).trans ((State.Talks.formReply _ _ _ a).trans (State.Talks.transmit _))
    · rename_i t e
      refine ⟨_, rfl, .inr ?_⟩
      rw [e]
      exact (State.Talks.takeInHand t r).trans (State.Talks.transmit _)
  · rename_i r q _ hhand
    exact ⟨_, rfl, .inl ((State.Talks.keepWaiting hhand r).trans (State.Talks.transmit _))⟩
  · exact ⟨s, rfl, .inl (State.Talks.refl s)⟩

theorem respondOrDefer_goes {i : Instr} {step : State → State × Option Answer} (h : s.Run G (step s).1) :
    s.Goes G (respondOrDefer i s step) := by
  obtain ⟨t, ht, hs | hs⟩ := respondOrDefer_talks i s step
  · exact ⟨t, ht, .calm hs.calms⟩
  · exact ⟨t, ht, h.andThen hs.calms⟩

theorem respond_calmly {i : Instr} {step : State → State × Answer} (h : Calms G s (step s).1) :
    s.Calmly G (respond i s step) := by
  obtain ⟨t, ht, hs | hs⟩ := respondOrDefer_talks i s fun t => ((step t).1, some (step t).2)
  · exact ⟨t, ht, hs.calms⟩
  · exact ⟨t, ht, h.trans hs.calms⟩

theorem respond_goes {i : Instr} {step : State → State × Answer} (h : s.Run G (step s).1) :
    s.Goes G (respond i s step) := respondOrDefer_goes h

/-! ### Tables whose records are lawful -/

theorem Table.forall_set {α : Type} {n : Nat} {x : Table α n} {P : α → Prop} (h : ∀ a ∈ x.toList, P a) {i : Fin n} {a : α}
    (ha : P a) : ∀ b ∈ (x.set i a).toList, P b := by
  intro b hb
  rcases List.mem_or_eq_of_mem_set hb with hb | rfl
  · exact h b hb
  · exact ha

theorem Table.forall_map {α β : Type} {n : Nat} {x : Table α n} {P : β → Prop} {f : α → β}
    (h : ∀ a ∈ x.toList, P (f a)) : ∀ b ∈ (x.map f).toList, P b := by
  intro b hb
  obtain ⟨a, ha, rfl⟩ := List.mem_map.mp hb
  exact h a ha

theorem Table.get_of_forall {α : Type} {n : Nat} {x : Table α n} {P : α → Prop} (h : ∀ a ∈ x.toList, P a) (i : Fin n) :
    P (x.get i) := h _ ((Table.mem_toList _ _).mpr ⟨i, rfl⟩)

/-! ### Tag moves: the commands that a frame start can hold between its pin requests (R109) -/

theorem execFrameEnd_calmly (hG : G → s.Ranged) : s.Calmly G (execFrameEnd s) := by
  unfold execFrameEnd
  split
  · rename_i f hf
    obtain ⟨hovertaken, hbegun⟩ := State.beginOvertaken_calms hG
    have hintake : s.beginOvertaken.1.intake = s.intake := by
      obtain ⟨c, l, e, n, x, h⟩ := s.beginOvertaken_frame
      rw [h]
    exact finish_calmly (hovertaken.trans
      (State.endGood_calms (Calms.ground hovertaken hG) (by rw [hintake]; exact hf) hbegun))
  · split
    · rename_i f _ _
      refine finish_calmly ?_
      have herror : ∀ x : State, s.Talks x → Calms G s (x.abandonFrame.withIntake x.intake.betweenFrames) := fun x h =>
        h.calms.trans (State.abandonFrame_calms x _ rfl)
      unfold State.endDamaged
      dsimp only
      split
      · exact herror _ (State.Talks.recordError _ _ _ _)
      · exact herror s (State.Talks.refl s)
    · exact finish_calmly (State.abandonFrame_calms s _ rfl)
    · rename_i hs
      exact finish_calmly (Calm.one (Calm.rest s.slots .waiting .running (.inr ⟨rfl, fun e => by rw [hs] at e; cases e⟩)
        (by decide) (by decide) (by decide)))
    · exact ignored_calmly s

/-- A window brought into range by a recall's view (R74). -/
theorem State.restoreView_calms (s : State) (zoom cx cy : Nat) : Calms G s (s.restoreView zoom cx cy) := by
  refine Calm.one (Calm.views _ fun h => Table.forall_set h ?_)
  obtain ⟨hzoom, -, hrate, -, -⟩ := Table.get_of_forall h 0
  refine ⟨hzoom, ?_, hrate, ?_, ?_⟩ <;> simp only [zoomInRange, columnInRange, rowInRange]
  · rw [clamp_eq (by decide)]; omega
  · rw [clamp_eq (by decide)]; omega
  · rw [clamp_eq (by decide)]; omega

theorem State.recallDone_calms {r : RecallLoad} (hr : s.store.recallLoad = some r) (c : CellRead) :
    Calms G s (s.recallDone r c) := by
  have hdone := Calm.one (Calm.recalled (G := G) r c.image { s.store with recallLoad := none } hr rfl rfl)
  unfold State.recallDone
  dsimp only
  split
  · exact hdone.trans ((State.restoreView_calms _ _ _ _).trans (State.raise_calms _ _))
  · exact hdone.trans (State.raise_calms _ _)

theorem State.recallFailed_calms (s : State) (r : RecallLoad) : Calms G s (s.recallFailed r) :=
  (Calm.one (Calm.unrecalled { s.store with recallLoad := none } rfl rfl)).trans
    ((State.recordError_calms _ _ _ _).trans (State.raise_calms _ _))

theorem execRecallReadEnd_calmly (read : Option CellRead) (s : State) : s.Calmly G (execRecallReadEnd read s) := by
  have hended : Calms G s s.endStep := s.endStep_calms
  have hfailed : ∀ r, s.Calmly G (finish (s.endStep.recallFailed r).arbitratePort) := fun r =>
    finish_calmly (hended.trans ((State.recallFailed_calms _ r).trans (State.arbitratePort_calms _)))
  unfold execRecallReadEnd
  split
  · rename_i r _ hr
    dsimp only
    split
    · split
      · exact finish_calmly (hended.trans ((State.recallDone_calms (s := s.endStep) hr _).trans
          (State.arbitratePort_calms _)))
      · exact hfailed r
    · exact hfailed r
  · exact ignored_calmly s

/-- A freeze moves its tag to a slot that carries another (R20). -/
theorem freezeStep_calms (which source : Byte) (s : State) : Calms G s (freezeStep which source s).1 := by
  unfold freezeStep
  split
  · rename_i tag from_ htag _
    split
    · rename_i i hi
      have hcapture : tag ≠ .capture := by
        rintro rfl
        unfold freezeTag at htag
        split at htag
        · cases htag
        · split at htag <;> cases htag
      exact Calm.one (Calm.hold _ (Slots.moveTag_eased fun h => h.ready (Slots.carrier_carries hi))
        (Slots.moveTag_guarded hcapture) fun j => Slots.moveTag_pins _ _ _ _)
    · exact .refl
  · exact .refl

theorem unfreezeStep_calms (which : Byte) (s : State) : Calms G s (unfreezeStep which s).1 := by
  unfold unfreezeStep
  split
  · rename_i tag htag
    have hcapture : tag ≠ .capture := by
      rintro rfl
      unfold freezeTag at htag
      split at htag
      · cases htag
      · split at htag <;> cases htag
    exact Calm.one (Calm.hold _ Slots.dropTag_eased (Slots.dropTag_guarded hcapture) fun j => by
      rw [Slots.get_dropTag, Slot.withoutTag_pins])
  · exact .refl

/-- A tag move is calm. -/
theorem runMove_calms (hG : G → s.Ranged) (m : TagMove) : Calms G s (runMove m s) := by
  have hafter : ∀ {o}, s.Calmly G o → Calms G s (stateAfter o s) := by
    rintro o ⟨t, rfl, h⟩
    exact h
  cases m with
  | frameEnd => exact hafter (execFrameEnd_calmly hG)
  | recallReadEnd read => exact hafter (execRecallReadEnd_calmly read s)
  | freeze tag which source => exact hafter (respond_calmly (freezeStep_calms which source s))
  | unfreeze tag which => exact hafter (respond_calmly (unfreezeStep_calms which s))

theorem runMoves_calms (hG : G → s.Ranged) (moves : List TagMove) : Calms G s (runMoves moves s) := by
  induction moves generalizing s with
  | nil => exact .refl
  | cons m rest ih =>
    have hm := runMove_calms hG m
    exact hm.trans (ih (Calms.ground hm hG))

/-! ### The other events of the sensor and of the timers -/

/-- A frame start abandons the FILLING slot itself (R6). -/
theorem State.abandonFrame_beginFrame (x : State) : x.abandonFrame.beginFrame = x.beginFrame := by
  have hab : x.slots.abandonFilling.abandonFilling = x.slots.abandonFilling := by
    ext i
    exact Slots.abandon_other (Slots.abandon_phase (by decide) i)
  unfold State.beginFrame State.abandonFrame Slots.allocateFilling
  simp only [State.withSlots_slots, State.withSlots_intake, hab]
  rfl

theorem execFrameStart_goes (s : State) : s.Goes G (execFrameStart s) := by
  have hbegin : ∀ x : State, s.Talks x → s.Goes G (finish x.beginFrame) := by
    intro x hx
    refine finish_goes (State.Run.after hx ?_)
    unfold State.beginFrame
    dsimp only
    split
    · rename_i y i ha
      exact .act (Act.fill y (some i) x.intake.drops ha id)
    · rename_i y ha
      exact (State.Run.act (Act.fill y none _ ha fun _ => min_le_right _ _)).andThen (State.recordError_calms _ _ _ _)
  unfold execFrameStart
  split
  · exact (ignored_calmly s).goes
  · exact hbegin s (State.Talks.refl s)
  · exact hbegin _ (State.Talks.raise s _)
  · unfold State.closeUnfinished
    split
    · rw [State.abandonFrame_beginFrame]
      split
      · exact hbegin s (State.Talks.refl s)
      · exact hbegin _ (State.Talks.recordError s _ _ _)
    · rw [State.abandonFrame_beginFrame]
      exact hbegin s (State.Talks.refl s)
  · exact hbegin s (State.Talks.refl s)

theorem State.takeLine_calms {f : CurrentFrame} (hs : s.intake.state = .filling) (hc : s.intake.current = some f)
    (line : List Byte) : Calms G s (s.takeLine f line) := by
  have hcounted : ∀ d, Calms G s (s.withIntake { s.intake with
      current := some { f with lines := f.lines + 1, damaged := d } }) := fun d =>
    Calm.one (Calm.line f _ s.slots hs hc rfl rfl (fun h => ⟨h.1, h.2.counted d⟩) (.inl rfl))
  unfold State.takeLine
  dsimp only
  split
  · split
    · exact hcounted true
    · exact (hcounted true).trans (State.recordError_calms _ _ _ _)
  · rename_i hline
    split
    · exact hcounted f.damaged
    · rename_i hgood
      push Not at hgood
      split
      · exact hcounted f.damaged
      · rename_i i hi
        exact Calm.one (Calm.line f _ _ hs hc rfl rfl
          (fun h => ⟨h.1, h.2.addLine (imageLuma_le _ _) (by simpa using hline) hgood.2⟩) (.inr ⟨i, _, hi, rfl⟩))

theorem execLineArrival_calmly (line : List Byte) (s : State) : s.Calmly G (execLineArrival line s) := by
  unfold execLineArrival
  split
  · rename_i f hs hc
    exact finish_calmly (State.takeLine_calms hs hc line)
  · exact ignored_calmly s

theorem execLossTimeout_calmly (s : State) : s.Calmly G (execLossTimeout s) := by
  unfold execLossTimeout
  split
  · rename_i hs
    refine finish_calmly (.trans (Calm.one (Calm.turn .lost .stopped ?_ ?_ (by decide) (by decide) (by decide)))
      (State.raise_calms _ _)) <;> rw [hs] <;> decide
  · exact ignored_calmly s

theorem execKeySample_calmly (hG : G → s.Ranged) (pressed : Bool) : s.Calmly G (execKeySample pressed s) := by
  have hkey : Calms G s (s.withCapture (s.capture.sampleKey pressed).1) :=
    Calm.one (Calm.capture _ fun h => h.sampleKey pressed)
  unfold execKeySample
  dsimp only
  split
  · exact finish_calmly (hkey.trans (State.triggerLive_calms (Calms.ground hkey hG) .key))
  · exact finish_calmly hkey

theorem execIntervalExpiry_calmly (hG : G → s.Ranged) : s.Calmly G (execIntervalExpiry s) := by
  unfold execIntervalExpiry
  rcases s.takeExpiry_cases with ⟨-, e⟩ | ⟨n, -, e⟩ <;> rw [e]
  · exact ignored_calmly s
  · have hexpiry : Calms G s (s.withCapture { s.capture with expiries := n }) :=
      Calm.one (Calm.capture _ fun h => h.expiries n)
    exact finish_calmly (hexpiry.trans (State.triggerLive_calms (Calms.ground hexpiry hG) .interval))

/-! ### The flash events -/

/-- A store that keeps its queue and its recall load. -/
theorem State.withStore_calms (s : State) (x : Store) (hq : x.queue = s.store.queue)
    (hr : x.recallLoad = s.store.recallLoad) : Calms G s (s.withStore x) := Calm.one (Calm.store x hq hr)

theorem State.mediaFault_calms (s : State) (r : FaultReason) : Calms G s (s.mediaFault r) :=
  (s.withStore_calms { s.store.endStep with state := .fault, fault := r, cellCount := 0 } rfl rfl).trans
    (State.raise_calms _ _)

theorem execIdentityReadEnd_calmly (size : Option Nat) (s : State) : s.Calmly G (execIdentityReadEnd size s) := by
  unfold execIdentityReadEnd
  split
  · split
    · exact finish_calmly (s.mediaFault_calms _)
    · split
      · exact finish_calmly (s.withStore_calms _ rfl rfl)
      · exact finish_calmly (s.withStore_calms _ rfl rfl)
  · exact ignored_calmly s

theorem execHeaderReadEnd_calmly (h : Option (List Byte)) (s : State) : s.Calmly G (execHeaderReadEnd h s) := by
  unfold execHeaderReadEnd
  split
  · rename_i cell _
    dsimp only
    have hread : ∀ x : State, Calms G s x → s.Calmly G
        (if cell + 1 < s.store.cellCount then finish (x.withStore (x.store.inFlightNext (.headerRead (cell + 1))))
        else finish (x.withStore x.store.finishMount).raiseStoreState.runWriter.arbitratePort) := by
      intro x hx
      split
      · exact finish_calmly (hx.trans (x.withStore_calms _ rfl rfl))
      · exact finish_calmly (hx.trans ((x.withStore_calms x.store.finishMount rfl rfl).trans
          ((State.raise_calms _ _).trans (State.afterStep_calms _))))
    generalize classify h = found
    obtain ⟨c, err⟩ := found
    have hstore := s.withStore_calms (G := G) { s.store with
      cells := s.store.cells ++ [c], scan := s.store.scan ++ (h.bind (scannedHeader cell)).toList } rfl rfl
    cases err with
    | some k => exact hread _ (hstore.trans (State.recordError_calms _ _ _ _))
    | none => exact hread _ hstore
  · exact ignored_calmly s

end Sys2Proof.Machine
end

section
/-! SUPPORT. The remaining flash events and the requests as runs of moves. -/

namespace Sys2Proof.Machine

variable {G : Prop} {s t u : State}

/-! ### Flash events -/

/-- The port's grant after moves. -/
theorem Calms.arbitratePort (h : Calms G s t) : Calms G s t.arbitratePort := h.trans (State.arbitratePort_calms t)

/-- What the writer and the port do after moves. -/
theorem Calms.afterStep (h : Calms G s t) : Calms G s t.afterStep := h.trans (State.afterStep_calms t)

theorem execFormatEraseEnd_calmly (success : Bool) (s : State) : s.Calmly G (execFormatEraseEnd success s) := by
  unfold execFormatEraseEnd
  split
  · rename_i cell _
    dsimp only
    have hnext : ∀ x : State, Calms G s x → s.Calmly G
        (if cell + 1 < s.store.cellCount then
          finish (x.withStore ((x.store.setCell (cell + 1) .erasing).inFlightNext (.formatErase (cell + 1))))
        else finish (x.withStore x.store.finishFormat).raiseStoreState) := by
      intro x hx
      split
      · exact finish_calmly (hx.trans (x.withStore_calms _ rfl rfl))
      · exact finish_calmly (hx.trans ((x.withStore_calms x.store.finishFormat rfl rfl).trans (State.raise_calms _ _)))
    cases success with
    | true => exact hnext _ (s.withStore_calms (s.store.setCell cell .erased) rfl rfl)
    | false =>
      exact hnext _ ((s.withStore_calms (s.store.setCell cell .bad) rfl rfl).trans (State.recordError_calms _ _ _ _))
  · exact ignored_calmly s

/-- A save step that failed, and what follows it (R151). -/
theorem State.saveStepFailed_calmly (s : State) (cell : Nat) (k : ErrorKind) :
    s.Calmly G (finish (s.endStep.saveStepFailed cell k).afterStep) :=
  finish_calmly (s.endStep_calms.trans ((State.saveStepFailed_calms _ _ _).trans (State.afterStep_calms _)))

theorem execSaveEraseEnd_calmly (success : Bool) (s : State) : s.Calmly G (execSaveEraseEnd success s) := by
  unfold execSaveEraseEnd
  split
  · rename_i cell _
    dsimp only
    split
    · exact finish_calmly (Calms.arbitratePort (s.endStep_calms.trans (State.withStore_calms _ _ rfl rfl)))
    · exact s.saveStepFailed_calmly cell _
  · exact ignored_calmly s

theorem execProgramEnd_calmly (success : Bool) (s : State) : s.Calmly G (execProgramEnd success s) := by
  unfold execProgramEnd
  split
  · rename_i cell _
    dsimp only
    split
    · exact finish_calmly (Calms.arbitratePort (s.endStep_calms.trans (State.withStore_calms _ _ rfl rfl)))
    · exact s.saveStepFailed_calmly cell _
  · exact ignored_calmly s

theorem State.committed_calms (s : State) (cell : Nat) : Calms G s (s.committed cell) := by
  unfold State.committed
  split
  · exact s.withStore_calms _ rfl rfl
  · rename_i e _ _
    exact (s.withStore_calms ((s.store.setCell cell .used).addPage e.lesson
      ⟨cell, e.ordinal, s.store.attemptStamp⟩) rfl rfl).trans
        ((State.leaveQueue_calms _).trans (State.raise_calms _ _))

theorem execCommitEnd_calmly (success : Bool) (s : State) : s.Calmly G (execCommitEnd success s) := by
  unfold execCommitEnd
  split
  · rename_i cell _
    dsimp only
    split
    · exact finish_calmly (s.endStep_calms.trans ((State.committed_calms _ cell).trans (State.afterStep_calms _)))
    · exact s.saveStepFailed_calmly cell _
  · exact ignored_calmly s

theorem execReclaimEraseEnd_calmly (success : Bool) (s : State) : s.Calmly G (execReclaimEraseEnd success s) := by
  unfold execReclaimEraseEnd
  split
  · rename_i cell _
    dsimp only
    split
    · exact finish_calmly (Calms.afterStep (s.withStore_calms _ rfl rfl))
    · refine finish_calmly (Calms.afterStep (.trans ?_ (State.recordError_calms _ _ _ _)))
      exact s.withStore_calms _ rfl rfl
  · exact ignored_calmly s

theorem State.endDelete_calms (s : State) (d : DeleteWork) : Calms G s (s.endDelete d) := by
  unfold State.endDelete
  refine .trans (s.withStore_calms _ ?_ ?_) (State.raise_calms _ _) <;> rfl

theorem State.continueDelete_calms (s : State) (d : DeleteWork) : Calms G s (s.continueDelete d) := by
  unfold State.continueDelete
  split
  · exact s.withStore_calms _ rfl rfl
  · exact s.endDelete_calms d

theorem State.tombstoned_calms (s : State) (id ordinal cell : Nat) (success : Bool) :
    Calms G s (s.tombstoned id ordinal cell success) := by
  unfold State.tombstoned
  dsimp only
  split
  · exact s.withStore_calms _ rfl rfl
  · refine .trans (s.withStore_calms _ ?_ ?_) (State.recordError_calms _ _ _ _) <;> rfl

theorem State.endPageDelete_calms (s : State) (id : Nat) (tag : Byte) (success : Bool) :
    Calms G s (s.endPageDelete id tag success) :=
  (s.withStore_calms (s.store.prune id) rfl rfl).trans (State.Talks.formReply _ _ _ _).calms

theorem State.endLessonTombstone_calms (s : State) (success : Bool) : Calms G s (s.endLessonTombstone success) := by
  unfold State.endLessonTombstone
  split
  · refine .trans (s.withStore_calms _ ?_ ?_) (State.continueDelete_calms _ _) <;> rfl
  · exact .refl

theorem execTombstoneEnd_calmly (success : Bool) (s : State) : s.Calmly G (execTombstoneEnd success s) := by
  unfold execTombstoneEnd
  split
  · rename_i id ordinal cell replyTag _
    have hdone := s.endStep_calms (G := G).trans (s.endStep.tombstoned_calms id ordinal cell success)
    dsimp only
    split
    · exact finish_calmly (hdone.trans ((State.endPageDelete_calms _ _ _ _).trans (State.afterStep_calms _)))
    · exact finish_calmly (hdone.trans ((State.endLessonTombstone_calms _ _).trans (State.afterStep_calms _)))
  · exact ignored_calmly s

theorem execExportReadEnd_calmly (data : Option (List Byte)) (s : State) : s.Calmly G (execExportReadEnd data s) := by
  unfold execExportReadEnd
  split
  · dsimp only
    split
    · exact finish_calmly (s.endStep_calms.trans ((State.Talks.formReply _ _ _ _).calms.trans
        (State.arbitratePort_calms _)))
    · exact finish_calmly (s.endStep_calms.trans ((State.recordError_calms _ _ _ _).trans
        ((State.Talks.formReply _ _ _ _).calms.trans (State.arbitratePort_calms _))))
  · exact ignored_calmly s

/-! ### Requests of intake, watch, views, pipe, capture, notices and errors -/

theorem intakeEnableStep_calms (s : State) : Calms G s (intakeEnableStep s).1 := by
  unfold intakeEnableStep
  split
  · rename_i hs
    refine Calm.one (Calm.turn .waiting .running ?_ ?_ (by decide) (by decide) (by decide)) <;> rw [hs] <;> decide
  · exact .refl

theorem intakeDisableStep_calms (s : State) : Calms G s (intakeDisableStep s).1 := by
  unfold intakeDisableStep
  dsimp only
  split
  · exact Calm.one (Calm.rest _ .disabled .stopped (.inl rfl) (by decide) (by decide) (by decide))
  · rename_i hs
    exact Calm.one (Calm.rest s.slots .disabled .stopped (.inr ⟨rfl, fun e => absurd e hs⟩) (by decide) (by decide)
      (by decide))

theorem statsReadStep_calms (s : State) : Calms G s (statsReadStep s).1 :=
  Calm.one (Calm.settings _ rfl rfl rfl rfl fun _ h => h)

/-- A focus area in range is lawful (R38). -/
theorem areaInRange_law (a : Rect) : (areaInRange a).AreaLaw := by
  unfold areaInRange
  dsimp only
  rw [clamp_eq (lo := 64) (hi := 2592) (by decide), clamp_eq (lo := 64) (hi := 1944) (by decide),
    clamp_eq (Nat.zero_le _), clamp_eq (Nat.zero_le _)]
  simp only [evenDown_eq, Rect.AreaLaw, Config.frameWidth, Config.frameHeight]
  omega

theorem focusAreaSetStep_calms (asked : Rect) (s : State) : Calms G s (focusAreaSetStep asked s).1 :=
  Calm.one (Calm.settings _ rfl rfl rfl rfl fun _ h => ⟨areaInRange_law asked, h.2⟩)

theorem watchSetStep_calms (enable threshold rise length quorum : Byte) (s : State) :
    Calms G s (watchSetStep enable threshold rise length quorum s).1 := by
  refine Calm.one (Calm.watch _ fun _ _ => Watch.restarted_law ?_ ?_ ?_ ?_) <;>
    simp only [watchInRange] <;> rw [clamp_eq (by decide)] <;> omega

/-- A request for a window that leaves its record lawful (R69, R71). -/
theorem State.setWindow_calms (s : State) (i : Fin 4) {w : Window} (h : (s.views.get i).Law → w.Law) :
    Calms G s (s.setWindow i w) :=
  Calm.one (Calm.views _ fun hv => Table.forall_set hv (h (Table.get_of_forall hv i)))

theorem viewSetStep_calms (number : Byte) (zoom cx cy rate : Half) (s : State) :
    Calms G s (viewSetStep number zoom cx cy rate s).1 := by
  unfold viewSetStep onWindow
  split
  · refine s.setWindow_calms _ fun h => ⟨h.1, ?_, ?_, ?_, ?_⟩ <;>
      simp only [zoomInRange, columnInRange, rowInRange] <;> rw [clamp_eq (by decide)] <;> omega
  · exact .refl

theorem nudged_le (limit c : Nat) (d : Int) : nudged limit c d ≤ limit := by
  unfold nudged
  rw [clampInt_eq (by omega)]
  omega

theorem viewNudgeStep_calms (number : Byte) (dx dy : Half) (s : State) :
    Calms G s (viewNudgeStep number dx dy s).1 := by
  unfold viewNudgeStep onWindow
  split
  · exact s.setWindow_calms _ fun h => ⟨h.1, h.2.1, h.2.2.1, nudged_le _ _ _, nudged_le _ _ _⟩
  · exact .refl

/-- A request that only reads. -/
theorem onWindow_reads (number : Byte) (s : State) (f : Fin 4 → Answer) :
    (onWindow number s fun i => (s, f i)).1 = s := by
  unfold onWindow
  split <;> rfl

theorem viewReadStep_reads (number : Byte) (s : State) : (viewReadStep number s).1 = s := onWindow_reads _ _ _

theorem profileSetStep_calms (number gain threshold limit : Byte) (s : State) :
    Calms G s (profileSetStep number gain threshold limit s).1 := by
  unfold profileSetStep
  split
  · refine Calm.one (Calm.profiles _ fun h => Table.forall_set h ?_)
    refine ⟨?_, ?_, ?_⟩ <;> simp only [profileInRange] <;> rw [clamp_eq (by decide)] <;> omega
  · exact .refl

theorem profileReadStep_reads (number : Byte) (s : State) : (profileReadStep number s).1 = s := by
  unfold profileReadStep
  split <;> rfl

theorem captureSetStep_calms (mode mask : Byte) (floor : Half) (holdoff restart : Byte) (s : State) :
    Calms G s (captureSetStep mode mask floor holdoff restart s).1 := by
  unfold captureSetStep
  split
  · exact .refl
  · rename_i m _
    refine Calm.one (Calm.capture _ fun h => ?_)
    obtain ⟨-, -, -, harmed, hrest⟩ := h
    refine ⟨min_le_right _ _, ?_, min_le_right _ _, fun ha => ?_, hrest⟩
    · have := holdoff.isLt
      dsimp only
      omega
    · dsimp only at ha ⊢
      split at ha
      · rename_i e; rw [e]; exact harmed ha
      · cases ha

theorem captureArmStep_calms (s : State) : Calms G s (captureArmStep s).1 := by
  unfold captureArmStep
  split
  · rename_i hmode
    exact Calm.one (Calm.capture _ fun h => ⟨h.1, h.2.1, h.2.2.1, fun _ => hmode, h.2.2.2.2⟩)
  · exact .refl

theorem intervalSetStep_calms (prescale postscale : Byte) (s : State) :
    Calms G s (intervalSetStep prescale postscale s).1 := by
  refine Calm.one (Calm.capture _ fun h => ?_)
  obtain ⟨hfloor, hset, hhold, harmed, -, -, -, -, hkey⟩ := h
  refine ⟨hfloor, hset, hhold, harmed, ?_, ?_, ?_, ?_, hkey⟩ <;> dsimp only <;> rw [clamp_eq (by decide)] <;> omega

theorem captureNowStep_calms (hG : G → s.Ranged) : Calms G s (captureNowStep s).1 :=
  State.takeCapture_calms hG .request fun g => (hG g).liveFrame

theorem noticeLevelsSetStep_calms (levels : Table Byte 14) (s : State) :
    Calms G s (noticeLevelsSetStep levels s).1 := by
  refine State.Talks.calms (State.Talks.notices s fun h k => ?_)
  rw [Table.get_mapIdx]
  exact ⟨min_le_right _ _, (h k).2⟩

theorem errorClearStep_calms (record : Nat) (s : State) : Calms G s (errorClearStep record s).1 := by
  unfold errorClearStep
  split
  · exact State.Talks.calms (State.Talks.errors s fun _ => ⟨Nat.zero_le _, .nil, nofun⟩)
  · split
    · refine State.Talks.calms (State.Talks.errors s fun h => ?_)
      obtain ⟨hlen, hkeys, hcounts⟩ := h
      have hsub := List.eraseIdx_sublist s.errors.records record
      exact ⟨hsub.length_le.trans hlen, (hsub.map _).nodup hkeys, fun e he => hcounts e (hsub.subset he)⟩
    · exact .refl

/-! ### Requests of the lesson store -/

/-- A store request either changes nothing or is taken by its own rule (R134). -/
theorem whenReady_cases (s : State) (k : State × Answer) :
    (whenReady s k).1 = s ∨ s.store.state = .ready ∧ whenReady s k = k := by
  unfold whenReady
  split
  · exact .inl rfl
  · exact .inl rfl
  · exact .inl rfl
  · exact .inl rfl
  · rename_i h
    exact .inr ⟨h, rfl⟩

theorem whenReady_calms {k : State × Answer} (h : Calms G s k.1) : Calms G s (whenReady s k).1 := by
  rcases whenReady_cases s k with e | ⟨-, e⟩ <;> rw [e]
  exact h

theorem whenReady_run {k : State × Answer} (h : s.Run G k.1) : s.Run G (whenReady s k).1 := by
  rcases whenReady_cases s k with e | ⟨-, e⟩ <;> rw [e]
  · exact .refl s
  · exact h

theorem whenReadyDeferring_run {k : State × Option Answer} (h : s.Run G k.1) :
    s.Run G (whenReadyDeferring s k).1 := by
  unfold whenReadyDeferring
  split <;> first | exact h | exact .refl s

theorem storeMountStep_calms (s : State) : Calms G s (storeMountStep s).1 := by
  unfold storeMountStep
  split <;> first | exact .refl | exact s.withStore_calms _ rfl rfl

theorem storeFormatStep_calms (s : State) : Calms G s (storeFormatStep s).1 := by
  have haccepted : Calms G s (s.withStore (s.store.beginMedia .formatting)) := s.withStore_calms _ rfl rfl
  unfold storeFormatStep
  dsimp only
  split
  · exact .refl
  · exact .refl
  · exact haccepted
  · exact haccepted
  · split
    · exact .refl
    · split
      · exact .refl
      · split
        · exact .refl
        · exact haccepted

theorem storeUnmountStep_calms (s : State) : Calms G s (storeUnmountStep s).1 := by
  refine whenReady_calms ?_
  split
  · exact .refl
  · refine .trans (s.withStore_calms _ ?_ ?_) (State.raise_calms _ _) <;> rfl

theorem lessonOpenStep_calms (title : List Byte) (s : State) : Calms G s (lessonOpenStep title s).1 := by
  refine whenReady_calms ?_
  split
  · exact .refl
  · split
    · exact .refl
    · exact s.withStore_calms _ rfl rfl

theorem lessonResumeStep_calms (id : Nat) (s : State) : Calms G s (lessonResumeStep id s).1 := by
  refine whenReady_calms ?_
  split
  · exact .refl
  · split
    · exact .refl
    · split
      · exact .refl
      · exact s.withStore_calms _ rfl rfl

theorem lessonCloseStep_calms (s : State) : Calms G s (lessonCloseStep s).1 := by
  refine whenReady_calms ?_
  split
  · exact .refl
  · exact s.withStore_calms _ rfl rfl

theorem lessonListStep_calms (first : Nat) (s : State) : Calms G s (lessonListStep first s).1 := whenReady_calms .refl

theorem lessonPagesStep_calms (id first : Nat) (s : State) : Calms G s (lessonPagesStep id first s).1 := by
  refine whenReady_calms ?_
  split <;> exact .refl

theorem lessonDeleteStep_calms (id : Nat) (s : State) : Calms G s (lessonDeleteStep id s).1 := by
  refine whenReady_calms ?_
  split
  · exact .refl
  · split
    · exact .refl
    · split
      · exact .refl
      · split
        · exact .refl
        · split
          · exact .refl
          · refine .trans (s.withStore_calms _ ?_ ?_)
              ((State.continueDelete_calms _ _).trans (State.arbitratePort_calms _)) <;> rfl

theorem pageDeleteStep_run (tag : Byte) (id ordinal : Nat) (s : State) :
    s.Run G (pageDeleteStep tag id ordinal s).1 := by
  refine whenReadyDeferring_run ?_
  split
  · exact .refl s
  · refine .calm (.trans (s.withStore_calms _ ?_ ?_) (State.arbitratePort_calms _)) <;> rfl

theorem pageRecallStep_run (id ordinal : Nat) (restoreView : Bool) (s : State) :
    s.Run G (pageRecallStep id ordinal restoreView s).1 := by
  refine whenReady_run ?_
  split
  · exact .refl s
  · rename_i p _
    split
    · exact .refl s
    · rename_i hload
      split
      · exact .refl s
      · exact .refl s
      · rename_i x i ha
        have hnone : s.store.recallLoad = none := by simpa using hload
        have hact : Act G s ((s.withSlots x).withStore
            (Store.ask { s.store with recallLoad := some ⟨id, ordinal, p.cell, i, restoreView⟩ } (.recallRead p.cell))) :=
          Act.load ⟨id, ordinal, p.cell, i, restoreView⟩ x _ hnone ha rfl rfl
        exact (State.Run.act hact).andThen (State.arbitratePort_calms _)

theorem pageReadStep_run (tag : Byte) (id ordinal offset length : Nat) (s : State) :
    s.Run G (pageReadStep tag id ordinal offset length s).1 := by
  refine whenReadyDeferring_run ?_
  split
  · exact .refl s
  · split
    · exact .refl s
    · refine .calm (.trans (s.withStore_calms _ ?_ ?_) (State.arbitratePort_calms _)) <;> rfl

end Sys2Proof.Machine
end

section
/-! SUPPORT. The projector output's commands: moves of pins, pane jobs and latch, and the pin law after them (R95 to R109). -/

namespace Sys2Proof.Machine

variable {G : Prop} {s t u : State}

/-! ### Moves -/

theorem Fine.one (h : Fine G s t) : Fines G s t := .single h

/-- Another output after moves. -/
theorem Fines.withOutput (h : Fines G s t) {o : Output} (ho : t.output.Law → o.Law) : Fines G s (t.withOutput o) :=
  h.tail (.output o ho)

/-- Calm moves after others. -/
theorem Fines.calms (h : Fines G s t) (h' : Calms G t u) : Fines G s u := Relation.ReflTransGen.trans h (Calms.fines h')

theorem Fines.ground (h : Fines G s t) (hG : G → s.Ranged) : G → t.Ranged := fun g => Fines.ranged h g (hG g)

theorem State.endScan_fines (s : State) : Fines G s s.endScan := by
  unfold State.endScan
  split
  · refine ((Fine.one (Fine.hold _ Slots.releasePins_eased Slots.releasePins_guarded)).tail
      (Fine.pipe { s.pipe with jobs := [] } rfl fun _ => nofun)).tail ?_
    exact Fine.output { s.output with latch := none } id
  · exact .refl

theorem Output.Law.copyStaged {o : Output} (h : o.Law) : o.copyStaged.Law := ⟨h.1, h.1, h.2.2⟩

theorem Output.Law.startFrame {o : Output} (h : o.Law) : o.startFrame.Law := by
  unfold Output.startFrame
  dsimp only
  split
  · exact h.copyStaged
  · exact h

theorem Window.Law.glide {w : Window} (h : w.Law) : w.glide.Law := by
  obtain ⟨hzoom, htarget, hrest⟩ := h
  unfold Window.glide
  split
  · exact ⟨htarget, htarget, hrest⟩
  · split
    · exact ⟨⟨by dsimp only; omega, by dsimp only; omega⟩, htarget, hrest⟩
    · split
      · exact ⟨⟨by dsimp only; omega, by dsimp only; omega⟩, htarget, hrest⟩
      · exact ⟨hzoom, htarget, hrest⟩

/-- Raises one after another keep the notice records lawful. -/
theorem Notices.Ranged.raises {α : Type} {n : Notices} (h : n.Ranged) (f : α → NoticePayload) (l : List α) :
    Notices.Ranged (l.foldl (fun n a => n.raise (f a)) n) := by
  induction l generalizing n with
  | nil => exact h
  | cons a l ih => exact ih (h.raise (f a))

theorem State.glideStep_calms (s : State) : Calms G s s.glideStep := by
  rw [State.glideStep_eq]
  refine .tail (.tail (Calm.one (Calm.views _ fun h => Table.forall_map fun w hw => (h w hw).glide))
    (.talks (State.Talks.notices _ fun h => ?_))) (Calm.openChoice _)
  exact h.raises _ _

/-- One pane's turn is a pin request and tag moves (R109). -/
theorem resolvePane_slots (mode : Fin 4) (page : PageState) (x : Slots) (p : Pane) :
    (resolvePane mode page x p).1 = x ∧ (∀ i, (resolvePane mode page x p).2.shows ≠ .slot i) ∨
      ∃ i tags, (resolvePane mode page x p).2.shows = .slot i ∧ (x.pin tags).2 = some i ∧
        (resolvePane mode page x p).1 = (x.pin tags).1 := by
  unfold resolvePane
  dsimp only
  split
  · exact .inl ⟨rfl, nofun⟩
  · split
    · exact .inl ⟨rfl, nofun⟩
    · rcases x.pin_cases (pinRequest p page) with ⟨i, hi, -, -⟩ | ⟨-, e⟩
      · rw [show x.pin (pinRequest p page) = ((x.pin (pinRequest p page)).1, some i) from Prod.ext rfl hi]
        exact .inr ⟨i, pinRequest p page, rfl, hi, rfl⟩
      · rw [e]
        exact .inl ⟨rfl, nofun⟩

theorem resolveTurn_fines (hG : G → s.Ranged) (mode : Fin 4) (page : PageState) (p : Pane) (moves : List TagMove) :
    Fines G s (resolveTurn mode page p moves s).1 := by
  have hpin : Fines G s (s.withSlots (resolvePane mode page s.slots p).1) := by
    rcases resolvePane_slots mode page s.slots p with ⟨e, -⟩ | ⟨i, tags, -, -, e⟩ <;> rw [e]
    · exact .refl
    · obtain ⟨heased, hguarded⟩ := s.slots.pin_eased_guarded tags
      exact Fine.one (Fine.hold _ heased hguarded)
  exact Relation.ReflTransGen.trans hpin
    (Calms.fines (runMoves_calms (fun g => Fines.ranged hpin g (hG g)) moves))

theorem resolvePanes_fines (hG : G → s.Ranged) (mode : Fin 4) (page : PageState) (panes : Table Pane 4)
    (between : Between) : Fines G s (resolvePanes mode page panes between s).1 := by
  have h0 := resolveTurn_fines hG mode page (panes.get 0) between.after0
  have h1 := Relation.ReflTransGen.trans h0
    (resolveTurn_fines (Fines.ground h0 hG) mode page (panes.get 1) between.after1)
  have h2 := Relation.ReflTransGen.trans h1
    (resolveTurn_fines (Fines.ground h1 hG) mode page (panes.get 2) between.after2)
  exact Relation.ReflTransGen.trans h2 (resolveTurn_fines (Fines.ground h2 hG) mode page (panes.get 3) [])

/-- A job's profile is one of the pipe's four (R77). -/
theorem paneJobs_values {views : Table Window 4} {profiles : Table Profile 4} (h : ∀ p ∈ profiles.toList, p.Law)
    (panes : Table Pane 4) (latches : Table PaneLatch 4) : ∀ j ∈ paneJobs views profiles panes latches, j.values.Law := by
  intro j hj
  obtain ⟨n, -, hn⟩ := List.mem_filterMap.mp hj
  unfold paneJob at hn
  split at hn
  · cases hn
    exact Table.get_of_forall h _
  · cases hn

theorem State.runFrame_fines (hG : G → s.Ranged) (between : Between) : Fines G s (s.runFrame between) := by
  have hpanes := resolvePanes_fines hG s.output.mode s.watch.page s.output.active between
  unfold State.runFrame
  dsimp only
  refine Fines.calms ?_ (Calm.one (Calm.capture _ fun h => h.countFrame))
  refine Relation.ReflTransGen.tail ?_ (Fine.pipe _ ?_ ?_)
  · refine Fines.calms ?_ (State.glideStep_calms _)
    exact Fines.withOutput hpanes id
  · rfl
  · exact fun h => paneJobs_values h _ _

theorem State.takeBetween_calms (s : State) : Calms G s s.takeBetween.2 := by
  obtain ⟨x, h⟩ := s.takeBetween_frame
  rw [h]
  exact Calm.one (Calm.schedule x)

theorem State.runScheduled_fines (hG : G → s.Ranged) : Fines G s s.runScheduled := by
  have htaken := s.takeBetween_calms (G := G)
  exact Relation.ReflTransGen.trans (Calms.fines htaken) (State.runFrame_fines (Calms.ground htaken hG) _)

/-! ### Pins -/

/-- No pin, no pane job, no latch. -/
structure State.Unscanned (s : State) : Prop where
  pins : ∀ i, (s.slots.get i).pins = 0
  jobs : s.pipe.jobs = []
  latch : s.output.latch = none

/-- Nothing is scanned where no pane of the latch, if there is one, shows a slot. -/
theorem State.pinLaw_of_none (hp : ∀ i, (s.slots.get i).pins = 0) (hj : s.pipe.jobs = []) (hs : s.scannedPanes = [])
    (hoff : s.output.state = .off → s.output.latch = none) : s.PinLaw :=
  ⟨fun i => by rw [hp, hs]; rfl, by rw [hj, hs]; rfl, fun _ => hs, hoff⟩

theorem State.Unscanned.pinLaw (h : s.Unscanned) : s.PinLaw :=
  State.pinLaw_of_none h.pins h.jobs (by unfold State.scannedPanes; rw [h.latch]) fun _ => h.latch

/-- The end of a scan releases everything (R101). -/
theorem State.PinLaw.endScan (h : s.PinLaw) : s.endScan.Unscanned := by
  obtain ⟨hpins, hjobs, -, -⟩ := h
  unfold State.endScan
  split
  · refine ⟨fun i => ?_, rfl, rfl⟩
    show (s.slots.releasePins.get i).pins = 0
    rw [Slots.get_releasePins, Slot.released_pins]
  · rename_i hlatch
    have hnone : s.scannedPanes = [] := by unfold State.scannedPanes; rw [hlatch]
    rw [hnone] at hpins hjobs
    exact ⟨hpins, List.map_eq_nil_iff.mp hjobs, hlatch⟩

theorem State.Unscanned.of_samePins (h : s.Unscanned) (h' : s.SamePins t) : t.Unscanned :=
  ⟨fun i => (h'.pins i).trans (h.pins i), h'.jobs.trans h.jobs, h'.latch.trans h.latch⟩

@[simp] theorem State.endScan_state (s : State) : s.endScan.output.state = s.output.state := by
  unfold State.endScan
  split <;> rfl

@[simp] theorem Output.startFrame_state (o : Output) : o.startFrame.state = o.state := by
  unfold Output.startFrame
  dsimp only
  split <;> rfl

@[simp] theorem Output.startFrame_latch (o : Output) : o.startFrame.latch = o.latch := by
  unfold Output.startFrame
  dsimp only
  split <;> rfl

/-- How often a pane shows a slot. -/
def PaneLatch.pinsOn (l : PaneLatch) (i : Fin 12) : Nat := if l.shows = .slot i then 1 else 0

/-- A pane that resolves to a slot adds a pin there, and no other (R18, R107). -/
theorem resolvePane_pins (mode : Fin 4) (page : PageState) (x : Slots) (p : Pane) (i : Fin 12) :
    ((resolvePane mode page x p).1.get i).pins = (x.get i).pins + (resolvePane mode page x p).2.pinsOn i := by
  unfold PaneLatch.pinsOn
  rcases resolvePane_slots mode page x p with ⟨e, hn⟩ | ⟨j, tags, hj, hp, e⟩ <;> rw [e]
  · rw [if_neg (hn i), Nat.add_zero]
  · rcases x.pin_cases tags with ⟨k, hk, -, hx⟩ | ⟨-, hx⟩
    · rw [hp] at hk
      cases hk
      rw [hx, hj, Table.get_set]
      split
      · rename_i ei; subst ei; simp
      · rename_i ei; simp [ei]
    · rw [hx] at hp
      cases hp

/-- One turn: its own pins, nothing else of the scan (R109). -/
theorem resolveTurn_pins (mode : Fin 4) (page : PageState) (p : Pane) (moves : List TagMove) (s : State) :
    let r := resolveTurn mode page p moves s
    (∀ i, (r.1.slots.get i).pins = (s.slots.get i).pins + r.2.pinsOn i) ∧ r.1.output.state = s.output.state := by
  have hmoves := Calms.samePins (runMoves_calms (G := False) (s := s.withSlots (resolvePane mode page s.slots p).1)
    False.elim moves)
  exact ⟨fun i => (hmoves.pins i).trans (resolvePane_pins mode page s.slots p i), hmoves.state⟩

/-- What a frame's panes show, they pin: the pins after the four turns (R5, R109). -/
theorem resolvePanes_pins (mode : Fin 4) (page : PageState) (panes : Table Pane 4) (between : Between) (s : State) :
    let r := resolvePanes mode page panes between s
    (∀ i, (r.1.slots.get i).pins = (s.slots.get i).pins + (r.2.get 0).pinsOn i + (r.2.get 1).pinsOn i +
      (r.2.get 2).pinsOn i + (r.2.get 3).pinsOn i) ∧ r.1.output.state = s.output.state := by
  unfold resolvePanes
  dsimp only
  have h0 := resolveTurn_pins mode page (panes.get 0) between.after0 s
  generalize resolveTurn mode page (panes.get 0) between.after0 s = r0 at h0
  have h1 := resolveTurn_pins mode page (panes.get 1) between.after1 r0.1
  generalize resolveTurn mode page (panes.get 1) between.after1 r0.1 = r1 at h1
  have h2 := resolveTurn_pins mode page (panes.get 2) between.after2 r1.1
  generalize resolveTurn mode page (panes.get 2) between.after2 r1.1 = r2 at h2
  have h3 := resolveTurn_pins mode page (panes.get 3) [] r2.1
  exact ⟨fun i => by rw [h3.1, h2.1, h1.1, h0.1]; rfl, h3.2.trans (h2.2.trans (h1.2.trans h0.2))⟩

/-- The slot that a pane of the latch shows. -/
def FrameLatch.shownAt (l : FrameLatch) (n : Fin 4) : Option (Fin 4 × Fin 12) :=
  match (l.panes.get n).shows with
  | .slot i => some (n, i)
  | _ => none

theorem FrameLatch.shownSlots_eq (l : FrameLatch) : l.shownSlots = (List.finRange 4).filterMap l.shownAt := rfl

/-- The pins of the frame being resolved are counted by its latches (R5). -/
theorem FrameLatch.shownSlots_countP (l : FrameLatch) (i : Fin 12) : (l.shownSlots.countP fun p => p.2 == i) =
    (l.panes.get 0).pinsOn i + (l.panes.get 1).pinsOn i + (l.panes.get 2).pinsOn i + (l.panes.get 3).pinsOn i := by
  have hsum : ∀ ns : List (Fin 4), ((ns.filterMap l.shownAt).countP fun p => p.2 == i) =
      (ns.map fun n => (l.panes.get n).pinsOn i).sum := by
    intro ns
    induction ns with
    | nil => rfl
    | cons n ns ih =>
      rw [List.filterMap_cons, List.map_cons, List.sum_cons, ← ih]
      unfold PaneLatch.pinsOn FrameLatch.shownAt
      cases (l.panes.get n).shows <;> simp [List.countP_cons, Nat.add_comm]
  rw [FrameLatch.shownSlots_eq, hsum, show List.finRange 4 = [0, 1, 2, 3] from rfl]
  simp only [List.map_cons, List.map_nil, List.sum_cons, List.sum_nil]
  omega

/-- The pane jobs are those of the panes that show slots (R76, R77). -/
theorem paneJobs_panes (views : Table Window 4) (profiles : Table Profile 4) (panes : Table Pane 4) (l : FrameLatch) :
    (paneJobs views profiles panes l.panes).map (fun j => (j.pane, j.slot)) = l.shownSlots := by
  rw [FrameLatch.shownSlots_eq, paneJobs, List.map_filterMap]
  congr 1
  funext n
  unfold paneJob FrameLatch.shownAt
  cases (l.panes.get n).shows <;> rfl

/-- A frame composed on a part that scans nothing is scanned lawfully (R100, R109). -/
theorem State.Unscanned.runFrame (h : s.Unscanned) (hs : s.output.state = .run) (between : Between) :
    (s.runFrame between).PinLaw := by
  unfold State.runFrame
  dsimp only
  obtain ⟨hpins, hrun⟩ := resolvePanes_pins s.output.mode s.watch.page s.output.active between s
  generalize resolvePanes s.output.mode s.watch.page s.output.active between s = r at hpins hrun
  let l : FrameLatch := ⟨some s.watch.page, s.output.background, r.2⟩
  have hglide := Calms.samePins ((r.1.withOutput { r.1.output with latch := some l }).glideStep_calms (G := False))
  refine ⟨fun i => ?_, ?_, fun hn => ?_, fun hn => ?_⟩
  · exact (hglide.pins i).trans ((hpins i).trans (by
      rw [h.pins, Nat.zero_add, ← FrameLatch.shownSlots_countP l, State.scannedPanes]
      show _ = (match (State.glideStep _).output.latch with | some l => l.shownSlots | none => []).countP _
      rw [hglide.latch]
      rfl))
  · refine (paneJobs_panes _ _ _ l).trans ?_
    show _ = (match (State.glideStep _).output.latch with | some l => l.shownSlots | none => [])
    rw [hglide.latch]
    rfl
  · exact absurd (hglide.state.trans (hrun.trans hs)) hn
  · exact absurd ((hglide.state.trans (hrun.trans hs)).symm.trans hn) (by decide)

theorem State.Unscanned.runScheduled (h : s.Unscanned) (hs : s.output.state = .run) : s.runScheduled.PinLaw := by
  have htaken := Calms.samePins (s.takeBetween_calms (G := False))
  exact (h.of_samePins htaken).runFrame (htaken.state.trans hs) _

/-! ### The commands -/

theorem State.startingFrame_fines (s : State) (hc : s.output.startCount < 3) : Fines G s s.startingFrame := by
  refine .tail (Calms.fines s.glideStep_calms) (Fine.output _ fun h => ?_)
  rw [State.glideStep_eq] at h
  exact ⟨h.1, h.2.1, hc⟩

/-- A frame of background alone shows no slot (R95, R99). -/
theorem State.Unscanned.startingFrame (h : s.Unscanned) (hs : s.output.state = .starting) : s.startingFrame.PinLaw := by
  have hglide := Calms.samePins (s.glideStep_calms (G := False))
  refine State.pinLaw_of_none (fun i => (hglide.pins i).trans (h.pins i)) (hglide.jobs.trans h.jobs) ?_ fun e => ?_
  · refine List.filterMap_eq_nil_iff.mpr fun n _ => ?_
    dsimp only
    rw [Table.get_map]
    rfl
  · exact absurd (hs.symm.trans e) (by decide)

/-- The part at the start of an output frame: nothing is scanned, and the frame's own count begins (R96, R99). -/
def State.begun (s : State) : State := s.endScan.withOutput s.endScan.output.startFrame

theorem State.begun_fines (s : State) : Fines G s s.begun := Fines.withOutput s.endScan_fines fun h => h.startFrame

theorem State.PinLaw.begun (h : s.PinLaw) : s.begun.Unscanned :=
  ⟨h.endScan.pins, h.endScan.jobs, (Output.startFrame_latch _).trans h.endScan.latch⟩

theorem State.begun_state (s : State) : s.begun.output.state = s.output.state :=
  (Output.startFrame_state _).trans s.endScan_state

theorem State.begun_startCount (s : State) : s.begun.output.startCount = s.output.startCount := by
  unfold State.begun Output.startFrame State.endScan
  dsimp only [State.withOutput_output]
  split <;> split <;> rfl

theorem State.enterRun_fines (s : State) : Fines G s s.enterRun := by
  refine Fines.calms ?_ (State.raise_calms _ _)
  exact Fines.withOutput .refl id

theorem execOutputFrameStart_goes (hG : G → s.Ranged) : s.Goes G (execOutputFrameStart s) := by
  have hbegun := s.begun_fines (G := G)
  unfold execOutputFrameStart
  split
  · exact (ignored_calmly s).goes
  · rename_i hstarting
    split
    · rename_i hfew
      refine finish_goes (.act (.scan (t := s.begun.startingFrame) (.trans hbegun ?_) fun h => ?_))
      · exact s.begun.startingFrame_fines (by rw [s.begun_startCount]; exact hfew)
      · exact h.begun.startingFrame (s.begun_state.trans hstarting)
    · have hentered : Fines G s s.begun.enterRun := .trans hbegun s.begun.enterRun_fines
      refine finish_goes (.act (.scan (t := s.begun.enterRun.runScheduled) (.trans hentered ?_) fun h => ?_))
      · exact State.runScheduled_fines (Fines.ground hentered hG)
      · exact State.Unscanned.runScheduled ⟨h.begun.pins, h.begun.jobs, h.begun.latch⟩ rfl
  · rename_i hrun
    refine finish_goes (.act (.scan (t := s.begun.runScheduled) (.trans hbegun ?_) fun h => ?_))
    · exact State.runScheduled_fines (Fines.ground hbegun hG)
    · exact h.begun.runScheduled (s.begun_state.trans hrun)

theorem execOutputFrameEnd_goes (s : State) : s.Goes G (execOutputFrameEnd s) := by
  unfold execOutputFrameEnd
  split
  · exact finish_goes (.act (.scan s.endScan_fines fun h => h.endScan.pinLaw))
  · exact (ignored_calmly s).goes

theorem outputStartStep_run (mode : Byte) (s : State) : s.Run G (outputStartStep mode s).1 := by
  unfold outputStartStep
  split
  · refine .act (.scan (Fines.withOutput s.endScan_fines ?_) fun h => State.Unscanned.pinLaw ?_)
    · exact fun h => ⟨h.1, h.2.1, Nat.zero_le _⟩
    · exact ⟨h.endScan.pins, h.endScan.jobs, h.endScan.latch⟩
  · exact .refl s

/-- The output with a pending commit taken (R98, R104). -/
def Output.committed (o : Output) : Output := if o.commitPending then o.copyStaged else o

theorem Output.committed_latch (o : Output) : o.committed.latch = o.latch := by
  unfold Output.committed
  split <;> rfl

theorem Output.Law.committed {o : Output} (h : o.Law) : o.committed.Law := by
  unfold Output.committed
  split
  · exact h.copyStaged
  · exact h

theorem outputStopStep_run (s : State) : s.Run G (outputStopStep s).1 := by
  unfold outputStopStep
  split
  · exact .refl s
  · refine State.Run.andThen (t := s.endScan.withOutput { s.endScan.output.committed with state := .off, startCount := 0 })
      (.act (.scan (Fines.withOutput s.endScan_fines fun h => ?_) fun h => State.Unscanned.pinLaw ?_))
      (State.raise_calms _ _)
    · exact ⟨h.committed.1, h.committed.2.1, Nat.zero_le _⟩
    · exact ⟨h.endScan.pins, h.endScan.jobs, (Output.committed_latch _).trans h.endScan.latch⟩

/-- A pane rectangle taken from a request is lawful (R102, R103). -/
theorem paneRect_law (x y w h : Half) (e hold : Bool) (src : PaneSource) (v p : Fin 4) (c : Colour) :
    Pane.Law ⟨e, paneRect x y w h, src, hold, v, p, c⟩ := by
  have hx := x.isLt
  have hy := y.isLt
  have hw := w.isLt
  have hh := h.isLt
  simp only [Pane.Law, paneRect, evenDown_eq]
  omega

theorem paneSetStep_calms (pane enabled : Byte) (x y w h : Half)
    (source hold window profile absentY absentCb absentCr : Byte) (s : State) :
    Calms G s (paneSetStep pane enabled x y w h source hold window profile absentY absentCb absentCr s).1 := by
  unfold paneSetStep
  split
  · exact .refl
  · split
    · exact .refl
    · split
      · exact .refl
      · split
        · exact .refl
        · exact Calm.one (Calm.output _ rfl rfl fun ho =>
            ⟨Table.forall_set ho.1 (paneRect_law _ _ _ _ _ _ _ _ _ _), ho.2⟩)

theorem paneCommitStep_calms (s : State) : Calms G s (paneCommitStep s).1 := by
  unfold paneCommitStep
  split
  · exact Calm.one (Calm.output _ rfl rfl fun h => ⟨h.1, h.1, h.2.2⟩)
  · exact Calm.one (Calm.output _ rfl rfl fun h => h)

theorem paneReadStep_reads (pane : Byte) (s : State) : (paneReadStep pane s).1 = s := by
  unfold paneReadStep
  split <;> rfl

theorem backgroundSetStep_calms (luma cb cr : Byte) (s : State) : Calms G s (backgroundSetStep luma cb cr s).1 :=
  Calm.one (Calm.output _ rfl rfl fun h => h)

end Sys2Proof.Machine
end

section
/-! SUPPORT. The link's commands and the whole of a step as a run of moves (R162 to R175). -/

namespace Sys2Proof.Machine

variable {G : Prop} {s t u : State}

/-- Every request's step is a run (R167). -/
theorem runRequest_goes (hG : G → s.Ranged) (i : Instr) : s.Goes G (runRequest i s) := by
  have reads : ∀ {i : Instr} {step : State → State × Answer}, (step s).1 = s → s.Goes G (respond i s step) := fun e =>
    respond_goes (by rw [e]; exact .refl s)
  have calm : ∀ {i : Instr} {step : State → State × Answer}, Calms G s (step s).1 → s.Goes G (respond i s step) :=
    fun h => respond_goes (.calm h)
  cases i with
  | ping | status | linkRate | restart | slotList | watchRead | captureRead | storeStatus | noticeLevelsRead
  | errorRead =>
    simp only [runRequest, execPing, execStatus, execLinkRate, execRestart, execSlotList, execWatchRead,
      execCaptureRead, execStoreStatus, execNoticeLevelsRead, execErrorRead]
    exact respond_goes (by exact .refl s)
  | freeze _ which source => exact calm (freezeStep_calms which source s)
  | unfreeze _ which => exact calm (unfreezeStep_calms which s)
  | intakeEnable _ => exact calm (intakeEnableStep_calms s)
  | intakeDisable _ => exact calm (intakeDisableStep_calms s)
  | statsRead _ => exact calm (statsReadStep_calms s)
  | focusAreaSet _ x y w h => exact calm (focusAreaSetStep_calms _ s)
  | watchSet _ e m r l q => exact calm (watchSetStep_calms e m r l q s)
  | viewSet _ w z x y r => exact calm (viewSetStep_calms w z x y r s)
  | viewNudge _ w x y => exact calm (viewNudgeStep_calms w x y s)
  | viewRead _ w => exact reads (viewReadStep_reads w s)
  | profileSet _ p g h l => exact calm (profileSetStep_calms p g h l s)
  | profileRead _ p => exact reads (profileReadStep_reads p s)
  | outputStart _ m => exact respond_goes (outputStartStep_run m s)
  | outputStop _ => exact respond_goes (outputStopStep_run s)
  | paneSet _ n e x y w h o k v p a b c => exact calm (paneSetStep_calms n e x y w h o k v p a b c s)
  | paneCommit _ => exact calm (paneCommitStep_calms s)
  | paneRead _ n => exact reads (paneReadStep_reads n s)
  | backgroundSet _ y b r => exact calm (backgroundSetStep_calms y b r s)
  | captureSet _ m k f h r => exact calm (captureSetStep_calms m k f h r s)
  | captureArm _ => exact calm (captureArmStep_calms s)
  | captureNow _ => exact calm (captureNowStep_calms hG)
  | intervalSet _ p q => exact calm (intervalSetStep_calms p q s)
  | storeMount _ => exact calm (storeMountStep_calms s)
  | storeFormat _ => exact calm (storeFormatStep_calms s)
  | storeUnmount _ => exact calm (storeUnmountStep_calms s)
  | lessonOpen _ title => exact calm (lessonOpenStep_calms title s)
  | lessonResume _ l => exact calm (lessonResumeStep_calms _ s)
  | lessonClose _ => exact calm (lessonCloseStep_calms s)
  | lessonList _ f => exact calm (lessonListStep_calms _ s)
  | lessonPages _ l f => exact calm (lessonPagesStep_calms _ _ s)
  | lessonDelete _ l => exact calm (lessonDeleteStep_calms _ s)
  | pageDelete t l o => exact respondOrDefer_goes (pageDeleteStep_run t _ _ s)
  | pageRecall _ l o r => exact respond_goes (pageRecallStep_run _ _ _ s)
  | pageRead t l o f n => exact respondOrDefer_goes (pageReadStep_run t _ _ _ _ s)
  | noticeLevelsSet => exact calm (noticeLevelsSetStep_calms _ s)
  | errorClear _ r => exact calm (errorClearStep_calms _ s)
  | _ => exact (ignored_calmly s).goes

theorem State.dispatch_goes (hG : G → s.Ranged) (r : Request) : s.Goes G (s.dispatch r) := by
  have hanswer : ∀ a, s.Goes G (finish ((s.takeInHand r).formReply r.code r.tag a)) := fun a =>
    (finish_calmly ((State.Talks.takeInHand s r).trans (State.Talks.formReply _ _ _ a)).calms).goes
  unfold State.dispatch
  split
  · exact hanswer _
  · exact hanswer _
  · exact runRequest_goes hG _

theorem State.place_goes (hG : G → s.Ranged) (r : Request) : s.Goes G (s.place r) := by
  unfold State.place
  split
  · exact State.dispatch_goes hG r
  · rename_i hhand
    exact (finish_calmly (State.Talks.keepWaiting hhand r).calms).goes

theorem State.completeFrame_goes (hG : G → s.Ranged) (frame : List Byte) : s.Goes G (s.completeFrame frame) := by
  have hhunting := State.Talks.hunting s
  refine .after hhunting ?_
  unfold State.completeFrame
  dsimp only
  split
  · exact (finish_calmly (State.recordError_calms _ _ _ _)).goes
  · split
    · exact (finish_calmly .refl).goes
    · exact State.place_goes (fun g => hhunting.ranged (hG g)) _

/-- A longer partial frame. -/
theorem State.receiving_goes {r : Receiver} {frame : List Byte} (h : s.link.Law → Link.FrameLaw r frame) :
    s.Goes G (finish (s.receiving r frame)) := (finish_calmly (State.Talks.receiving h).calms).goes

theorem State.goodCharacter_goes (hG : G → s.Ranged) (b : Byte) : s.Goes G (s.goodCharacter b) := by
  have hreceived : ∀ r, s.link.receiver = r → r ≠ .hunt → s.link.Law → Link.FrameLaw r s.link.received :=
    fun r hr hn hl => hr ▸ hl.received (by rw [hr]; exact hn)
  have hlen : (s.link.received ++ [b]).length = s.link.received.length + 1 := by simp
  unfold State.goodCharacter
  dsimp only
  split
  · split
    · rename_i hb
      exact State.receiving_goes fun _ => ⟨by rw [hb]; rfl, by show 1 < 6; decide⟩
    · exact (ignored_calmly s).goes
  · rename_i hr
    split
    · rename_i hshort
      exact State.receiving_goes fun hl => ⟨head_append (hreceived _ hr (by decide) hl).1 b, hshort⟩
    · rename_i hfull
      refine (finish_calmly (State.Talks.checkLength fun hl => ?_).calms).goes
      obtain ⟨hhead, hsix⟩ := hreceived _ hr (by decide) hl
      exact ⟨head_append hhead b, by dsimp only at hsix; omega⟩
  · rename_i hr
    have hbody : s.link.Law → Link.FrameLaw .body s.link.received := hreceived _ hr (by decide)
    split
    · rename_i hmore
      refine State.receiving_goes fun hl => ?_
      obtain ⟨hhead, hsix, -, hmax⟩ := hbody hl
      refine ⟨head_append hhead b, by omega, hmore, by rw [announced_append hsix]; exact hmax⟩
    · rename_i hmore
      refine State.receiving_goes fun hl => ?_
      obtain ⟨hhead, hsix, hshort, hmax⟩ := hbody hl
      rw [announced_append hsix] at hmore
      refine ⟨head_append hhead b, ?_⟩
      dsimp only
      rw [announced_append hsix]
      omega
  · rename_i hr
    split
    · rename_i hmore
      refine State.receiving_goes fun hl => ?_
      obtain ⟨hhead, hlong, -, hmax⟩ := hreceived _ hr (by decide) hl
      refine ⟨head_append hhead b, ?_⟩
      dsimp only at hlong hmax ⊢
      rw [announced_append (by omega)] at hmore ⊢
      omega
    · exact State.completeFrame_goes hG _

theorem execCharacterArrival_goes (hG : G → s.Ranged) (c : Character) : s.Goes G (execCharacterArrival c s) := by
  cases c with
  | good b => exact State.goodCharacter_goes hG b
  | faulty =>
    unfold execCharacterArrival
    dsimp only
    split
    · exact (ignored_calmly s).goes
    · exact (finish_calmly (State.Talks.discardPartial _ _).calms).goes

theorem execFrameCompletion_goes (hG : G → s.Ranged) (crcLow : Byte) : s.Goes G (execFrameCompletion crcLow s) := by
  unfold execFrameCompletion
  split
  · exact State.completeFrame_goes hG _
  · exact (ignored_calmly s).goes

theorem execInterByteTimeout_goes (s : State) : s.Goes G (execInterByteTimeout s) := by
  unfold execInterByteTimeout
  split
  · exact (finish_calmly (State.Talks.discardPartial _ _).calms).goes
  · exact (ignored_calmly s).goes

theorem State.depart_goes (hG : G → s.Ranged) : s.Goes G s.depart := by
  have hemptied : s.Talks (s.withLink { s.link with hand := none, waitingPlace := none }) :=
    State.Talks.link s fun h => h.congr rfl rfl rfl fun hn => absurd rfl hn
  refine .after hemptied ?_
  unfold State.depart
  dsimp only
  split
  · exact State.dispatch_goes (fun g => hemptied.ranged (hG g)) _
  · exact (finish_calmly .refl).goes

theorem execTransmitterFree_goes (hG : G → s.Ranged) : s.Goes G (execTransmitterFree s) := by
  have hfreed : s.Talks (s.withLink { s.link with transmitter := .idle }) :=
    State.Talks.link s fun h => h.congr rfl rfl rfl h.2
  unfold execTransmitterFree
  dsimp only
  split
  · exact (ignored_calmly s).goes
  · exact .after hfreed (finish_calmly .refl).goes
  · split
    · exact .after hfreed (State.depart_goes fun g => hfreed.ranged (hG g))
    · rename_i index _
      have hswitched := hfreed.trans (State.Talks.switchRate _ index)
      exact .after hswitched (State.depart_goes fun g => hswitched.ranged (hG g))
    · exact .after hfreed (finish_goes (.act (.reset _)))

/-- A request command runs as its request (R167). -/
theorem exec_eq_runRequest {i : Instr} {r : Request} (h : encodeRequest i = some r) (s : State) :
    exec i s = runRequest i s := by
  cases i with
  | powerOnReset | frameStart | lineArrival | frameEnd | lossTimeout | outputFrameStart | outputFrameEnd
  | intervalExpiry | keySample | interByteTimeout | frameCompletion | transmitterFree | identityReadEnd
  | headerReadEnd | formatEraseEnd | saveEraseEnd | programEnd | commitEnd | reclaimEraseEnd | tombstoneEnd
  | recallReadEnd | exportReadEnd | characterArrival => cases h
  | _ => rfl

/-- Every command is a run. -/
theorem exec_goes (hG : G → s.Ranged) (i : Instr) : s.Goes G (exec i s) := by
  cases hr : encodeRequest i with
  | some r => rw [exec_eq_runRequest hr]; exact runRequest_goes hG i
  | none =>
    cases i with
    | powerOnReset => exact ⟨_, rfl, .act (.reset 3)⟩
    | frameStart => exact execFrameStart_goes s
    | lineArrival line => exact (execLineArrival_calmly line s).goes
    | frameEnd => exact (execFrameEnd_calmly hG).goes
    | lossTimeout => exact (execLossTimeout_calmly s).goes
    | outputFrameStart => exact execOutputFrameStart_goes hG
    | outputFrameEnd => exact execOutputFrameEnd_goes s
    | intervalExpiry => exact (execIntervalExpiry_calmly hG).goes
    | keySample pressed => exact (execKeySample_calmly hG pressed).goes
    | interByteTimeout => exact execInterByteTimeout_goes s
    | frameCompletion crcLow => exact execFrameCompletion_goes hG crcLow
    | transmitterFree => exact execTransmitterFree_goes hG
    | identityReadEnd size => exact (execIdentityReadEnd_calmly size s).goes
    | headerReadEnd header => exact (execHeaderReadEnd_calmly header s).goes
    | formatEraseEnd success => exact (execFormatEraseEnd_calmly success s).goes
    | saveEraseEnd success => exact (execSaveEraseEnd_calmly success s).goes
    | programEnd success => exact (execProgramEnd_calmly success s).goes
    | commitEnd success => exact (execCommitEnd_calmly success s).goes
    | reclaimEraseEnd success => exact (execReclaimEraseEnd_calmly success s).goes
    | tombstoneEnd success => exact (execTombstoneEnd_calmly success s).goes
    | recallReadEnd read => exact (execRecallReadEnd_calmly read s).goes
    | exportReadEnd data => exact (execExportReadEnd_calmly data s).goes
    | characterArrival c => exact execCharacterArrival_goes hG c
    | _ => cases hr

/-- Every step is a run, from the state with the queue's rest. -/
theorem step_run {s t : State} (h : step s = .next t) :
    ∃ u : State, (∃ rest, u = s.withPending rest) ∧ u.Run s.Ranged t := by
  unfold step at h
  split at h
  · cases h
    exact ⟨s, ⟨s.pending, rfl⟩, .refl s⟩
  · rename_i c rest _
    obtain ⟨t', ht, hr⟩ := exec_goes (G := s.Ranged) (s := s.withPending rest) (fun g => { g with }) c
    rw [ht] at h
    cases h
    exact ⟨_, ⟨rest, rfl⟩, hr⟩

end Sys2Proof.Machine
end

section
/-! The laws of slots, pins, queue, work and ranges are kept by every step. -/

open Sys2Proof Sys2Proof.Machine

/-- Settles O52: every move of a run keeps the slot law. -/
theorem slotLawKept : Obligations.SlotLawKept := by
  intro s t hs h
  obtain ⟨u, ⟨rest, rfl⟩, hr⟩ := step_run h
  exact hr.slotLaw hs

/-- Settles O53: moves leave the scan alone, and each act on the scan leaves pins, jobs and latch in agreement. -/
theorem pinLawKept : Obligations.PinLawKept := by
  intro s t hs h
  obtain ⟨u, ⟨rest, rfl⟩, hr⟩ := step_run h
  exact hr.pinLaw hs

/-- Settles O54: CAPTURE moves with the queue's entries, and the slots that carry it are guarded in every other move. -/
theorem queueLawKept : Obligations.QueueLawKept := by
  intro s t hs h
  obtain ⟨u, ⟨rest, rfl⟩, hr⟩ := step_run h
  exact hr.queueLaw hs

/-- Settles O55: every move of a run keeps the work law. -/
theorem workLawKept : Obligations.WorkLawKept := by
  intro s t hs h
  obtain ⟨u, ⟨rest, rfl⟩, hr⟩ := step_run h
  have hu : (s.withPending rest).Works := (State.workLaw_iff _).mp hs
  exact t.workLaw_iff.mpr (hr.works hu)

/-- Settles O56: every move of a run keeps the ranges but for the pin counts, and those are the scan's, of four panes. -/
theorem rangeLawKept : Obligations.RangeLawKept := by
  intro s t hs hpin h
  obtain ⟨-, hranged⟩ := s.rangeLaw_iff.mp hs
  have hpins := (pinLawKept s t hpin h).1
  obtain ⟨u, ⟨rest, rfl⟩, hr⟩ := step_run h
  refine t.rangeLaw_iff.mpr ⟨fun i => ?_, hr.ranged hranged { hranged with }⟩
  rw [hpins i]
  refine List.countP_le_length.trans ?_
  unfold State.scannedPanes
  split
  · exact (List.length_filterMap_le _ _).trans (by simp)
  · exact Nat.zero_le _

/-- Settles O60: moves leave READY slots their frames, and a slot that is freed does not fill again in the same step. -/
theorem readyImageUnchanged : Obligations.ReadyImageUnchanged := by
  intro s t i _ hw h hready
  obtain ⟨u, ⟨rest, rfl⟩, hr⟩ := step_run h
  have hu : (s.withPending rest).Works := (State.workLaw_iff _).mp hw
  exact hr.readyKept hu i hready
end

section
/-! The reset state: what every block holds after power-on reset, and that every law holds there (R23, R175). -/

namespace Sys2Proof.Machine

/-- The state after reset is what a power-on reset makes of it. -/
theorem State.reset_eq_resetBlocks : State.reset = State.reset.resetBlocks 3 := by
  have hslots : State.reset.slots = State.reset.slots.afterReset := by
    ext i
    rw [Slots.get_afterReset]
    simp only [State.reset, Table.get_fill]
    rfl
  unfold State.resetBlocks
  rw [← hslots]
  rfl

/-- The store after reset knows nothing of its flash, and nothing is under way in it (R160). -/
theorem Store.reset_law : Store.reset.Law := by
  have hmedia : Store.reset.MediaLaw := ⟨nofun, fun _ => ⟨rfl, rfl⟩, rfl, rfl, rfl⟩
  have hscan : Store.reset.ScanLaw := ⟨nofun, .nil⟩
  have hdirectory : Store.reset.DirectoryLaw := ⟨.nil, Nat.zero_le 1, nofun, nofun, .nil⟩
  have hport : Store.reset.PortLaw := by decide
  exact ⟨⟨hmedia, hscan, hdirectory⟩, trivial, hport, nofun⟩

/-- A reset leaves every block lawful, whatever it found (R23, R175). -/
theorem State.resetBlocks_law (s : State) (rate : Fin 4) : (s.resetBlocks rate).Law := by
  have hpins : ∀ i, ((s.resetBlocks rate).slots.get i).pins ≤ 4 := fun i => by
    rw [State.resetBlocks_slots]; exact Nat.zero_le 4
  exact ⟨s.slots.afterReset_law, s.resetBlocks_pinLaw rate, s.resetBlocks_queueLaw rate,
    (State.workLaw_iff _).mpr (s.resetBlocks_works rate),
    (State.rangeLaw_iff _).mpr ⟨hpins, s.resetBlocks_ranged rate⟩, Store.reset_law, rfl⟩

end Sys2Proof.Machine
end

section
/-! The power-on reset and the laws at reset. -/

open Sys2Proof Sys2Proof.Machine

/-- Settles O6, block by block; the slots keep their image bytes. -/
theorem powerOnResetState : Obligations.PowerOnResetState := by
  intro s
  have hslots := s.resetBlocks_slots 3
  have hwire := fun clock => Link.wireLevel_idle (l := (s.resetBlocks 3).link) rfl clock
  have htiles := Table.get_fill (n := 192) (⟨none, 0, .still⟩ : Tile)
  have hviews := Table.get_fill (n := 4) Window.default
  exact ⟨s.resetBlocks 3, rfl, hslots, rfl, ⟨rfl, rfl, rfl, rfl, htiles⟩, hviews, ⟨rfl, rfl⟩,
    ⟨rfl, rfl, rfl, rfl, rfl, rfl, rfl, rfl, rfl⟩, rfl, rfl, rfl, rfl, hwire, rfl, rfl, rfl⟩

/-- Settles O51: the reset state is a state after power-on reset, and there every law holds. -/
theorem lawsHoldAtReset : Obligations.LawsHoldAtReset := by
  unfold Obligations.LawsHoldAtReset
  rw [State.reset_eq_resetBlocks]
  exact State.resetBlocks_law _ _

end

section
/-! FREEZE and UNFREEZE (R20, R21): the slot a tag stands on, and a tag taken off slots that obey the slot law. -/

namespace Sys2Proof.Machine

/-- A tag that stands on one slot is found there (R4). -/
theorem Slots.carrier_of_single {t : Slots} {tag : Tag} {i : Fin 12} (h : t.Single tag)
    (hc : (t.get i).carries tag = true) : t.carrier tag = some i := by
  cases hf : t.carrier tag with
  | none => exact absurd (Table.lowest_eq_none.mp hf i) (by simp [hc])
  | some j => rw [h i j hc (Slots.carrier_carries hf)]

/-- Where a slot's phase agrees with what holds it, one that loses its last tag is freed without asking for its phase. -/
theorem Slot.Held.withoutTag_eq {x : Slot} (h : x.Held) (tag : Tag) :
    x.withoutTag tag =
      if x.carries tag then
        if x.tags.put tag false = TagSet.empty ∧ x.pins = 0 then
          Slot.freed { x with tags := x.tags.put tag false }
        else { x with tags := x.tags.put tag false }
      else x := by
  unfold Slot.withoutTag
  split
  · rename_i hc
    simp only [Slot.reclaimed, h.ready hc, true_and]
  · rfl

/-- The freeze tag of a byte that names one (R189). -/
theorem freezeTag_of_named {b : Byte} (h : b = 0 ∨ b = 1) :
    freezeTag b = some (if b = 0 then .freezeA else .freezeB) := by
  rcases h with rfl | rfl <;> rfl

theorem freezeTag_of_unnamed {b : Byte} (h0 : b ≠ 0) (h1 : b ≠ 1) : freezeTag b = none := by
  rw [freezeTag, if_neg h0, if_neg h1]

/-- The source tag of a byte that names one (R189). -/
theorem freezeSource_of_named {b : Byte} (h : b = 0 ∨ b = 1) :
    freezeSource b = some (if b = 0 then .live else .settled) := by
  rcases h with rfl | rfl <;> rfl

theorem freezeSource_of_unnamed {b : Byte} (h0 : b ≠ 0) (h1 : b ≠ 1) : freezeSource b = none := by
  rw [freezeSource, if_neg h0, if_neg h1]

/-- FREEZE refuses a tag or a source that is none (R20). -/
theorem freezeStep_unnamed {which source : Byte} (h : freezeTag which = none ∨ freezeSource source = none)
    (s : State) : freezeStep which source s = (s, Answer.refused .noSuchTag) := by
  unfold freezeStep
  rcases h with h | h <;> rw [h]
  cases freezeTag which <;> rfl

/-- FREEZE from a source tag that stands nowhere is refused (R20). -/
theorem freezeStep_noFrame {which source : Byte} {tag from_ : Tag} {s : State} (ht : freezeTag which = some tag)
    (hs : freezeSource source = some from_) (h : s.slots.carrier from_ = none) :
    freezeStep which source s = (s, Answer.refused .noFrame) := by
  simp only [freezeStep, ht, hs, h]

/-- FREEZE moves its tag to the source tag's slot (R20). -/
theorem freezeStep_moves {which source : Byte} {tag from_ : Tag} {s : State} {i : Fin 12}
    (ht : freezeTag which = some tag) (hs : freezeSource source = some from_) (h : s.slots.carrier from_ = some i) :
    freezeStep which source s =
      (s.withSlots (s.slots.moveTag tag i), Answer.ok ([lowByte i.val] ++ originBytes (s.slots.get i).origin)) := by
  simp only [freezeStep, ht, hs, h]

end Sys2Proof.Machine
end

section
/-! FREEZE and UNFREEZE. -/

open Sys2Proof Sys2Proof.Machine

/-- Settles O16: the two requests answer at once, and under the slot law a slot that carries a tag is READY, so that
one that loses its last tag is freed. -/
theorem freezeAndUnfreezeMoveOneTag : Obligations.FreezeAndUnfreezeMoveOneTag := by
  intro cmd which source s hfree hlaw freeze from_ lost answer answerUn
  obtain ⟨hheld, -, -, hsingle⟩ := Slots.law_iff.mp hlaw
  have hlost : ∀ j, lost (s.slots.get j) = (s.slots.get j).withoutTag freeze := fun j =>
    ((hheld j).withoutTag_eq freeze).symm
  have hexec : exec (.freeze cmd which source) s = _ :=
    respond_eq (i := .freeze cmd which source) rfl hfree.1 (freezeStep which source)
  have hexecUn : exec (.unfreeze cmd which) s = _ :=
    respond_eq (i := .unfreeze cmd which) rfl hfree.1 (unfreezeStep which)
  have hsource : s.slots.Single from_ := by
    apply hsingle
    unfold from_
    split <;> decide
  refine ⟨fun hnone => ?_, fun hw hsrc => ⟨fun habsent => ?_, fun i hi => ?_⟩, fun h0 h1 => ?_, fun hw => ?_⟩
  · rw [hexec, freezeStep_unnamed]
    · rfl
    · exact hnone.imp (fun h => freezeTag_of_unnamed h.1 h.2) fun h => freezeSource_of_unnamed h.1 h.2
  · rw [hexec, freezeStep_noFrame (freezeTag_of_named hw) (freezeSource_of_named hsrc)
      (Table.lowest_eq_none.mpr habsent)]
    rfl
  · rw [hexec, freezeStep_moves (freezeTag_of_named hw) (freezeSource_of_named hsrc)
      (Slots.carrier_of_single hsource hi)]
    have hslots : s.slots.moveTag freeze i =
        s.slots.mapIdx fun j x => if j = i then { x with tags := x.tags.put freeze true } else lost x := by
      ext j
      rw [Slots.get_moveTag, Table.get_mapIdx, hlost]
      rfl
    rw [← hslots]
    rfl
  · rw [hexecUn, unfreezeStep, freezeTag_of_unnamed h0 h1]
    rfl
  · rw [hexecUn, unfreezeStep, freezeTag_of_named hw]
    have hslots : s.slots.dropTag freeze = s.slots.map lost := by
      ext j
      rw [Slots.get_dropTag, Table.get_map, hlost]
    rw [← hslots]
    rfl

end

section
/-! Sensor intake's events as equations: a frame start (R27, R28) and a line (R29). -/

namespace Sys2Proof.Machine

variable {s : State}

/-- The frame record with which a frame begins (R27). -/
def Intake.newFrame (i : Intake) (slot : Option (Fin 12)) : CurrentFrame :=
  ⟨i.counter + 1, slot, 0, false, i.area, Sums.zero⟩

/-- A frame that finds a FREE slot fills the lowest (R6, R27). -/
theorem State.beginFrame_fills {i : Fin 12} (h : s.slots.abandonFilling.lowestFree = some i) :
    s.beginFrame =
      (s.withSlots (s.slots.abandonFilling.set i
        ((s.slots.abandonFilling.get i).allocated .filling (.sensor (s.intake.counter + 1))))).withIntake
        { s.intake with
          state := .filling, counter := s.intake.counter + 1, lossTimer := .stopped
          current := some (s.intake.newFrame (some i)) } := by
  simp only [State.beginFrame, Slots.allocateFilling, h]
  rfl

/-- A frame that finds no FREE slot is dropped (R6, R27). -/
theorem State.beginFrame_drops (h : s.slots.abandonFilling.lowestFree = none) :
    s.beginFrame =
      ((s.withSlots s.slots.abandonFilling).withIntake
        { s.intake with
          state := .dropping, counter := s.intake.counter + 1, lossTimer := .stopped
          current := some (s.intake.newFrame none)
          drops := min (s.intake.drops + 1) 65535 }).recordError
        .intake .frameDropped (s.intake.counter + 1).toNat := by
  simp only [State.beginFrame, Slots.allocateFilling, h]
  rfl

/-- The first line of a wrong length damages the frame (R29). -/
theorem State.takeLine_damages {f : CurrentFrame} {line : List Byte} (hl : line.length ≠ 5184)
    (hd : f.damaged = false) :
    s.takeLine f line =
      (s.withIntake { s.intake with
        current := some { f with lines := f.lines + 1, damaged := true } }).recordError .intake .lineLength f.lines := by
  have hne : line.length ≠ Config.lineBytes := hl
  simp only [State.takeLine, if_pos hne, hd]
  rfl

/-- A line of a damaged frame, and a whole line past the last row, are counted alone (R29). -/
theorem State.takeLine_counts {f : CurrentFrame} {line : List Byte}
    (h : f.damaged = true ∨ (line.length = 5184 ∧ 1944 ≤ f.lines)) :
    s.takeLine f line = s.withIntake { s.intake with current := some { f with lines := f.lines + 1 } } := by
  by_cases hl : line.length = Config.lineBytes
  · have hpast : f.damaged = true ∨ Config.frameHeight ≤ f.lines := h.imp_right And.right
    simp only [State.takeLine, hl, ne_eq, not_true, if_false, if_pos hpast]
  · have hd : f.damaged = true := h.resolve_right fun e => hl e.1
    simp only [State.takeLine, ne_eq, hl, not_false_iff, if_true, hd]

/-- A whole line of an undamaged frame is written at its row and summed (R29). -/
theorem State.takeLine_writes {f : CurrentFrame} {line : List Byte} {i : Fin 12} (hi : f.slot = some i)
    (hl : line.length = 5184) (hd : f.damaged = false) (hlt : f.lines < 1944) :
    s.takeLine f line =
      let image := Image.writeRow (s.slots.get i).image f.lines line
      (s.withSlots (s.slots.set i { s.slots.get i with image := image })).withIntake
        { s.intake with
          current := some { f with
            lines := f.lines + 1, sums := f.sums.addLine f.area (imageLuma i.val image) f.lines line } } := by
  have hline : line.length = Config.lineBytes := hl
  have hgood : ¬(f.damaged = true ∨ Config.frameHeight ≤ f.lines) := by
    rw [hd]; exact not_or.mpr ⟨Bool.false_ne_true, Nat.not_le.mpr hlt⟩
  simp only [State.takeLine, hline, ne_eq, not_true, if_false, if_neg hgood, hi]

end Sys2Proof.Machine
end

section
/-! A frame start and a line. -/

open Sys2Proof Sys2Proof.Machine

/-- Settles O18: past what the intake state asks for, a frame start is one allocation, of the lowest slot that is FREE once
the FILLING slot is. -/
theorem frameStartTakesLowestFreeSlot : Obligations.FrameStartTakesLowestFreeSlot := by
  intro s n closed slots frame
  have hframe : ∀ slot, s.intake.newFrame slot = frame slot := fun _ => rfl
  have hslots : s.slots.abandonFilling = slots := rfl
  have hclosed : closed.slots = s.slots ∧ closed.intake = s.intake ∧
      (s.intake.state ≠ .disabled → exec .frameStart s = .next closed.beginFrame.transmit) := by
    show _ ∧ _ ∧ (_ → execFrameStart s = _)
    unfold closed execFrameStart State.closeUnfinished
    cases hstate : s.intake.state with
    | disabled => exact ⟨rfl, rfl, fun h => absurd rfl h⟩
    | waiting => exact ⟨rfl, rfl, fun _ => rfl⟩
    | lost => exact ⟨rfl, rfl, fun _ => rfl⟩
    | dropping => exact ⟨rfl, rfl, fun _ => rfl⟩
    | filling =>
      cases s.intake.current with
      | none => exact ⟨rfl, rfl, fun _ => by rw [State.abandonFrame_beginFrame]; rfl⟩
      | some f =>
        simp only [State.abandonFrame_beginFrame]
        split
        · exact ⟨rfl, rfl, fun _ => rfl⟩
        · exact ⟨State.recordError_slots .., State.recordError_intake .., fun _ => rfl⟩
  obtain ⟨hs, hi, hexec⟩ := hclosed
  refine ⟨fun hd => ?_, fun hd => ⟨fun i hfree hlow => ?_, fun hnone => ?_⟩⟩
  · show execFrameStart s = _
    simp only [execFrameStart, hd, ignored]
  · have hl : closed.slots.abandonFilling.lowestFree = some i := by
      rw [hs, hslots]
      exact Table.lowest_eq_of (by simp [hfree]) fun j hj => by simpa using hlow j hj
    rw [hexec hd, State.beginFrame_fills hl, hs, hi, hslots, hframe]
    rfl
  · have hl : closed.slots.abandonFilling.lowestFree = none := by
      rw [hs, hslots]
      exact Table.lowest_eq_none.mpr fun j => by simpa using hnone j
    rw [hexec hd, State.beginFrame_drops hl, hs, hi, hslots, hframe]
    rfl

/-- Settles O19, by the three things a line can do to the frame that fills. -/
theorem lineArrivalCountsChecksWrites : Obligations.LineArrivalCountsChecksWrites := by
  intro line s
  show (_ → execLineArrival line s = _) ∧ _
  refine ⟨fun hs => ?_, fun f hs hc => ?_⟩
  · unfold execLineArrival
    split
    · exact absurd (by assumption) hs
    · rfl
  · have hexec : exec (.lineArrival line) s = .next (s.takeLine f line).transmit := by
      show execLineArrival line s = _
      simp only [execLineArrival, hs, hc, finish]
    intro counted holding
    rw [hexec]
    refine ⟨fun hl hd => ?_, fun h => ?_, fun i hi hl hd hlt => ?_⟩
    · rw [State.takeLine_damages hl hd]
      rfl
    · rw [State.takeLine_counts h]
      rfl
    · rw [State.takeLine_writes hi hl hd hlt]
      rfl

end

section
/-! SUPPORT. Nothing a capture does reads the intake's record (R121 to R126): a change of the record may come before it or
after. -/

namespace Sys2Proof.Machine

variable (s : State) (x : Intake)

theorem State.leaveQueue_withIntake : (s.withIntake x).leaveQueue = s.leaveQueue.withIntake x := by
  unfold State.leaveQueue
  rw [State.withIntake_store]
  cases s.store.queue <;> rfl

theorem State.dropFull_withIntake : (s.withIntake x).dropFull = s.dropFull.withIntake x := by
  unfold State.dropFull
  rw [State.withIntake_store, State.leaveQueue_withIntake]
  cases s.store.queue <;> rfl

theorem State.chooseCell_withIntake (tries : Nat) :
    (s.withIntake x).chooseCell tries = (s.chooseCell tries).withIntake x := by
  unfold State.chooseCell
  rw [State.withIntake_store, State.dropFull_withIntake]
  split
  · rfl
  · cases s.store.lowestCell .erased with
    | some c => rfl
    | none => cases s.store.lowestCell .dead <;> rfl

theorem beginSaves_withIntake (n : Nat) (s : State) (x : Intake) :
    beginSaves n (s.withIntake x) = (beginSaves n s).withIntake x := by
  induction n generalizing s with
  | zero => rfl
  | succ n ih =>
    unfold beginSaves
    rw [State.withIntake_store, State.chooseCell_withIntake, ih]
    split <;> rfl

theorem State.runWriter_withIntake : (s.withIntake x).runWriter = s.runWriter.withIntake x := by
  unfold State.runWriter
  rw [State.withIntake_store, beginSaves_withIntake]
  rfl

theorem State.jointCapture_withIntake (r : CaptureRead) (frame : Word) (focus : Nat) :
    ((s.withIntake x).jointCapture r frame focus).1 = (s.jointCapture r frame focus).1.withIntake x := by
  unfold State.jointCapture
  rw [State.withIntake_store, State.withIntake_slots]
  cases s.store.openLesson with
  | none => rfl
  | some l =>
    dsimp only
    split
    · rfl
    · split
      · rfl
      · split
        · rfl
        · split
          · rfl
          · rename_i slots i _
            exact congrArg State.arbitratePort (State.runWriter_withIntake (State.takenCapture
              ((s.withSlots slots).withStore (s.store.append (r.entry frame focus i l))) r.source frame i l.id l.next
              false).1 x)

theorem State.completeCapture_withIntake (r : CaptureRead) :
    ((s.withIntake x).completeCapture r).1 = (s.completeCapture r).1.withIntake x := by
  unfold State.completeCapture
  cases r.named with
  | none => rfl
  | some p =>
    dsimp only
    rw [State.withIntake_capture]
    split
    · rfl
    · exact s.jointCapture_withIntake x r p.1 p.2

theorem State.trigger_withIntake (src : Trigger) (named : Option (Word × Nat)) :
    (s.withIntake x).trigger src named = (s.trigger src named).withIntake x := by
  unfold State.trigger
  rw [State.withIntake_capture]
  split
  · exact s.completeCapture_withIntake x _
  · rfl

theorem State.settle_withIntake (frame : Word) (focus : Nat) :
    (s.withIntake x).settle frame focus = (s.settle frame focus).withIntake x :=
  State.trigger_withIntake ((s.withSlots (s.slots.moveSettled frame)).raise (.pageSettled frame focus)) x .settle _

end Sys2Proof.Machine
end

section
/-! A good frame's end as an equation: its slot completed, the overtaken capture ended, and what is handed on (R31). -/

namespace Sys2Proof.Machine

variable {s : State}

/-- The state in which a good frame's sample takes effect: the holdoff counted, the watch's next state, the statistics
record with the watch's answer (R31). -/
def State.sampledBy (v : State) (f : CurrentFrame) : State :=
  let w := (v.watch.sample f.sums.tileMeans).1
  ((v.withCapture v.capture.goodFrame).withWatch w).withIntake
    { v.intake with stats := ⟨f.number, f.sums.meanLuma, f.sums.focusMeasure f.area, w.answer, true⟩ }

/-- The effects of the watch's event at the end of frame `f` (R51, R52). -/
def State.applyEvent (v : State) (f : CurrentFrame) : Option PageEvent → State
  | none => v
  | some (.disturb count) => v.disturb f.number count
  | some .settle => v.settle f.number (f.sums.focusMeasure f.area)

theorem State.applyEvent_withIntake (v : State) (f : CurrentFrame) (event : Option PageEvent) (x : Intake) :
    (v.withIntake x).applyEvent f event = (v.applyEvent f event).withIntake x := by
  rcases event with _ | (count | _)
  · rfl
  · rfl
  · exact v.settle_withIntake x _ _

/-- The watch's event leaves the watch and intake as they are. -/
theorem State.applyEvent_frame (v : State) (f : CurrentFrame) (event : Option PageEvent) :
    (v.applyEvent f event).watch = v.watch ∧ (v.applyEvent f event).intake = v.intake := by
  rcases event with _ | (count | _)
  · exact ⟨rfl, rfl⟩
  · exact ⟨rfl, rfl⟩
  · obtain ⟨slots, capture, store, notices, h⟩ := State.trigger_frame
      ((v.withSlots (v.slots.moveSettled f.number)).raise (.pageSettled f.number (f.sums.focusMeasure f.area)))
      .settle (some (f.number, f.sums.focusMeasure f.area))
    have hsettle : v.applyEvent f (some .settle) = _ := h
    rw [hsettle]
    exact ⟨rfl, rfl⟩

/-- What a frame's end hands on may be told with the statistics record written first (R31). -/
theorem State.handOn_eq (s : State) (f : CurrentFrame) (begun : Option BegunCapture) :
    s.handOn f begun =
      ((s.endCapture begun).sampledBy f).applyEvent f ((s.endCapture begun).watch.sample f.sums.tileMeans).2 := by
  unfold State.handOn State.sampledBy
  generalize s.endCapture begun = v
  rw [State.applyEvent_withIntake]
  have hsample : (v.withCapture v.capture.goodFrame).takeSample f.number (f.sums.focusMeasure f.area)
      f.sums.tileMeans = ((v.withCapture v.capture.goodFrame).withWatch
        (v.watch.sample f.sums.tileMeans).1).applyEvent f (v.watch.sample f.sums.tileMeans).2 := by
    unfold State.takeSample
    rw [State.withCapture_watch]
    rcases v.watch.sample f.sums.tileMeans with ⟨w, _ | (count | _)⟩ <;> rfl
  dsimp only
  rw [hsample]
  obtain ⟨hwatch, hintake⟩ := State.applyEvent_frame
    ((v.withCapture v.capture.goodFrame).withWatch (v.watch.sample f.sums.tileMeans).1) f
    (v.watch.sample f.sums.tileMeans).2
  rw [hwatch, hintake]
  rfl

/-- The frame at whose end the part stands is good (R30). -/
theorem Intake.endingGood_of {i : Intake} {f : CurrentFrame} (hs : i.state = .filling) (hc : i.current = some f)
    (hd : f.damaged = false) (hl : f.lines = 1944) : i.endingGood = some f := by
  simp only [Intake.endingGood, hs, hc]
  exact if_pos ⟨hd, hl⟩

/-- The slot completed and intake between frames (R10, R30, R31). -/
def State.completeSlot (s : State) (i : Fin 12) (focus : Nat) : State :=
  (s.withSlots (s.slots.completeFilling i focus)).withIntake s.intake.betweenFrames

/-- The end of a good frame (R31). -/
theorem execFrameEnd_good {f : CurrentFrame} {i : Fin 12} (hg : s.intake.endingGood = some f) (hi : f.slot = some i) :
    execFrameEnd s =
      .next ((s.beginOvertaken.1.completeSlot i (f.sums.focusMeasure f.area)).handOn f
        s.beginOvertaken.2).transmit := by
  unfold execFrameEnd
  rw [hg]
  dsimp only
  rw [State.endGood_some hi]
  rfl

end Sys2Proof.Machine
end

section
/-! A good frame's end: the slot it completes, the slot SETTLED moves to, and the overtaken capture (R10, R13, R124). -/

namespace Sys2Proof.Machine

variable {s : State}

/-- The slots after a completion, one by one (R10). -/
theorem Slots.completeFilling_eq (t : Slots) (i : Fin 12) (focus : Nat) :
    t.completeFilling i focus = t.mapIdx fun j x =>
      if j = i then Slot.withTag { x with phase := .ready, focus := some focus } .live else x.withoutTag .live := by
  ext j
  rw [Slots.completeFilling, Slots.get_completed, Table.get_mapIdx]
  split
  · rename_i h; rw [h]
  · rfl

/-- SETTLED moves to the lowest READY slot that holds the frame (R13). -/
theorem Slots.moveSettled_some {t : Slots} {frame : Word} {k : Fin 12}
    (hk : (t.get k).phase = .ready ∧ (t.get k).origin = some (.sensor frame))
    (hlow : ∀ j < k, ¬((t.get j).phase = .ready ∧ (t.get j).origin = some (.sensor frame))) :
    t.moveSettled frame = t.moveTag .settled k := by
  have hfind : t.findFrame frame = some k :=
    Table.lowest_eq_of (by simpa using hk) fun j hj => by simpa using hlow j hj
  rw [Slots.moveSettled, hfind]

/-- SETTLED stays where no READY slot holds the frame (R13). -/
theorem Slots.moveSettled_none {t : Slots} {frame : Word}
    (h : ∀ k, ¬((t.get k).phase = .ready ∧ (t.get k).origin = some (.sensor frame))) : t.moveSettled frame = t := by
  have hfind : t.findFrame frame = none := Table.lowest_eq_none.mpr fun k => by simpa using h k
  rw [Slots.moveSettled, hfind]

/-- The capture that a frame end overtakes leaves the slots, intake and the watch as they are when it begins (R124). -/
theorem State.beginOvertaken_keeps (s : State) :
    s.beginOvertaken.1.slots = s.slots ∧ s.beginOvertaken.1.intake = s.intake ∧
      s.beginOvertaken.1.watch = s.watch := by
  obtain ⟨capture, link, errors, notices, schedule, h⟩ := s.beginOvertaken_frame
  rw [h]
  exact ⟨rfl, rfl, rfl⟩

/-- The capture that a frame end overtakes leaves the watch as it is when it ends (R124). -/
theorem State.endCapture_watch (s : State) (begun : Option BegunCapture) : (s.endCapture begun).watch = s.watch := by
  obtain ⟨slots, capture, store, notices, link, h⟩ := s.endCapture_frame begun
  rw [h]

/-- The schedule gives this frame end no capture to overtake; its entry is used up (R124). -/
theorem State.beginOvertaken_skip {rest : List (Option EarlyCapture)} (h : s.schedule.overtaken = none :: rest) :
    s.beginOvertaken = (s.withSchedule { s.schedule with overtaken := rest }, none) := by
  simp only [State.beginOvertaken, h]

/-- The capture that the schedule gives this frame end begins (R124). -/
theorem State.beginOvertaken_early {e : EarlyCapture} {rest : List (Option EarlyCapture)}
    (h : s.schedule.overtaken = some e :: rest) :
    s.beginOvertaken = (s.withSchedule { s.schedule with overtaken := rest }).beginEarly e := by
  simp only [State.beginOvertaken, h]

end Sys2Proof.Machine
end

section
/-! A good frame end. -/

open Sys2Proof Sys2Proof.Machine

/-- Settles O20: the frame's slot is completed, the overtaken capture ends, and the watch's event is applied to the state
in which all else of the sample is written already. -/
theorem goodFrameEndHandsOn : Obligations.GoodFrameEndHandsOn := by
  intro s f i hstate hcurrent hslot hdamaged hlines fm means w event answer lost completed left v hv
  have hcompleted : ∀ u : State, u.intake = s.intake → completed u = u.completeSlot i fm := by
    intro u hu
    unfold State.completeSlot
    rw [Slots.completeFilling_eq, hu]
    rfl
  have hovertaken : v = (s.beginOvertaken.1.completeSlot i fm).endCapture s.beginOvertaken.2 := by
    rw [← hcompleted _ s.beginOvertaken_keeps.2.1]
    rcases hv with ⟨hnil, rfl⟩ | ⟨rest, hnone, rfl⟩ | ⟨e, rest, hsome, rfl⟩
    · rw [State.beginOvertaken_nil hnil]; rfl
    · rw [State.beginOvertaken_skip hnone]; rfl
    · rw [State.beginOvertaken_early hsome]; rfl
  have hwatch : v.watch = s.watch := by
    rw [hovertaken, State.endCapture_watch]
    exact s.beginOvertaken_keeps.2.2
  intro sampled holds settled
  have hsampled : v.sampledBy f = sampled := by
    unfold State.sampledBy
    rw [hwatch]
    rfl
  have hexec : exec .frameEnd s = .next (sampled.applyEvent f event).transmit := by
    have hfm : f.sums.focusMeasure f.area = fm := rfl
    show execFrameEnd s = _
    rw [execFrameEnd_good (Intake.endingGood_of hstate hcurrent hdamaged hlines) hslot, State.handOn_eq, hfm,
      ← hovertaken, hsampled, hwatch]
    rfl
  have hslots : sampled.slots = v.slots := rfl
  rw [hexec]
  refine ⟨fun hnone => ?_, fun count hdisturb => ?_, fun hsettle => ⟨fun hno => ?_, fun k hk hlow => ?_⟩⟩
  · rw [hnone]; rfl
  · rw [hdisturb]; rfl
  · rw [hsettle]
    show Host.Outcome.next (sampled.settle f.number fm).transmit = _
    rw [State.settle, hslots, Slots.moveSettled_none hno]
    rfl
  · rw [hsettle]
    show Host.Outcome.next (sampled.settle f.number fm).transmit = _
    rw [State.settle, hslots, Slots.moveSettled_some hk hlow]
    rfl

end

section
/-! The bytes that go to the flash device, and a cell's erase blocks (R9, R133, R135). -/

namespace Sys2Proof.Machine

/-- Bytes are programmed in rising order, each at its place (R149). -/
theorem programOps_eq (first : Nat) (bytes : List Byte) :
    programOps first bytes = (List.range bytes.length).map fun k => .program (first + k) (bytes.getD k 0) := by
  unfold programOps
  refine List.ext_getElem (by simp) fun k h1 h2 => ?_
  have hk : k < bytes.length := by simpa using h2
  simp [hk]

/-- An image starts at byte 4096 of its cell (R133). -/
theorem imagePlace_zero (cell : Nat) : imagePlace cell 0 = cell * 16777216 + 4096 := by
  rw [imagePlace_eq, cellPlace, Config.cellBytes]

/-- A row that the writer reads is the row as it is stored (R9). -/
theorem imageByte_row {img : Image} {row : Nat} (hr : row < img.length) (slot : Nat) :
    (List.range img[row].length).map (fun off => imageByte slot img row off) = img[row] := by
  refine List.ext_getElem (by simp) fun k h1 h2 => ?_
  simp [imageByte, hr, h2]

/-- The writer reads a whole image as its bytes stand, row by row (R9, R24, R133). -/
theorem Slot.imageBytes_of_whole {x : Slot} (h : wholeImage x.image = true) (slot : Nat) :
    x.imageBytes slot = x.image.flatten := by
  obtain ⟨hrows, hwide⟩ : x.image.length = Config.frameHeight ∧
      ∀ row ∈ x.image, row.length = Config.lineBytes := by
    simpa [wholeImage] using h
  have hread : (List.range x.image.length).map (fun row => (List.range Config.lineBytes).map fun off =>
      imageByte slot x.image row off) = x.image := by
    refine List.ext_getElem (by simp) fun k h1 h2 => ?_
    have hrow : x.image[k].length = Config.lineBytes := hwide _ (List.getElem_mem h2)
    simp only [List.getElem_map, List.getElem_range]
    rw [← hrow]
    exact imageByte_row h2 slot
  unfold Slot.imageBytes
  rw [← hrows, List.flatMap_def, hread]

/-! ### Erase blocks -/

/-- The size of an erase block divides that of a cell (R135; notes/assumptions/25.md). -/
theorem eraseBlockBytes_dvd : Config.eraseBlockBytes ∣ 16777216 :=
  Nat.pow_dvd_pow 2 (Nat.le_of_lt_succ Config.eraseBlockLog.isLt)

theorem eraseBlockBytes_pos : 0 < Config.eraseBlockBytes := Nat.two_pow_pos _

/-- The starts of a cell's blocks rise strictly. -/
theorem blockStarts_rising {b : Nat} (hb : 0 < b) : (blockStarts b).Pairwise (· < ·) :=
  List.pairwise_map.mpr (List.pairwise_lt_range.imp fun h => Nat.mul_lt_mul_of_pos_right h hb)

/-- A start is a multiple of the block's size, and its block ends within the cell. -/
theorem mem_blockStarts {b first : Nat} (hb : 0 < b) (hd : b ∣ 16777216) :
    first ∈ blockStarts b ↔ b ∣ first ∧ first + b ≤ 16777216 := by
  obtain ⟨n, hn⟩ := hd
  have hcount : Config.cellBytes / b = n := by
    rw [Config.cellBytes, hn, Nat.mul_div_cancel_left n hb]
  rw [blockStarts, hcount, hn]
  simp only [List.mem_map, List.mem_range]
  constructor
  · rintro ⟨k, hk, rfl⟩
    refine ⟨Nat.dvd_mul_left b k, ?_⟩
    calc k * b + b = b * (k + 1) := by ring
      _ ≤ b * n := Nat.mul_le_mul_left b hk
  · rintro ⟨⟨k, rfl⟩, hk⟩
    exact ⟨k, Nat.lt_of_succ_le (Nat.le_of_mul_le_mul_left (by rw [Nat.mul_succ]; exact hk) hb), Nat.mul_comm k b⟩

/-- Every byte of a cell lies in the block that starts at the multiple of the size at or below it. -/
theorem blockStarts_covers {b place : Nat} (hb : 0 < b) (hd : b ∣ 16777216) (hp : place < 16777216) :
    ∃ first ∈ blockStarts b, first ≤ place ∧ place < first + b := by
  refine ⟨b * (place / b), (mem_blockStarts hb hd).mpr ⟨Nat.dvd_mul_right _ _, ?_⟩, Nat.mul_div_le place b,
    Nat.lt_mul_div_succ place hb⟩
  obtain ⟨n, hn⟩ := hd
  have hblock : place / b < n := Nat.div_lt_of_lt_mul (hn ▸ hp)
  rw [hn]
  exact Nat.mul_le_mul_left b hblock

/-- The lowest block starts at byte 0, where the header area is. -/
theorem blockStarts_head {b : Nat} (hb : 0 < b) (hd : b ∣ 16777216) : (blockStarts b).head? = some 0 := by
  obtain ⟨n, hn⟩ : ∃ n, Config.cellBytes / b = n + 1 :=
    Nat.exists_eq_succ_of_ne_zero (Nat.div_pos (Nat.le_of_dvd (by decide) hd) hb).ne'
  rw [blockStarts, hn, List.range_succ_eq_map]
  simp

/-! ### The program in hand -/

/-- What the writer programs into the cell's header area is the head entry's header under the stamp that the attempt
took (R149). -/
theorem Store.writerHeader_of_programming {s : Store} {cell : Nat} {a : Attempt} {e : SaveEntry}
    {rest : List SaveEntry} {n : Word} {l : Lesson} (hfly : s.port.inFlight = some (.saveProgram cell))
    (hready : s.state = .ready) (hlaw : s.WriterLaw) (ha : s.attempt = some a) (hq : s.queue = e :: rest)
    (hn : a.stamp = some n) (hl : l ∈ s.directory) (hid : l.id = e.lesson)
    (hnodup : (s.directory.map (·.id)).Nodup) : s.writerHeader = programHeader e n l.title := by
  have htitle : s.titleOf e.lesson = l.title := by
    rw [Store.titleOf, find_by_key hnodup hl hid]
    rfl
  have hstep : PortStep.saveProgram cell ∈ s.port.writerSteps := by
    simp [Port.writerSteps, Port.steps, hfly, PortStep.rank]
  obtain ⟨hagrees, -⟩ := hlaw hready
  unfold Store.WriterAgrees at hagrees
  rw [ha] at hagrees
  cases hw : s.writer with
  | idle => rw [hw] at hagrees; exact hagrees.elim
  | reclaim => rw [hw] at hagrees; exact hagrees.elim
  | erase =>
    rw [hw] at hagrees
    obtain ⟨hsteps, -⟩ := hagrees
    rw [hsteps] at hstep
    simp at hstep
  | commit =>
    rw [hw] at hagrees
    obtain ⟨hsteps, -⟩ := hagrees
    rw [hsteps] at hstep
    simp at hstep
  | program =>
    rw [hw] at hagrees
    obtain ⟨hsteps, -, hprogram⟩ := hagrees
    rw [hsteps] at hstep
    obtain rfl : cell = a.cell := by simpa using hstep
    have hheader : a.header = programHeader e n (s.titleOf e.lesson) := by
      unfold Store.ProgramLaw at hprogram
      rw [hq] at hprogram
      simpa [hfly, hn] using hprogram
    rw [Store.writerHeader, ha, ← htitle, ← hheader]
    rfl

end Sys2Proof.Machine
end

section
/-! The traffic at the flash device. -/

open Sys2Proof Sys2Proof.Machine

/-- Settles O47, step by step of the port. -/
theorem flashTraffic : Obligations.FlashTraffic := by
  intro s flying start written b
  have hops : ∀ x, flying x → s.flashOps = s.stepOps x := fun x hx => by
    unfold State.flashOps
    rw [hx]
  refine ⟨fun hfree => ?_, fun cell a e rest l n img hfly hready hlaw ha hq hn hl hid hnodup himg hwhole => ?_,
    fun cell hfly => ?_, fun id ordinal cell tag hfly => ?_, fun cell hfly => ?_, fun hfly => ?_, fun cell hfly => ?_,
    fun cell hfly => ?_, fun tag cell offset length adjusted hfly => ?_⟩
  · unfold State.flashOps
    rw [hfree]
  · have himage : s.writerImage = img.flatten := by
      unfold State.writerImage
      rw [hq]
      dsimp only
      rw [Slot.imageBytes_of_whole (by rw [himg]; exact hwhole), himg]
    rw [hops _ hfly, State.stepOps, himage, imagePlace_zero, cellPlace_zero,
      Store.writerHeader_of_programming hfly hready hlaw ha hq hn hl hid hnodup, programOps_eq, programOps_eq]
  · rw [hops _ hfly]; rfl
  · rw [hops _ hfly]; rfl
  · have herase : s.flashOps = eraseOps cell := by
      rcases hfly with h | h | h <;> rw [hops _ h] <;> rfl
    refine ⟨(blockStarts b).reverse, herase, List.pairwise_reverse.mpr (blockStarts_rising eraseBlockBytes_pos), ?_,
      fun first hf => ?_, fun place hp => ?_⟩
    · rw [List.getLast?_reverse, blockStarts_head eraseBlockBytes_pos eraseBlockBytes_dvd]
    · exact (mem_blockStarts eraseBlockBytes_pos eraseBlockBytes_dvd).mp (List.mem_reverse.mp hf)
    · obtain ⟨first, hf, hle, hlt⟩ := blockStarts_covers eraseBlockBytes_pos eraseBlockBytes_dvd hp
      exact ⟨first, List.mem_reverse.mpr hf, hle, hlt⟩
  · rw [hops _ hfly]; rfl
  · rw [hops _ hfly, State.stepOps, cellPlace_zero, Config.imageOffset]
  · rw [hops _ hfly, State.stepOps, cellPlace_zero, imagePlace_zero, Config.imageOffset, Config.imageBytes]
  · rw [hops _ hfly, State.stepOps, imagePlace_eq, cellPlace]
    simp only [start, Config.cellBytes, Nat.add_assoc]

end

section
/-! SUPPORT. What a good frame's end hands on leaves of the slots (R31): captures, saves and settles take slots away or keep
them, and LIVE stays where the completion put it. -/

namespace Sys2Proof.Machine

/-- Kept once and kept again. -/
theorem Slot.Keeps.trans {x y z : Slot} (h : x.Keeps y) (h' : y.Keeps z) : x.Keeps z := by
  refine ⟨h'.image.trans h.image, ?_⟩
  rcases h.work with ⟨hp, ho, hf⟩ | ⟨hr, hp, ho, hf⟩
  · rcases h'.work with ⟨hp', ho', hf'⟩ | ⟨hr', hfree⟩
    · exact .inl ⟨hp'.trans hp, ho'.trans ho, hf'.trans hf⟩
    · exact .inr ⟨hp.symm.trans hr', hfree⟩
  · rcases h'.work with ⟨hp', ho', hf'⟩ | ⟨hr', -⟩
    · exact .inr ⟨hr, hp'.trans hp, ho'.trans ho, hf'.trans hf⟩
    · exact absurd (hp.symm.trans hr') (by decide)

/-- A FREE slot that is kept is FREE. -/
theorem Slot.Keeps.free {x y : Slot} (h : x.Keeps y) (hf : x.phase = .free) : y.phase = .free := by
  rcases h.work with ⟨hp, -⟩ | ⟨-, hp, -⟩
  · exact hp.trans hf
  · exact hp

/-- Slots are kept, or freed, and LIVE is where it was. -/
structure Slots.HandsOn (t u : Slots) : Prop where
  keeps : ∀ k, (t.get k).Keeps (u.get k)
  live : ∀ k, (u.get k).carries .live = (t.get k).carries .live

namespace Slots.HandsOn

variable {t u v : Slots} {i : Fin 12}

theorem refl (t : Slots) : t.HandsOn t := ⟨fun _ => Slot.Keeps.refl _, fun _ => rfl⟩

theorem trans (h : t.HandsOn u) (h' : u.HandsOn v) : t.HandsOn v :=
  ⟨fun k => (h.keeps k).trans (h'.keeps k), fun k => (h'.live k).trans (h.live k)⟩

/-- One slot changes. -/
theorem set {y : Slot} (hk : (t.get i).Keeps y) (hl : y.carries .live = (t.get i).carries .live) :
    t.HandsOn (t.set i y) := by
  refine ⟨fun k => ?_, fun k => ?_⟩ <;> rw [Table.get_set] <;> split
  · rename_i e; subst e; exact hk
  · exact Slot.Keeps.refl _
  · rename_i e; subst e; exact hl
  · rfl

theorem untagCapture : t.HandsOn (t.untagCapture i) := set (Slot.withoutTag_keeps _ _) (by simp)

theorem setCapture : t.HandsOn (t.set i ((t.get i).withTag .capture)) := set (Slot.withTag_keeps _ _) (by simp)

theorem moveSettled (frame : Word) : t.HandsOn (t.moveSettled frame) := by
  rcases t.moveSettled_cases frame with ⟨i, -, -, e⟩ | ⟨-, e⟩ <;> rw [e]
  · refine ⟨fun k => ?_, fun k => by simp [Slots.moveTag_carries]⟩
    rw [Slots.get_moveTag]
    split
    · exact Slot.withTag_keeps _ _
    · exact Slot.withoutTag_keeps _ _
  · exact refl t

end Slots.HandsOn

variable (s : State)

theorem State.leaveQueue_handsOn : s.slots.HandsOn s.leaveQueue.slots := by
  unfold State.leaveQueue
  split
  · exact .refl _
  · exact .untagCapture

theorem State.dropFull_handsOn : s.slots.HandsOn s.dropFull.slots := by
  unfold State.dropFull
  split
  · exact .refl _
  · exact s.leaveQueue_handsOn

theorem State.chooseCell_handsOn (tries : Nat) : s.slots.HandsOn (s.chooseCell tries).slots := by
  unfold State.chooseCell
  split
  · exact s.dropFull_handsOn
  · split
    · exact .refl _
    · split
      · exact .refl _
      · exact s.dropFull_handsOn

theorem beginSaves_handsOn (n : Nat) (s : State) : s.slots.HandsOn (beginSaves n s).slots := by
  induction n generalizing s with
  | zero => exact .refl _
  | succ n ih =>
    unfold beginSaves
    split
    · exact (s.chooseCell_handsOn 0).trans (ih _)
    · exact .refl _

theorem State.runWriter_handsOn : s.slots.HandsOn s.runWriter.slots := beginSaves_handsOn _ s

theorem State.jointCapture_handsOn (r : CaptureRead) (frame : Word) (focus : Nat) :
    s.slots.HandsOn (s.jointCapture r frame focus).1.slots := by
  unfold State.jointCapture
  split
  · exact .refl _
  · split
    · exact .refl _
    · split
      · exact .refl _
      · split
        · exact .refl _
        · split
          · exact .refl _
          · rename_i l _ _ _ _ _ _ slots i htag
            obtain ⟨-, rfl⟩ := Slots.tagCapture_some htag
            have hwriter := State.runWriter_handsOn (State.takenCapture
              ((s.withSlots (s.slots.set i ((s.slots.get i).withTag .capture))).withStore
                (s.store.append (r.entry frame focus i l))) r.source frame i l.id l.next false).1
            exact Slots.HandsOn.setCapture.trans hwriter

theorem State.completeCapture_handsOn (r : CaptureRead) : s.slots.HandsOn (s.completeCapture r).1.slots := by
  unfold State.completeCapture
  split
  · exact .refl _
  · split
    · exact .refl _
    · exact s.jointCapture_handsOn r _ _

theorem State.endCapture_handsOn (begun : Option BegunCapture) : s.slots.HandsOn (s.endCapture begun).slots := by
  unfold State.endCapture
  split
  · exact .refl _
  · rename_i b
    dsimp only
    split
    · exact s.completeCapture_handsOn b.read
    · exact s.completeCapture_handsOn b.read

theorem State.trigger_handsOn (src : Trigger) (named : Option (Word × Nat)) :
    s.slots.HandsOn (s.trigger src named).slots := by
  unfold State.trigger
  split
  · exact s.completeCapture_handsOn _
  · exact .refl _

theorem State.applyEvent_handsOn (f : CurrentFrame) (event : Option PageEvent) :
    s.slots.HandsOn (s.applyEvent f event).slots := by
  rcases event with _ | (count | _)
  · exact .refl _
  · exact .refl _
  · exact (Slots.HandsOn.moveSettled f.number).trans (State.trigger_handsOn
      ((s.withSlots (s.slots.moveSettled f.number)).raise (.pageSettled f.number (f.sums.focusMeasure f.area))) _ _)

theorem State.handOn_handsOn (f : CurrentFrame) (begun : Option BegunCapture) :
    s.slots.HandsOn (s.handOn f begun).slots := by
  rw [State.handOn_eq]
  exact (s.endCapture_handsOn begun).trans (((s.endCapture begun).sampledBy f).applyEvent_handsOn f _)

/-- What is handed on after the overtaken capture's reply leaves the link alone (R31). -/
theorem State.handOn_link (f : CurrentFrame) (begun : Option BegunCapture) :
    (s.handOn f begun).link = (s.endCapture begun).link := by
  rw [State.handOn_eq]
  rcases ((s.endCapture begun).watch.sample f.sums.tileMeans).2 with _ | (count | _)
  · rfl
  · rfl
  · obtain ⟨slots, capture, store, notices, h⟩ := State.trigger_frame
      (((((s.endCapture begun).sampledBy f).withSlots (((s.endCapture begun).sampledBy f).slots.moveSettled
        f.number))).raise (.pageSettled f.number (f.sums.focusMeasure f.area))) .settle
      (some (f.number, f.sums.focusMeasure f.area))
    have hsettle : ((s.endCapture begun).sampledBy f).applyEvent f (some .settle) = _ := h
    rw [hsettle]
    rfl

/-! ### A slot after the frame's end -/

variable {s}

/-- A slot that something holds all along keeps its frame. -/
theorem Slots.HandsOn.held_kept {t u : Slots} {k : Fin 12} (h : t.HandsOn u) (hu : (u.get k).phase = .ready) :
    (u.get k).origin = (t.get k).origin ∧ (u.get k).image = (t.get k).image := by
  refine ⟨?_, (h.keeps k).image⟩
  rcases (h.keeps k).work with ⟨-, ho, -⟩ | ⟨-, hp, -⟩
  · exact ho
  · exact absurd (hp.symm.trans hu) (by decide)

/-- What is handed on keeps the slot law and the pins, whatever the ranges of the values. -/
theorem State.handOn_law (h : s.slots.Law) {f : CurrentFrame} (hl : f.lines = 1944) (begun : Option BegunCapture) :
    (s.handOn f begun).slots.Law ∧ ∀ k, ((s.handOn f begun).slots.get k).pins = (s.slots.get k).pins := by
  have hcalms : Calms False s (s.handOn f begun) := State.handOn_calms False.elim False.elim hl False.elim
  exact ⟨Calms.slotLaw hcalms h, (Calms.samePins hcalms).pins⟩

/-- A completion of a FILLING slot keeps the slot law (R10). -/
theorem State.completeSlot_law (h : s.slots.Law) (i : Fin 12) (focus : Nat) : (s.completeSlot i focus).slots.Law :=
  h.completed rfl rfl

end Sys2Proof.Machine
end

section
/-! What a capture reads before the frame end that overtakes it, and does after it (R118 to R129). -/

namespace Sys2Proof.Machine

variable {s : State}

/-- The gate asks for the settings and the holdoff alone, which a key sample leaves as they are (R120, R121). -/
theorem Capture.gate_sampleKey (c : Capture) (pressed : Bool) (src : Trigger) :
    (c.sampleKey pressed).1.gate src = c.gate src := by
  unfold Capture.sampleKey
  dsimp only
  generalize (if pressed then min (c.keyCounter + 1) 15 else c.keyCounter - 1) = k
  split
  · rfl
  · split <;> rfl

/-- No expiry waits, and none is judged (R118). -/
theorem State.beginEarly_interval_none (h : s.capture.expiries = 0) : s.beginEarly .interval = (s, none) := by
  simp only [State.beginEarly, State.takeExpiry, h]

/-- A waiting expiry is used up and judged (R118, R121). -/
theorem State.beginEarly_interval {n : Nat} (h : s.capture.expiries = n + 1) :
    s.beginEarly .interval =
      (s.withCapture { s.capture with expiries := n },
        if s.capture.gate .interval then some ⟨s.readCapture .interval s.slots.liveFrame, none⟩ else none) := by
  simp only [State.beginEarly, State.takeExpiry, h]
  rfl

/-- A press event is judged after the filter's step (R120, R121). -/
theorem State.beginEarly_key (s : State) :
    s.beginEarly .key =
      (s.withCapture (s.capture.sampleKey true).1,
        if (s.capture.sampleKey true).2 then
          if s.capture.gate .key then some ⟨s.readCapture .key s.slots.liveFrame, none⟩ else none
        else none) := by
  simp only [State.beginEarly, State.beginTrigger, State.withCapture_capture, Capture.gate_sampleKey]
  rfl

/-- A CAPTURE NOW that finds the hand empty reads at once (R122, R166). -/
theorem State.beginEarly_request (h : s.link.hand = none) (tag : Byte) :
    s.beginEarly (.request tag) =
      (s.takeInHand ⟨0x4A, tag, []⟩, some ⟨s.readCapture .request s.slots.liveFrame, some tag⟩) := by
  simp only [State.beginEarly, h]
  rfl

/-- A CAPTURE NOW that finds the hand full is not begun (R166). -/
theorem State.beginEarly_request_full (h : s.link.hand ≠ none) (tag : Byte) :
    s.beginEarly (.request tag) = (s.keepWaiting ⟨0x4A, tag, []⟩, none) := by
  obtain ⟨q, hq⟩ := Option.ne_none_iff_exists'.mp h
  simp only [State.beginEarly, hq]
  rfl

/-- A request waits in a free place (R166). -/
theorem State.keepWaiting_free (h : s.link.waitingPlace = none) (r : Request) :
    s.keepWaiting r = s.withLink { s.link with waitingPlace := some r } := by
  simp only [State.keepWaiting, h]

/-- A request that finds the waiting place full too is lost (R166). -/
theorem State.keepWaiting_full (h : s.link.waitingPlace ≠ none) (r : Request) :
    s.keepWaiting r = s.recordError .link .linkOverrun r.code.toNat := by
  obtain ⟨q, hq⟩ := Option.ne_none_iff_exists'.mp h
  simp only [State.keepWaiting, hq]

/-! ### A capture that a frame end overtook -/

/-- The LIVE frame is the one of the slot that carries LIVE (R122). -/
theorem Slots.liveFrame_of {t : Slots} {i : Fin 12} {n : Word} {fm : Nat} (hc : t.carrier .live = some i)
    (ho : (t.get i).origin = some (.sensor n)) (hf : (t.get i).focus = some fm) : t.liveFrame = some (n, fm) := by
  simp only [Slots.liveFrame, hc, ho, hf]

/-- The one open lesson of a READY store (R123). -/
theorem Store.openLesson_of {x : Store} {l : Lesson} (hs : x.state = .ready) (hl : x.directory.filter (·.isOpen) = [l]) :
    x.openLesson = some l := by
  rw [Store.openLesson, if_pos hs, ← List.head?_filter, hl]
  rfl

/-- A capture that goes into lesson `l` as a page of its own if its frame is still to be had: the lesson is open and has
room, the queue has room and no entry of the frame (R123). -/
structure State.Admits (s : State) (frame : Word) (l : Lesson) : Prop where
  lesson : s.store.openLesson = some l
  room : l.next ≤ 255
  fresh : ∀ e ∈ s.store.queue, e.frame ≠ frame
  queue : s.store.queue.length < 4

/-- A REQUEST capture is not judged by its focus measure (R122). -/
theorem State.completeCapture_request {r : CaptureRead} {n : Word} {fm : Nat} (hs : r.source = .request)
    (hn : r.named = some (n, fm)) : s.completeCapture r = s.jointCapture r n fm := by
  simp only [State.completeCapture, hn, hs, Trigger.judgedByFocus, Bool.false_and]
  rfl

/-- A frame that is gone is missed with STALE (R124). -/
theorem State.Admits.stale {l : Lesson} {n : Word} (h : s.Admits n l) (r : CaptureRead) (fm : Nat)
    (hf : s.slots.findFrame n = none) : s.jointCapture r n fm = s.missCapture r.source .stale n := by
  have hnew : s.store.queue.find? (fun e => e.frame == n) = none :=
    List.find?_eq_none.mpr fun e he => by simpa using h.fresh e he
  have hroom : ¬Config.queueCapacity ≤ s.store.queue.length := Nat.not_le.mpr h.queue
  simp only [State.jointCapture, h.lesson, if_neg (Nat.not_lt.mpr h.room), hnew, if_neg hroom, Slots.tagCapture, hf]

/-- A frame that is still to be had is taken (R124, R126). -/
theorem State.Admits.taken {l : Lesson} {n : Word} (h : s.Admits n l) (r : CaptureRead) (fm : Nat) {i : Fin 12}
    (hf : s.slots.findFrame n = some i) :
    (s.jointCapture r n fm).2 = .taken n i l.id l.next false s.capture.singleDone := by
  have hnew : s.store.queue.find? (fun e => e.frame == n) = none :=
    List.find?_eq_none.mpr fun e he => by simpa using h.fresh e he
  have hroom : ¬Config.queueCapacity ≤ s.store.queue.length := Nat.not_le.mpr h.queue
  simp only [State.jointCapture, h.lesson, if_neg (Nat.not_lt.mpr h.room), hnew, if_neg hroom, Slots.tagCapture, hf]
  rfl

/-- The flags of a capture that is no merge (R192). -/
theorem captureFlags_single (single : Bool) : captureFlags false single = if single then 2 else 0 := by
  cases single <;> rfl

/-- A reply that waits goes out as the link's answer to the request in the hand (R170). -/
theorem State.transmit_answered {t : State} {l : Link} {r : Request} {a : Answer}
    (h : t.link = { l with hand := some r, waitingReply := some ⟨r.code, r.tag, a.status, a.results, a.after⟩ }) :
    t.transmit.link = l.answered r a.status a.results a.after := by
  have ht : t.link.transmitter = l.transmitter := by rw [h]
  unfold Link.answered
  split
  · rename_i hidle
    rw [State.transmit_reply (ht.trans hidle) (congrArg Link.waitingReply h), State.withLink_link, h]
  · rename_i hbusy
    rw [State.transmit_busy fun e => hbusy (ht.symm.trans e), h]

/-! ### The slot that loses LIVE -/

/-- A slot that a pin holds stays as it is but for the tag it loses (R4, R8). -/
theorem Slot.withoutTag_of_pinned {x : Slot} (hp : x.pins ≠ 0) (tag : Tag) :
    (x.withoutTag tag).phase = x.phase ∧ (x.withoutTag tag).origin = x.origin := by
  unfold Slot.withoutTag
  split
  · unfold Slot.reclaimed
    rw [if_neg fun h => hp h.2.2]
    exact ⟨rfl, rfl⟩
  · exact ⟨rfl, rfl⟩

/-- A READY slot that nothing but one tag holds is FREE without it (R8). -/
theorem Slot.withoutTag_of_bare {x : Slot} {tag : Tag} (hr : x.phase = .ready) (hc : x.carries tag = true)
    (ht : x.tags.put tag false = TagSet.empty) (hp : x.pins = 0) : (x.withoutTag tag).phase = .free := by
  unfold Slot.withoutTag
  rw [if_pos hc]
  unfold Slot.reclaimed
  rw [if_pos ⟨hr, ht, hp⟩]
  rfl

/-- A slot other than the completed one, after a completion (R10). -/
theorem Slots.completeFilling_other {t : Slots} {i j : Fin 12} (h : j ≠ i) (focus : Nat) :
    (t.completeFilling i focus).get j = (t.get j).withoutTag .live := by
  rw [Slots.completeFilling, Slots.get_completed, if_neg h]

/-- The completed slot (R10). -/
theorem Slots.completeFilling_same (t : Slots) (i : Fin 12) (focus : Nat) :
    (t.completeFilling i focus).get i =
      Slot.withTag { t.get i with phase := .ready, focus := some focus } .live := by
  rw [Slots.completeFilling, Slots.get_completed, if_pos rfl]

/-- A completion brings no frame into a slot that it was not in (R10). -/
theorem Slots.completeFilling_origin {t : Slots} {k : Fin 12} {o : Origin} (h : (t.get k).origin ≠ some o)
    (i : Fin 12) (focus : Nat) : ((t.completeFilling i focus).get k).origin ≠ some o := by
  by_cases hk : k = i
  · subst hk
    rw [Slots.completeFilling_same]
    exact h
  · rw [Slots.completeFilling_other hk]
    rcases (Slot.withoutTag_keeps (t.get k) .live).work with ⟨-, ho, -⟩ | ⟨-, -, ho, -⟩ <;> rw [ho]
    · exact h
    · exact nofun

end Sys2Proof.Machine
end

section
/-! A CAPTURE NOW that a good frame end overtakes (1.4, R122, R124, R129). -/

namespace Sys2Proof.Machine

variable {s : State}

/-- The state in which such a capture tags its frame: the request in the hand, the new frame completed. -/
def State.overtakenBy (s : State) (rest : List (Option EarlyCapture)) (r : Request) (i : Fin 12) (focus : Nat) : State :=
  State.completeSlot ((s.withSchedule { s.schedule with overtaken := rest }).takeInHand r) i focus

/-- A request's capture leaves its reply on the link, and nothing else there (R129). -/
theorem State.endCapture_link (s : State) (r : CaptureRead) (tag : Byte) :
    (s.endCapture (some ⟨r, some tag⟩)).link =
      { s.link with waitingReply := some ⟨0x4A, tag, .ok, (s.completeCapture r).2.bytes, .nothing⟩ } := by
  obtain ⟨slots, capture, store, notices, h⟩ := s.completeCapture_frame r
  have hlink : (s.completeCapture r).1.link = s.link := by rw [h]
  rw [← hlink]
  rfl

/-- The frame end answers the request it overtook, with the outcome of its joint step, and leaves the slots to what
it hands on. -/
theorem frameEnd_answers {f : CurrentFrame} {j : Fin 12} {n : Word} {fm : Nat} {tag : Byte}
    {rest : List (Option EarlyCapture)} (hov : s.schedule.overtaken = some (.request tag) :: rest)
    (hhand : s.link.hand = none) (hgood : s.intake.endingGood = some f) (hj : f.slot = some j)
    (hlive : s.slots.liveFrame = some (n, fm)) (hlaw : s.slots.Law) :
    let c := s.overtakenBy rest ⟨0x4A, tag, []⟩ j (f.sums.focusMeasure f.area)
    let o := (c.jointCapture (s.readCapture .request (some (n, fm))) n fm).2
    ∃ t, execFrameEnd s = .next t ∧ t.link = s.link.answered ⟨0x4A, tag, []⟩ .ok o.bytes ∧
      c.slots.HandsOn t.slots ∧ t.slots.Law ∧ ∀ k, (t.slots.get k).pins = (c.slots.get k).pins := by
  intro c o
  let r := s.readCapture .request (some (n, fm))
  have hbegun : s.beginOvertaken =
      ((s.withSchedule { s.schedule with overtaken := rest }).takeInHand ⟨0x4A, tag, []⟩, some ⟨r, some tag⟩) := by
    rw [State.beginOvertaken_early hov, State.beginEarly_request (by exact hhand), State.withSchedule_slots, hlive]
    rfl
  have hexec : execFrameEnd s = .next (c.handOn f (some ⟨r, some tag⟩)).transmit := by
    rw [execFrameEnd_good hgood hj, hbegun]
    rfl
  have hlink : (c.handOn f (some ⟨r, some tag⟩)).link =
      { s.link with hand := some ⟨0x4A, tag, []⟩, waitingReply := some ⟨0x4A, tag, .ok, o.bytes, .nothing⟩ } := by
    have hjoint : c.completeCapture r = c.jointCapture r n fm := State.completeCapture_request rfl rfl
    rw [State.handOn_link, State.endCapture_link, hjoint]
    rfl
  obtain ⟨-, -, -, hlines⟩ := Intake.endingGood_some hgood
  have hc : c.slots.Law := State.completeSlot_law hlaw j _
  obtain ⟨hl, hp⟩ := State.handOn_law hc hlines (some ⟨r, some tag⟩)
  refine ⟨_, hexec, State.transmit_answered (a := Answer.ok o.bytes) hlink, ?_, ?_, ?_⟩ <;>
    simp only [State.transmit_slots]
  · exact c.handOn_handsOn f _
  · exact hl
  · exact hp

/-- Of all slots only `i` held frame `n`: after another slot's completion the frame is found there or nowhere (R12). -/
theorem Slots.findFrame_completed {t : Slots} {i j : Fin 12} {n : Word}
    (hothers : ∀ k, k ≠ i → (t.get k).origin ≠ some (.sensor n)) (focus : Nat) :
    (((t.completeFilling j focus).get i).phase = .ready → ((t.completeFilling j focus).get i).origin = some (.sensor n) →
      (t.completeFilling j focus).findFrame n = some i) ∧
    (((t.completeFilling j focus).get i).phase ≠ .ready → (t.completeFilling j focus).findFrame n = none) := by
  have hno : ∀ k, k ≠ i → ((t.completeFilling j focus).get k).origin ≠ some (.sensor n) := fun k hk =>
    Slots.completeFilling_origin (hothers k hk) j focus
  refine ⟨fun hr ho => Table.lowest_eq_of (by simp [hr, ho]) fun k hk => ?_, fun hr => Table.lowest_eq_none.mpr fun k => ?_⟩
  · simp [hno k (ne_of_lt hk)]
  · by_cases hk : k = i
    · subst hk; simp [hr]
    · simp [hno k hk]

end Sys2Proof.Machine
end

section
/-! A good frame end between two pin requests of one output frame (R18, R109). -/

namespace Sys2Proof.Machine

variable {s t : State}

/-- A pane that names LIVE, without hold, shows the slot that carries it (R107). -/
theorem resolvePane_live {mode : Fin 4} {page : PageState} {x : Slots} {p : Pane} {i : Fin 12}
    (hc : x.carrier .live = some i) (he : p.enabled = true) (hs : p.source = .live) (hh : p.hold = false)
    (hclip : 16 ≤ (clipRect mode p.rect).w ∧ 16 ≤ (clipRect mode p.rect).h) :
    (resolvePane mode page x p).2.shows = .slot i := by
  have hshown : (clipRect mode p.rect).shown = true := decide_eq_true hclip
  simp [resolvePane, he, hs, hh, hshown, pinRequest, Slots.pin, hc]

/-- One pane's pin request moves nothing but a pin (R18). -/
theorem resolvePane_eased (mode : Fin 4) (page : PageState) (x : Slots) (p : Pane) :
    x.Eased (resolvePane mode page x p).1 := by
  rcases resolvePane_slots mode page x p with ⟨e, -⟩ | ⟨i, tags, -, -, e⟩ <;> rw [e]
  · exact Slots.Eased.refl x
  · exact (x.pin_eased_guarded tags).1

/-- A READY slot that is pinned after moves has the frame that it had before them (R2, R5). -/
theorem Fines.kept (h : Fines False s t) (hl : s.slots.Law) (hw : s.Works) {k : Fin 12}
    (hr : (s.slots.get k).phase = .ready) (hp : (t.slots.get k).pins ≠ 0) :
    (t.slots.get k).phase = .ready ∧ (t.slots.get k).image = (s.slots.get k).image ∧
      (t.slots.get k).origin = (s.slots.get k).origin := by
  obtain ⟨hheld, -⟩ := Slots.law_iff.mp (Fines.slotLaw h hl)
  have hready : (t.slots.get k).phase = .ready := (hheld k).mpr (.inr hp)
  rcases (Fines.undisturbed h hw).readyKept k hr with hf | ⟨-, himage, horigin, -⟩
  · exact absurd (hready.symm.trans hf) (by decide)
  · exact ⟨hready, himage, horigin⟩

/-- After a good frame end its slot carries LIVE, with the frame's origin and image (R10). -/
theorem frameEnd_live {f : CurrentFrame} {j : Fin 12} (hl : s.slots.Law) (hgood : s.intake.endingGood = some f)
    (hj : f.slot = some j) :
    let t := runMoves [.frameEnd] s
    (t.slots.get j).carries .live = true ∧ (t.slots.get j).origin = (s.slots.get j).origin ∧
      (t.slots.get j).image = (s.slots.get j).image := by
  let c := s.beginOvertaken.1.completeSlot j (f.sums.focusMeasure f.area)
  obtain ⟨hslots, -, -⟩ := s.beginOvertaken_keeps
  have hc : c.slots.get j = _ := (congrArg (fun x : Slots => (x.completeFilling j _).get j) hslots).trans
    (Slots.completeFilling_same s.slots j (f.sums.focusMeasure f.area))
  have hrun : (runMoves [.frameEnd] s).slots = (c.handOn f s.beginOvertaken.2).slots := by
    show (stateAfter (execFrameEnd s) s).slots = _
    rw [execFrameEnd_good hgood hj, stateAfter_next, State.transmit_slots]
  have hands := c.handOn_handsOn f s.beginOvertaken.2
  have hlive : ((c.handOn f s.beginOvertaken.2).slots.get j).carries .live = true := by
    rw [hands.live, hc]
    simp
  have hlaw : (c.handOn f s.beginOvertaken.2).slots.Law := by
    refine (State.handOn_law ?_ (Intake.endingGood_some hgood).2.2.2 _).1
    exact State.completeSlot_law (hslots ▸ hl) j _
  obtain ⟨hheld, -⟩ := Slots.law_iff.mp hlaw
  obtain ⟨horigin, himage⟩ := hands.held_kept ((hheld j).ready hlive)
  rw [hc] at horigin himage
  intro t
  rw [show t.slots = _ from hrun]
  exact ⟨hlive, horigin, himage⟩

/-- A composed frame leaves the slots as its panes' turns do, and latches what they show (R100). -/
theorem State.runFrame_latch (s : State) (between : Between) :
    let r := resolvePanes s.output.mode s.watch.page s.output.active between s
    (s.runFrame between).slots = r.1.slots ∧
      (s.runFrame between).output.latch = some ⟨some s.watch.page, s.output.background, r.2⟩ := by
  unfold State.runFrame
  dsimp only
  rw [State.glideStep_eq]
  exact ⟨rfl, rfl⟩

/-- A slot of an output frame being scanned, with the frame that slot `k` held in `s`. -/
structure State.ShowsFrom (s t : State) (k : Fin 12) : Prop where
  ready : (t.slots.get k).phase = .ready
  image : (t.slots.get k).image = (s.slots.get k).image
  origin : (t.slots.get k).origin = (s.slots.get k).origin
  pinned : (t.slots.get k).pins ≠ 0

/-- A pane that shows LIVE: enabled, large enough, and without hold (R107). -/
structure Pane.ShowsLive (mode : Fin 4) (p : Pane) : Prop where
  enabled : p.enabled = true
  source : p.source = .live
  hold : p.hold = false
  clip : 16 ≤ (clipRect mode p.rect).w ∧ 16 ≤ (clipRect mode p.rect).h

/-- A pane that shows a slot pins it once. -/
theorem PaneLatch.pinsOn_shown {l : PaneLatch} {k : Fin 12} (h : l.shows = .slot k) : l.pinsOn k = 1 := if_pos h

/-- With a good frame end between the turns of panes 0 and 1 that both show LIVE, pane 0 shows the slot that carried it
and pane 1 the slot the frame filled, and both stay as they are (R18, R109). -/
theorem resolvePanes_two_frames {mode : Fin 4} {page : PageState} {panes : Table Pane 4} {f : CurrentFrame}
    {i j : Fin 12} (hl : s.slots.Law) (hw : s.Works) (hgood : s.intake.endingGood = some f) (hj : f.slot = some j)
    (hi : (s.slots.get i).carries .live = true) (hphase : (s.slots.get j).phase = .filling)
    (h0 : (panes.get 0).ShowsLive mode) (h1 : (panes.get 1).ShowsLive mode) (after1 after2 : List TagMove) :
    let r := resolvePanes mode page panes ⟨[.frameEnd], after1, after2⟩ s
    (r.2.get 0).shows = .slot i ∧ (r.2.get 1).shows = .slot j ∧ s.ShowsFrom r.1 i ∧ s.ShowsFrom r.1 j := by
  intro r
  let v := s.withSlots (resolvePane mode page s.slots (panes.get 0)).1
  let w := runMoves [.frameEnd] v
  have hpin : s.slots.Eased v.slots := resolvePane_eased _ _ _ _
  have hall : Fines False s r.1 := resolvePanes_fines False.elim _ _ _ _
  have hturn0 : Fines False s w := resolveTurn_fines (s := s) False.elim mode page (panes.get 0) [.frameEnd]
  have hrest : Fines False w r.1 :=
    .trans (.trans (resolveTurn_fines False.elim _ _ _ _) (resolveTurn_fines False.elim _ _ _ _))
      (resolveTurn_fines False.elim _ _ _ _)
  have hwl : w.slots.Law := Fines.slotLaw hturn0 hl
  obtain ⟨hheld, -, -, hsingle⟩ := Slots.law_iff.mp hl
  obtain ⟨hheldw, -, -, hsinglew⟩ := Slots.law_iff.mp hwl
  obtain ⟨hlive, horigin, himage⟩ := frameEnd_live (hpin.law hl) hgood hj
  have hshow0 : (r.2.get 0).shows = .slot i :=
    resolvePane_live (Slots.carrier_of_single (hsingle .live (by decide)) hi) h0.enabled h0.source h0.hold h0.clip
  have hshow1 : (r.2.get 1).shows = .slot j :=
    resolvePane_live (Slots.carrier_of_single (hsinglew .live (by decide)) hlive) h1.enabled h1.source h1.hold h1.clip
  have hpins := (resolvePanes_pins mode page panes ⟨[.frameEnd], after1, after2⟩ s).1
  have hpi : (r.1.slots.get i).pins ≠ 0 := by rw [hpins i, PaneLatch.pinsOn_shown hshow0]; omega
  have hpj : (r.1.slots.get j).pins ≠ 0 := by rw [hpins j, PaneLatch.pinsOn_shown hshow1]; omega
  obtain ⟨hri, hii, hoi⟩ := Fines.kept hall hl hw ((hheld i).ready hi) hpi
  obtain ⟨hrj, hij, hoj⟩ := Fines.kept hrest hwl (Fines.works hturn0 hw) ((hheldw j).ready hlive) hpj
  have hvj : (v.slots.get j).origin = (s.slots.get j).origin := by
    rcases (hpin.keeps j).work with ⟨-, ho, -⟩ | ⟨hr, -⟩
    · exact ho
    · exact absurd (hphase.symm.trans hr) (by decide)
  exact ⟨hshow0, hshow1, ⟨hri, hii, hoi, hpi⟩,
    ⟨hrj, hij.trans (himage.trans (hpin.keeps j).image), hoj.trans (horigin.trans hvj), hpj⟩⟩

/-- An output frame's start in RUN, with the last frame ended and no commit pending (R100). -/
theorem execOutputFrameStart_run {b : Between} {rest : List Between} (hs : s.output.state = .run)
    (hl : s.output.latch = none) (hc : s.output.commitPending = false) (hb : s.schedule.between = b :: rest) :
    execOutputFrameStart s = .next (State.runFrame
      ((s.withOutput { s.output with frameCounter := s.output.frameCounter + 1 }).withSchedule
        { s.schedule with between := rest }) b).transmit := by
  have hstart : s.output.startFrame = { s.output with frameCounter := s.output.frameCounter + 1 } := by
    simp [Output.startFrame, hc]
  simp only [execOutputFrameStart, State.endScan_none hl, hs, hstart, State.runScheduled, State.takeBetween,
    State.withOutput_schedule, hb, finish]

end Sys2Proof.Machine
end

section
/-! The two races with the slot store. -/

open Sys2Proof Sys2Proof.Machine

/-- Settles O33: a frame end between two pin requests is one of a frame's moves, which leave pinned slots alone; a capture
that a frame end overtakes finds its frame's slot freed, or held by a pin; the third part is what the commands say. -/
theorem slotStoreRaces : Obligations.SlotStoreRaces := by
  refine ⟨?_, ?_, fun s => ?_⟩
  · intro s f i j n after1 after2 rest hbetween hrun hlatch hcommit hl hwork hstate hcurrent hj hd hlines hlive horigin hpanes
    have hw := (State.workLaw_iff s).mp hwork
    obtain ⟨f', j', hc', hj', -, hphase, hoj⟩ := hw.filling hstate
    obtain rfl : f = f' := Option.some.inj (hcurrent.symm.trans hc')
    obtain rfl : j = j' := Option.some.inj (hj.symm.trans hj')
    let u := (s.withOutput { s.output with frameCounter := s.output.frameCounter + 1 }).withSchedule
      { s.schedule with between := rest }
    have hu : u.Works := hw.of_keeps (fun k => Slot.Keeps.refl _) rfl rfl
    have hpane : ∀ k : Fin 4, k = 0 ∨ k = 1 → (u.output.active.get k).ShowsLive u.output.mode := fun k hk => by
      obtain ⟨he, hs, hh, hw, hh'⟩ := hpanes k hk
      exact ⟨he, hs, hh, hw, hh'⟩
    obtain ⟨h0, h1, hi, hj⟩ := resolvePanes_two_frames (s := u) (page := u.watch.page) hl hu
      (Intake.endingGood_of hstate hcurrent hd hlines) hj hlive hphase (hpane 0 (.inl rfl)) (hpane 1 (.inr rfl)) after1 after2
    obtain ⟨hslots, hlatched⟩ := u.runFrame_latch ⟨[.frameEnd], after1, after2⟩
    have hexec : exec .outputFrameStart s = .next (u.runFrame ⟨[.frameEnd], after1, after2⟩).transmit :=
      execOutputFrameStart_run hrun hlatch hcommit hbetween
    have hshown := (State.transmit_slots _).trans hslots
    have hframe := (congrArg Output.latch (State.transmit_output _)).trans hlatched
    refine ⟨_, _, hexec, hframe, h0, h1, ?_⟩
    rw [hshown]
    exact ⟨hi.origin.trans horigin, hi.image, hj.origin.trans hoj, hj.image, hi.ready, hj.ready,
      Nat.one_le_iff_ne_zero.mpr hi.pinned, Nat.one_le_iff_ne_zero.mpr hj.pinned⟩
  · intro s f i j n fm l tag rest hov hfree hl hready hopen hroom hfresh hqueue hstate hcurrent hj hd hlines hphase htags
      horigin hfocus hothers answer single
    obtain ⟨hheld, -, -, hsingle⟩ := Slots.law_iff.mp hl
    have hcarries : (s.slots.get i).carries .live = true := by rw [Slot.carries, htags]; rfl
    have hne : i ≠ j := by
      rintro rfl
      exact absurd (hphase.symm.trans ((hheld i).ready hcarries)) (by decide)
    have hlive := Slots.liveFrame_of (Slots.carrier_of_single (hsingle .live (by decide)) hcarries) horigin hfocus
    obtain ⟨t, hexec, hlink, hands, htl, htp⟩ := frameEnd_answers hov hfree.1
      (Intake.endingGood_of hstate hcurrent hd hlines) hj hlive hl
    have hadmits : State.Admits (s.overtakenBy rest ⟨0x4A, tag, []⟩ j (f.sums.focusMeasure f.area)) n l :=
      ⟨Store.openLesson_of hready hopen, hroom, hfresh, hqueue⟩
    obtain ⟨hfound, hgone⟩ := Slots.findFrame_completed (j := j) hothers (f.sums.focusMeasure f.area)
    have hci := Slots.completeFilling_other (t := s.slots) hne (f.sums.focusMeasure f.area)
    rw [hci] at hfound hgone
    have hkeeps : ((s.slots.get i).withoutTag .live).Keeps (t.slots.get i) := hci ▸ hands.keeps i
    refine ⟨fun hp => ?_, fun hp => ?_⟩
    · have hbare : ((s.slots.get i).withoutTag .live).phase = .free :=
        Slot.withoutTag_of_bare ((hheld i).ready hcarries) hcarries (by rw [htags]; rfl) hp
      refine ⟨t, hexec, ?_, hkeeps.free hbare⟩
      rw [hlink, hadmits.stale _ _ (hgone (by rw [hbare]; decide))]
      rfl
    · obtain ⟨hsame, hframe⟩ := Slot.withoutTag_of_pinned hp .live
      have hfind := hfound (hsame.trans ((hheld i).ready hcarries)) (hframe.trans horigin)
      have hpins : (t.slots.get i).pins ≠ 0 := by
        have hpi : (t.slots.get i).pins = ((s.slots.get i).withoutTag .live).pins := hci ▸ htp i
        rw [hpi, Slot.withoutTag_pins]
        exact hp
      have hkept : (t.slots.get i).phase = .ready := ((Slots.law_iff.mp htl).1 i).mpr (.inr hpins)
      refine ⟨t, hexec, ?_, hkept, (hands.held_kept hkept).1.trans ?_⟩
      · have hflags : captureFlags false s.capture.singleDone = single := by
          rw [captureFlags_single]
          simp [Capture.singleDone, single]
        rw [hlink, hadmits.taken _ _ hfind, ← hflags]
        rfl
      · exact (congrArg Slot.origin hci).trans (hframe.trans horigin)
  · refine ⟨State.beginEarly_interval_none, fun n => State.beginEarly_interval, s.beginEarly_key,
      fun tag => ⟨fun h => State.beginEarly_request h tag, fun hh hw => ?_, fun hh hw => ?_⟩, s.endCapture_none,
      fun r => ⟨rfl, fun tag => rfl⟩⟩
    · rw [State.beginEarly_request_full hh, State.keepWaiting_free hw]
      rfl
    · rw [State.beginEarly_request_full hh, State.keepWaiting_full hw]
      rfl

end

section
/-! A frame's end other than a good one, and the loss of signal, as equations (R26, R30, R32, R33). -/

namespace Sys2Proof.Machine

variable {s : State} {f : CurrentFrame}

/-- A frame that ends damaged, or with another count than 1944, is no good frame's end (R30). -/
theorem execFrameEnd_damaged (hs : s.intake.state = .filling) (hc : s.intake.current = some f)
    (h : f.damaged = true ∨ f.lines ≠ 1944) : execFrameEnd s = .next (s.endDamaged f).transmit := by
  have hbad : ¬(f.damaged = false ∧ f.lines = Config.frameHeight) := by
    rintro ⟨hd, hl⟩
    exact h.elim (fun e => by rw [hd] at e; cases e) fun e => e hl
  have hnone : s.intake.endingGood = none := by simp only [Intake.endingGood, hs, hc, if_neg hbad]
  simp only [execFrameEnd, hnone, hs, hc, finish]

/-- A frame end that finds no frame FILLING does what the intake state asks for (R26, R32). -/
theorem execFrameEnd_idle (hs : s.intake.state ≠ .filling) :
    execFrameEnd s = if s.intake.state = .dropping then .next (s.withIntake s.intake.betweenFrames).transmit
      else .next s := by
  cases hstate : s.intake.state with
  | filling => exact absurd hstate hs
  | disabled | waiting | lost | dropping => simp [execFrameEnd, Intake.endingGood, hstate, finish, ignored]

/-- Once its error is recorded, a damaged frame leaves its slot FREE and the intake between frames (R30). -/
theorem State.abandonFrame_betweenFrames (src : ErrorSource) (k : ErrorKind) (d : Nat) :
    let t := s.recordError src k d
    t.abandonFrame.withIntake t.intake.betweenFrames =
      (t.withSlots s.slots.abandonFilling).withIntake s.intake.betweenFrames := by
  intro t
  rw [State.abandonFrame, State.recordError_slots, State.recordError_intake]

/-- A frame already known to be damaged records no further error (R30). -/
theorem State.endDamaged_flagged (hd : f.damaged = true) :
    s.endDamaged f = (s.withSlots s.slots.abandonFilling).withIntake s.intake.betweenFrames := by
  simp only [State.endDamaged, hd]
  rfl

/-- An undamaged frame with too few lines is short (R30). -/
theorem State.endDamaged_short (hd : f.damaged = false) (hl : f.lines < 1944) :
    s.endDamaged f = ((s.recordError .intake .shortFrame f.lines).withSlots s.slots.abandonFilling).withIntake
      s.intake.betweenFrames := by
  have hk : endFault f.lines = some .shortFrame := if_pos hl
  simp only [State.endDamaged, hd, hk]
  exact State.abandonFrame_betweenFrames ..

/-- An undamaged frame with too many lines is long (R30). -/
theorem State.endDamaged_long (hd : f.damaged = false) (hl : 1944 < f.lines) :
    s.endDamaged f = ((s.recordError .intake .longFrame f.lines).withSlots s.slots.abandonFilling).withIntake
      s.intake.betweenFrames := by
  have hk : endFault f.lines = some .longFrame := by
    exact (if_neg (Nat.lt_asymm hl)).trans (if_pos hl)
  simp only [State.endDamaged, hd, hk]
  exact State.abandonFrame_betweenFrames ..

end Sys2Proof.Machine
end

section
/-! The other frame ends and the loss timeout. -/

open Sys2Proof Sys2Proof.Machine

/-- Settles O21: by the frame's flag and its count, and past FILLING by the intake state. -/
theorem damagedDroppedAndLostFrames : Obligations.DamagedDroppedAndLostFrames := by
  intro s ended
  refine ⟨?_, fun hs => ?_, fun hf hd => ?_, fun hs => ?_, fun hs => ?_⟩
  · intro f hs hc hbad reported
    show execFrameEnd s = _
    rw [execFrameEnd_damaged hs hc hbad]
    unfold reported
    by_cases hd : f.damaged = true
    · rw [State.endDamaged_flagged hd, if_pos hd]
      rfl
    · rw [if_neg hd]
      rcases Nat.lt_or_gt_of_ne (hbad.resolve_left hd) with hl | hl
      · rw [State.endDamaged_short (Bool.not_eq_true _ ▸ hd) hl, if_pos hl]
        rfl
      · rw [State.endDamaged_long (Bool.not_eq_true _ ▸ hd) hl, if_neg (Nat.lt_asymm hl)]
        rfl
  · show execFrameEnd s = _
    rw [execFrameEnd_idle (by rw [hs]; decide), if_pos hs]
    rfl
  · show execFrameEnd s = _
    rw [execFrameEnd_idle hf, if_neg hd]
  · show execLossTimeout s = _
    simp only [execLossTimeout, hs]
    rfl
  · show execLossTimeout s = _
    unfold execLossTimeout
    split
    · exact absurd ‹_› hs
    · rfl

end

section
/-! The settings requests as equations: what each brings into range, writes and answers (R38 to R40, R55, R56, R69 to R72, R88,
R112, R130). -/

namespace Sys2Proof.Machine

variable {s t : State}

/-! ### Answers -/

/-- OK or ADJUSTED, by a proposition that says nothing was brought into range (R168). -/
theorem Status.ofUnchanged_eq {b : Bool} {p : Prop} [Decidable p] (h : b = true ↔ p) : Status.ofUnchanged b = okIf p := by
  unfold Status.ofUnchanged okIf
  exact if_congr h rfl rfl

/-- A request taken with the hand empty whose block leaves the link alone. -/
theorem respond_next {i : Instr} {r : Request} (hi : encodeRequest i = some r) (hs : s.link.Free) {a : Answer}
    {step : State → State × Answer} (h : step s = (t, a)) (hl : t.link = s.link) :
    respond i s step = .next (t.withLink (s.link.answered r a.status a.results a.after)) := by
  rw [respond_eq hi hs.1, h, hl]

/-- An on/off byte is on unless it is 0 (R189). -/
theorem onOff_eq (b : Byte) : onOff b = decide (b ≠ 0) :=
  Bool.eq_iff_iff.mpr (by simp [onOff])

/-! ### Operands in range -/

/-- WATCH SET's settings in force (R55). -/
theorem watchInRange_eq (e m r l q : Byte) : watchInRange e m r l q =
    ⟨decide (e ≠ 0), max 1 (min m.toNat 63), max 1 (min r.toNat 15), max 1 (min l.toNat 15), max 1 (min q.toNat 192)⟩ := by
  simp only [watchInRange, clamp_eq (show 1 ≤ 63 by decide), clamp_eq (show 1 ≤ 15 by decide),
    clamp_eq (show 1 ≤ 192 by decide), onOff_eq]

/-- FOCUS AREA SET's values in force: even, then the size, then the position (R38). -/
theorem areaInRange_eq (a : Rect) :
    let w := max 64 (min (2 * (a.w / 2)) 2592)
    let h := max 64 (min (2 * (a.h / 2)) 1944)
    areaInRange a = ⟨min (2 * (a.x / 2)) (2592 - w), min (2 * (a.y / 2)) (1944 - h), w, h⟩ := by
  simp only [areaInRange, evenDown_eq, clamp_eq (show 64 ≤ 2592 by decide), clamp_eq (show 64 ≤ 1944 by decide),
    clamp_eq (Nat.zero_le _), Nat.zero_max]

/-- PROFILE SET's values in force (R88). -/
theorem profileInRange_eq (g t l : Byte) :
    profileInRange g t l = ⟨min g.toNat 63, min t.toNat 63, min l.toNat 127⟩ := by
  simp only [profileInRange, clamp_eq (Nat.zero_le _), Nat.zero_max]

/-- VIEW NUDGE's offset in force (R71). -/
theorem offsetInRange_eq (d : Half) : offsetInRange d = max (-1024) (min d.toInt 1023) := clampInt_eq (by decide) _

/-- A nudged coordinate (R71). -/
theorem nudged_eq (limit c : Nat) (d : Int) : nudged limit c d = (max 0 (min ((c : Int) + d) limit)).toNat := by
  rw [nudged, clampInt_eq (Int.natCast_nonneg _)]

/-- A coordinate was nudged as asked (R71). -/
theorem nudgeUnchanged_iff (limit c : Nat) (d : Half) : nudgeUnchanged limit c d = true ↔
    offsetInRange d = d.toInt ∧ (nudged limit c (offsetInRange d) : Int) = c + offsetInRange d := by
  simp only [nudgeUnchanged, Bool.and_eq_true, decide_eq_true_eq]
  exact and_congr_right fun h => by rw [h]

/-! ### Requests of intake, watch, pipe, capture and output -/

/-- WATCH SET (R55, R56). -/
theorem execWatchSet_next (h : s.link.Free) (tag e m r l q : Byte) :
    let m' := max 1 (min m.toNat 63)
    let r' := max 1 (min r.toNat 15)
    let l' := max 1 (min l.toNat 15)
    let q' := max 1 (min q.toNat 192)
    execWatchSet tag e m r l q s = .next { s with
      watch := ⟨Table.fill 192 ⟨none, 0, .still⟩, false, if e = 0 then .off else .still, 0,
        ⟨decide (e ≠ 0), m', r', l', q'⟩⟩
      link := s.link.answered ⟨0x20, tag, [e, m, r, l, q]⟩
        (okIf (e.toNat ≤ 1 ∧ m' = m.toNat ∧ r' = r.toNat ∧ l' = l.toNat ∧ q' = q.toNat))
        [if e = 0 then 0 else 1, BitVec.ofNat 8 m', BitVec.ofNat 8 r', BitVec.ofNat 8 l', BitVec.ofNat 8 q'] } := by
  intro m' r' l' q'
  have hw : watchInRange e m r l q = ⟨decide (e ≠ 0), m', r', l', q'⟩ := watchInRange_eq e m r l q
  have hstatus : Status.ofUnchanged (watchUnchanged e m r l q) =
      okIf (e.toNat ≤ 1 ∧ m' = m.toNat ∧ r' = r.toNat ∧ l' = l.toNat ∧ q' = q.toNat) :=
    Status.ofUnchanged_eq (by simp [watchUnchanged, onOffInRange, hw, and_assoc])
  have hbytes : watchSettingsBytes (watchInRange e m r l q) =
      [if e = 0 then 0 else 1, BitVec.ofNat 8 m', BitVec.ofNat 8 r', BitVec.ofNat 8 l', BitVec.ofNat 8 q'] := by
    rw [hw]
    by_cases h0 : e = 0 <;> simp [watchSettingsBytes, flagByte, lowByte, h0]
  have hwatch : Watch.restarted (watchInRange e m r l q) =
      ⟨Table.fill 192 ⟨none, 0, .still⟩, false, if e = 0 then .off else .still, 0, ⟨decide (e ≠ 0), m', r', l', q'⟩⟩ := by
    rw [hw]
    by_cases h0 : e = 0 <;> simp [Watch.restarted, h0]
  refine (respond_next rfl h (step := watchSetStep e m r l q) rfl rfl).trans ?_
  rw [← hstatus, ← hbytes, ← hwatch]
  rfl

/-- PROFILE SET of a profile 0..3 (R88). -/
theorem execProfileSet_next (h : s.link.Free) {tag n g t l : Byte} {i : Fin 4} (hi : n.toNat = i.val) :
    let g' := min g.toNat 63
    let t' := min t.toNat 63
    let l' := min l.toNat 127
    execProfileSet tag n g t l s = .next { s with
      pipe := { s.pipe with profiles := s.pipe.profiles.set i ⟨g', t', l'⟩ }
      link := s.link.answered ⟨0x30, tag, [n, g, t, l]⟩ (okIf (g' = g.toNat ∧ t' = t.toNat ∧ l' = l.toNat))
        [n, BitVec.ofNat 8 g', BitVec.ofNat 8 t', BitVec.ofNat 8 l'] } := by
  intro g' t' l'
  have hp : profileInRange g t l = ⟨g', t', l'⟩ := profileInRange_eq g t l
  have hstatus : Status.ofUnchanged (decide (profileInRange g t l = ⟨g.toNat, t.toNat, l.toNat⟩)) =
      okIf (g' = g.toNat ∧ t' = t.toNat ∧ l' = l.toNat) := Status.ofUnchanged_eq (by simp [hp])
  have hstep : profileSetStep n g t l s =
      (s.withPipe { s.pipe with profiles := s.pipe.profiles.set i ⟨g', t', l'⟩ },
        Answer.inForce (decide (profileInRange g t l = ⟨g.toNat, t.toNat, l.toNat⟩)) ([n] ++ profileBytes ⟨g', t', l'⟩)) := by
    simp only [profileSetStep, index4_some hi, hp]
  rw [← hstatus]
  exact respond_next rfl h hstep rfl

/-- PROFILE SET of another number (R88). -/
theorem execProfileSet_refused (h : s.link.Free) {tag n g t l : Byte} (hn : 4 ≤ n.toNat) :
    execProfileSet tag n g t l s =
      .next { s with link := s.link.answered ⟨0x30, tag, [n, g, t, l]⟩ .refused [5] } := by
  have hstep : profileSetStep n g t l s = (s, Answer.refused .noSuchProfile) := by
    simp only [profileSetStep, index4_none hn]
  exact respond_next rfl h hstep rfl

/-- INTERVAL SET (R119, R130). -/
theorem execIntervalSet_next (h : s.link.Free) (tag p q : Byte) :
    let p' := max 1 p.toNat
    let q' := max 1 (min q.toNat 16)
    execIntervalSet tag p q s = .next { s with
      capture := { s.capture with prescale := p', postscale := q', frameCount := 0, postCount := 0 }
      link := s.link.answered ⟨0x4B, tag, [p, q]⟩ (okIf (p' = p.toNat ∧ q' = q.toNat))
        ([BitVec.ofNat 8 p', BitVec.ofNat 8 q'] ++ le16 (p' * q')) } := by
  intro p' q'
  have hp : clamp 1 255 p.toNat = p' := by
    rw [clamp_eq (by decide), min_eq_left (Nat.le_of_lt_succ p.isLt)]
  have hq : clamp 1 16 q.toNat = q' := clamp_eq (by decide) _
  have hstatus : Status.ofUnchanged (p' == p.toNat && q' == q.toNat) = okIf (p' = p.toNat ∧ q' = q.toNat) :=
    Status.ofUnchanged_eq (by simp)
  have hstep : intervalSetStep p q s =
      (s.withCapture { s.capture with prescale := p', postscale := q', frameCount := 0, postCount := 0 },
        Answer.inForce (p' == p.toNat && q' == q.toNat) ([lowByte p', lowByte q'] ++ le16 (p' * q'))) := by
    simp only [intervalSetStep, hp, hq]
  rw [← hstatus]
  exact respond_next rfl h hstep rfl

/-- BACKGROUND SET, the colour as sent (R112). -/
theorem execBackgroundSet_next (h : s.link.Free) (tag y cb cr : Byte) :
    execBackgroundSet tag y cb cr s = .next { s with
      output := { s.output with background := ⟨y, cb, cr⟩ }
      link := s.link.answered ⟨0x3D, tag, [y, cb, cr]⟩ .ok [] } :=
  respond_next rfl h (step := backgroundSetStep y cb cr) rfl rfl

/-- INTAKE ENABLE in DISABLED (R39). -/
theorem execIntakeEnable_disabled (h : s.link.Free) (tag : Byte) (hs : s.intake.state = .disabled) :
    execIntakeEnable tag s = .next { s with
      intake := { s.intake with state := .waiting, lossTimer := .running }
      link := s.link.answered ⟨0x18, tag, []⟩ .ok [] } := by
  have hstep : intakeEnableStep s =
      (s.withIntake { s.intake with state := .waiting, lossTimer := .running }, Answer.ok []) := by
    simp only [intakeEnableStep, hs]
  exact respond_next rfl h hstep rfl

/-- INTAKE ENABLE elsewhere (R39). -/
theorem execIntakeEnable_enabled (h : s.link.Free) (tag : Byte) (hs : s.intake.state ≠ .disabled) :
    execIntakeEnable tag s = .next { s with link := s.link.answered ⟨0x18, tag, []⟩ .ok [] } := by
  have hstep : intakeEnableStep s = (s, Answer.ok []) := by
    unfold intakeEnableStep
    split
    · exact absurd ‹_› hs
    · rfl
  exact respond_next rfl h hstep rfl

/-- INTAKE DISABLE with a frame FILLING gives its slot back (R40). -/
theorem execIntakeDisable_filling (h : s.link.Free) (tag : Byte) (hs : s.intake.state = .filling) :
    execIntakeDisable tag s = .next { s with
      slots := s.slots.abandonFilling
      intake := { s.intake with state := .disabled, current := none, lossTimer := .stopped }
      link := s.link.answered ⟨0x19, tag, []⟩ .ok [] } := by
  have hstep : intakeDisableStep s =
      (s.abandonFrame.withIntake { s.intake with state := .disabled, current := none, lossTimer := .stopped },
        Answer.ok []) := by
    simp only [intakeDisableStep, hs]
    rfl
  exact respond_next rfl h hstep rfl

/-- INTAKE DISABLE elsewhere (R40). -/
theorem execIntakeDisable_idle (h : s.link.Free) (tag : Byte) (hs : s.intake.state ≠ .filling) :
    execIntakeDisable tag s = .next { s with
      intake := { s.intake with state := .disabled, current := none, lossTimer := .stopped }
      link := s.link.answered ⟨0x19, tag, []⟩ .ok [] } := by
  have hstep : intakeDisableStep s =
      (s.withIntake { s.intake with state := .disabled, current := none, lossTimer := .stopped }, Answer.ok []) := by
    unfold intakeDisableStep
    split
    · exact absurd ‹_› hs
    · rfl
  exact respond_next rfl h hstep rfl

/-- STATS READ (R40). -/
theorem execStatsRead_next (h : s.link.Free) (tag : Byte) :
    let r := s.intake.stats
    let a := s.intake.area
    execStatsRead tag s = .next { s with
      intake := { s.intake with stats := { r with fresh := false } }
      link := s.link.answered ⟨0x1A, tag, []⟩ .ok
        (le32 r.frame.toNat ++ [BitVec.ofNat 8 r.meanLuma] ++ le16 r.focus ++
          [BitVec.ofNat 8 r.movingTiles, if r.fresh then 1 else 0] ++ le16 a.x ++ le16 a.y ++ le16 a.w ++ le16 a.h) } := by
  intro r a
  have hbytes : statsBytes s.intake = le32 r.frame.toNat ++ [BitVec.ofNat 8 r.meanLuma] ++ le16 r.focus ++
      [BitVec.ofNat 8 r.movingTiles, if r.fresh then 1 else 0] ++ le16 a.x ++ le16 a.y ++ le16 a.w ++ le16 a.h := by
    simp only [statsBytes, rectBytes, ← List.append_assoc]
    rfl
  rw [← hbytes]
  exact respond_next rfl h (step := statsReadStep) rfl rfl

/-- FOCUS AREA SET (R38). -/
theorem execFocusAreaSet_next (h : s.link.Free) (tag : Byte) (x y w k : Half) :
    let w' := max 64 (min (2 * (w.toNat / 2)) 2592)
    let k' := max 64 (min (2 * (k.toNat / 2)) 1944)
    let x' := min (2 * (x.toNat / 2)) (2592 - w')
    let y' := min (2 * (y.toNat / 2)) (1944 - k')
    execFocusAreaSet tag x y w k s = .next { s with
      intake := { s.intake with area := ⟨x', y', w', k'⟩ }
      link := s.link.answered ⟨0x1B, tag, halfBytes x ++ halfBytes y ++ halfBytes w ++ halfBytes k⟩
        (okIf (x' = x.toNat ∧ y' = y.toNat ∧ w' = w.toNat ∧ k' = k.toNat))
        (le16 x' ++ le16 y' ++ le16 w' ++ le16 k') } := by
  intro w' k' x' y'
  have ha : areaInRange ⟨x.toNat, y.toNat, w.toNat, k.toNat⟩ = ⟨x', y', w', k'⟩ := areaInRange_eq _
  have hstatus : Status.ofUnchanged (decide (areaInRange ⟨x.toNat, y.toNat, w.toNat, k.toNat⟩ =
      ⟨x.toNat, y.toNat, w.toNat, k.toNat⟩)) = okIf (x' = x.toNat ∧ y' = y.toNat ∧ w' = w.toNat ∧ k' = k.toNat) :=
    Status.ofUnchanged_eq (by simp [ha])
  refine (respond_next rfl h (step := focusAreaSetStep ⟨x.toNat, y.toNat, w.toNat, k.toNat⟩) rfl rfl).trans ?_
  rw [← hstatus, ha]
  rfl

/-! ### View windows -/

/-- A view request of a number above 3 (R69, R71, R72). -/
theorem onWindow_none {n : Byte} (hn : 4 ≤ n.toNat) (s : State) (k : Fin 4 → State × Answer) :
    onWindow n s k = (s, Answer.refused .noSuchWindow) := by
  simp only [onWindow, index4_none hn]

/-- A view request of a window 0..3 (R69, R71, R72). -/
theorem onWindow_some {n : Byte} {i : Fin 4} (hi : n.toNat = i.val) (s : State) (k : Fin 4 → State × Answer) :
    onWindow n s k = k i := by
  simp only [onWindow, index4_some hi]

/-- VIEW SET of a window 0..3: the current zoom stays (R69). -/
theorem execViewSet_next (h : s.link.Free) (tag : Byte) {n : Byte} (z x y r : Half) {i : Fin 4} (hi : n.toNat = i.val) :
    let w : Window := { s.views.get i with
      target := max 256 (min z.toNat 2048), cx := min x.toNat 2591, cy := min y.toNat 1943, rate := min r.toNat 255 }
    execViewSet tag n z x y r s = .next { s with
      views := s.views.set i w
      link := s.link.answered ⟨0x28, tag, [n] ++ halfBytes z ++ halfBytes x ++ halfBytes y ++ halfBytes r⟩
        (okIf (w.target = z.toNat ∧ w.cx = x.toNat ∧ w.cy = y.toNat ∧ w.rate = r.toNat)) (windowBytes w) } := by
  intro w
  have hw : (⟨(s.views.get i).zoom, zoomInRange z.toNat, clamp 0 255 r.toNat, columnInRange x.toNat,
      rowInRange y.toNat⟩ : Window) = w := by
    simp only [w, zoomInRange, columnInRange, rowInRange, clamp_eq (Nat.zero_le _),
      clamp_eq (show 256 ≤ 2048 by decide), Nat.zero_max]
  have hstep : viewSetStep n z x y r s = (s.setWindow i w,
      Answer.inForce (w.target == z.toNat && w.cx == x.toNat && w.cy == y.toNat && w.rate == r.toNat)
        (windowBytes w)) := by
    rw [viewSetStep, onWindow_some hi, ← hw]
  have hstatus : Status.ofUnchanged (w.target == z.toNat && w.cx == x.toNat && w.cy == y.toNat && w.rate == r.toNat) =
      okIf (w.target = z.toNat ∧ w.cx = x.toNat ∧ w.cy = y.toNat ∧ w.rate = r.toNat) :=
    Status.ofUnchanged_eq (by simp [and_assoc])
  rw [← hstatus]
  exact respond_next rfl h hstep rfl

/-- VIEW NUDGE of a window 0..3: the centre alone (R71). -/
theorem execViewNudge_next (h : s.link.Free) (tag : Byte) {n : Byte} (x y : Half) {i : Fin 4} (hi : n.toNat = i.val) :
    let v := s.views.get i
    let dx := max (-1024) (min x.toInt 1023)
    let dy := max (-1024) (min y.toInt 1023)
    let w : Window := { v with
      cx := (max 0 (min ((v.cx : Int) + dx) 2591)).toNat
      cy := (max 0 (min ((v.cy : Int) + dy) 1943)).toNat }
    execViewNudge tag n x y s = .next { s with
      views := s.views.set i w
      link := s.link.answered ⟨0x29, tag, [n] ++ halfBytes x ++ halfBytes y⟩
        (okIf (dx = x.toInt ∧ dy = y.toInt ∧ (w.cx : Int) = v.cx + dx ∧ (w.cy : Int) = v.cy + dy)) (windowBytes w) } := by
  intro v dx dy w
  have hx : nudged 2591 v.cx (offsetInRange x) = w.cx := by rw [offsetInRange_eq, nudged_eq]; rfl
  have hy : nudged 1943 v.cy (offsetInRange y) = w.cy := by rw [offsetInRange_eq, nudged_eq]; rfl
  have hstep : viewNudgeStep n x y s = (s.setWindow i w,
      Answer.inForce (nudgeUnchanged 2591 v.cx x && nudgeUnchanged 1943 v.cy y) (windowBytes w)) := by
    rw [viewNudgeStep, onWindow_some hi]
    dsimp only
    rw [hx, hy]
  have hstatus : Status.ofUnchanged (nudgeUnchanged 2591 v.cx x && nudgeUnchanged 1943 v.cy y) =
      okIf (dx = x.toInt ∧ dy = y.toInt ∧ (w.cx : Int) = v.cx + dx ∧ (w.cy : Int) = v.cy + dy) := by
    refine Status.ofUnchanged_eq ?_
    rw [Bool.and_eq_true, nudgeUnchanged_iff, nudgeUnchanged_iff, hx, hy, offsetInRange_eq, offsetInRange_eq]
    exact and_and_and_comm.trans and_assoc
  rw [← hstatus]
  exact respond_next rfl h hstep rfl

/-- VIEW READ of a window 0..3 (R72). -/
theorem execViewRead_next (h : s.link.Free) (tag : Byte) {n : Byte} {i : Fin 4} (hi : n.toNat = i.val) :
    let v := s.views.get i
    execViewRead tag n s = .next { s with
      link := s.link.answered ⟨0x2A, tag, [n]⟩ .ok (windowBytes v ++ [if v.zoom = v.target then 0 else 1]) } := by
  intro v
  have hglide : flagByte v.gliding = if v.zoom = v.target then 0 else 1 := by
    by_cases e : v.zoom = v.target <;> simp [flagByte, Window.gliding, e]
  have hstep : viewReadStep n s = (s, Answer.ok (windowBytes v ++ [flagByte v.gliding])) := onWindow_some hi s _
  rw [← hglide]
  exact respond_next rfl h hstep rfl

end Sys2Proof.Machine
end

section
/-! The settings requests. -/

open Sys2Proof Sys2Proof.Machine

/-- Settles O25, request by request. -/
theorem settingsBroughtIntoRange : Obligations.SettingsBroughtIntoRange := by
  refine ⟨fun tag e m r l q s h => execWatchSet_next h tag e m r l q, fun tag n g t l s h => ?profile,
    fun tag p q s h => execIntervalSet_next h tag p q, fun tag y cb cr s h => execBackgroundSet_next h tag y cb cr,
    fun tag s h => ?intake, fun tag s h => execStatsRead_next h tag,
    fun tag x y w k s h => execFocusAreaSet_next h tag x y w k, fun tag n z x y r s h => ?view⟩
  case profile =>
    exact ⟨fun i hi => execProfileSet_next h hi, fun hn => execProfileSet_refused h hn⟩
  case intake =>
    exact ⟨execIntakeEnable_disabled h tag, execIntakeEnable_enabled h tag, execIntakeDisable_filling h tag,
      execIntakeDisable_idle h tag⟩
  case view =>
    exact ⟨fun hn => ⟨respond_next rfl h (step := viewSetStep n z x y r) (onWindow_none hn s _) rfl,
        respond_next rfl h (step := viewNudgeStep n x y) (onWindow_none hn s _) rfl,
        respond_next rfl h (step := viewReadStep n) (onWindow_none hn s _) rfl⟩,
      fun i hi => ⟨execViewSet_next h tag z x y r hi, execViewNudge_next h tag x y hi, execViewRead_next h tag hi⟩⟩

end

section
/-! SUPPORT. What the running sums hold once rows of a whole image have been summed (R34 to R36). -/

namespace Sys2Proof.Machine

open Finset (range)

variable {img : Image} {area : Rect}

/-! ### Rows of a whole image -/

/-- A whole image has 1944 rows (R24). -/
theorem wholeImage_length (h : wholeImage img = true) : img.length = 1944 := by
  simp only [wholeImage, Bool.and_eq_true, beq_iff_eq] at h
  exact h.1

/-- A row of a whole image has 5184 bytes (R24). -/
theorem wholeImage_row (h : wholeImage img = true) {y : Nat} (hy : y < 1944) : (img.getD y []).length = 5184 := by
  have hlen := wholeImage_length h
  simp only [wholeImage, Bool.and_eq_true, beq_iff_eq, List.all_eq_true] at h
  rw [List.getD_eq_getElem _ _ (hlen ▸ hy)]
  exact h.2 _ (List.getElem_mem _)

/-- The lumas of a line are its odd bytes (R24). -/
theorem lineLumas_eq (line : List Byte) :
    lineLumas line = (List.range (line.length / 2)).map fun x => (line.getD (2 * x + 1) 0).toNat := by
  induction line using lineLumas.induct with
  | case1 b y rest ih =>
    have hlen : (b :: y :: rest).length / 2 = rest.length / 2 + 1 := by simp only [List.length_cons]; omega
    rw [hlen, List.range_succ_eq_map, lineLumas, ih]
    simp [Function.comp_def, Nat.mul_add]
  | case2 line h =>
    match line, h with
    | [], _ => rfl
    | [_], _ => simp [lineLumas]
    | a :: b :: rest, h => exact absurd rfl (h a b rest)

/-- The lumas of a row of a whole image (R24). -/
theorem lineLumas_row (h : wholeImage img = true) {y : Nat} (hy : y < 1944) :
    lineLumas (img.getD y []) = (List.range 2592).map fun x => frameLuma img x y := by
  rw [lineLumas_eq, wholeImage_row h hy]
  rfl

/-- A sum over the first numbers, as a list and as a finite set. -/
theorem sum_map_range (g : Nat → Nat) (n : Nat) : ((List.range n).map g).sum = ∑ x ∈ range n, g x := rfl

/-- The lumas of a row that lie in a column of tiles (R35). -/
theorem tile_part (g : Nat → Nat) {c : Nat} (hc : c < 16) :
    ((((List.range 2592).map g).drop (162 * c)).take 162).sum = ∑ x ∈ range 162, g (162 * c + x) := by
  rw [← sum_map_range]
  congr 1
  apply List.ext_getElem
  · simp only [List.length_take, List.length_drop, List.length_map, List.length_range]
    omega
  · intro n h1 h2
    simp

/-! ### The sums of the first rows -/

/-- The running sums after the first rows of an image have been summed, each in its turn (R29). -/
def measured (img : Image) (area : Rect) : Nat → Sums
  | 0 => Sums.zero
  | k + 1 => (measured img area k).addLine area (frameLuma img) k (img.getD k [])

/-- The luma of every pixel of the rows summed (R34). -/
theorem measured_luma (h : wholeImage img = true) {k : Nat} (hk : k ≤ 1944) :
    (measured img area k).luma = ∑ y ∈ range k, ∑ x ∈ range 2592, frameLuma img x y := by
  induction k with
  | zero => rfl
  | succ k ih =>
    rw [Finset.sum_range_succ, ← ih (Nat.le_of_succ_le hk), ← sum_map_range, ← lineLumas_row h hk]
    rfl

/-- The luma of a tile's pixels in the rows summed (R35). -/
theorem measured_tiles (h : wholeImage img = true) (t : Fin 192) {k : Nat} (hk : k ≤ 1944) :
    (measured img area k).tiles.get t = ∑ y ∈ range (min (k - 162 * (t.val / 16)) 162),
      ∑ x ∈ range 162, frameLuma img (162 * (t.val % 16) + x) (162 * (t.val / 16) + y) := by
  induction k with
  | zero => simp [measured, Sums.zero]
  | succ k ih =>
    have hget : (measured img area (k + 1)).tiles.get t =
        if t.val / 16 = k / 162 then (measured img area k).tiles.get t +
          (((lineLumas (img.getD k [])).drop (162 * (t.val % 16))).take 162).sum
        else (measured img area k).tiles.get t := Table.get_mapIdx _ _ _
    rw [hget, ih (Nat.le_of_succ_le hk)]
    split
    · rename_i hrow
      have hbefore : min (k - 162 * (t.val / 16)) 162 = k % 162 := by omega
      have hafter : min (k + 1 - 162 * (t.val / 16)) 162 = k % 162 + 1 := by omega
      have hy : 162 * (t.val / 16) + k % 162 = k := by omega
      rw [hbefore, hafter, Finset.sum_range_succ, hy, lineLumas_row h hk, tile_part _ (Nat.mod_lt _ (by decide))]
    · rename_i hrow
      congr 2
      omega

/-- A whole frame's tile sums (R35). -/
theorem measured_tiles_whole (h : wholeImage img = true) (t : Fin 192) :
    (measured img area 1944).tiles.get t = ∑ y ∈ range 162, ∑ x ∈ range 162,
      frameLuma img (162 * (t.val % 16) + x) (162 * (t.val / 16) + y) := by
  have hall : min (1944 - 162 * (t.val / 16)) 162 = 162 := by have := t.isLt; omega
  rw [measured_tiles h t le_rfl, hall]

/-- The focus sums of the rows that are in (R29, R36). -/
theorem measured_focus {k : Nat} (hk : k ≤ 1944) :
    (measured img area k).focus = ∑ y ∈ range (focusRows k), focusRowIn (frameLuma img) area y := by
  induction k with
  | zero => rfl
  | succ k ih =>
    have hadd : (measured img area (k + 1)).focus = (measured img area k).focus +
        (if k = 0 then 0 else focusRowIn (frameLuma img) area (k - 1)) +
        (if k + 1 = Config.frameHeight then focusRowIn (frameLuma img) area k else 0) := rfl
    have hbefore : focusRows k = k - 1 := if_pos hk
    rw [hadd, ih (Nat.le_of_succ_le hk), hbefore]
    have hmid : (∑ y ∈ range (k - 1), focusRowIn (frameLuma img) area y) +
        (if k = 0 then 0 else focusRowIn (frameLuma img) area (k - 1)) =
          ∑ y ∈ range k, focusRowIn (frameLuma img) area y := by
      cases k with
      | zero => rfl
      | succ k => exact (Finset.sum_range_succ _ k).symm
    rw [hmid]
    by_cases hlast : k + 1 = Config.frameHeight
    · have hafter : focusRows (k + 1) = k + 1 := (if_neg (by omega)).trans hlast.symm
      rw [if_pos hlast, hafter, Finset.sum_range_succ]
    · have hlt : k + 1 < Config.frameHeight := Nat.lt_of_le_of_ne hk hlast
      have hafter : focusRows (k + 1) = k := if_pos hlt
      rw [if_neg hlast, hafter, Nat.add_zero]

/-- A whole frame's focus sum runs over the rows of its area (R36). -/
theorem measured_focus_whole (ha : area.y + area.h ≤ 1944) :
    (measured img area 1944).focus = ∑ y ∈ range area.h, focusRow (frameLuma img) area (area.y + y) := by
  have hall : focusRows 1944 = 1944 := rfl
  have hrows : (range 1944).filter (fun y => area.y ≤ y ∧ y < area.y + area.h) = Finset.Ico area.y (area.y + area.h) := by
    ext y
    simp only [Finset.mem_filter, Finset.mem_range, Finset.mem_Ico]
    omega
  simp only [measured_focus le_rfl, hall, focusRowIn]
  rw [← Finset.sum_filter, hrows, Finset.sum_Ico_eq_sum_range, Nat.add_sub_cancel_left]

/-! ### The blur of a whole picture -/

/-- A picture's luma, its edge pixels repeated outward (R36). -/
def edgeLuma (luma : Nat → Nat → Nat) (x y : Int) : Int := luma (min (max x 0) 2591).toNat (min (max y 0) 1943).toNat

/-- The blur of R36 on a picture whose edge pixels are repeated outward. -/
def edgeBlur (luma : Nat → Nat → Nat) (x y : Int) : Int :=
  (edgeLuma luma (x - 1) (y - 1) + 2 * edgeLuma luma x (y - 1) + edgeLuma luma (x + 1) (y - 1) +
    2 * edgeLuma luma (x - 1) y + 4 * edgeLuma luma x y + 2 * edgeLuma luma (x + 1) y +
    edgeLuma luma (x - 1) (y + 1) + 2 * edgeLuma luma x (y + 1) + edgeLuma luma (x + 1) (y + 1) + 8) / 16

/-- Inside the picture the pixel is its own. -/
theorem edgeLuma_inside (luma : Nat → Nat → Nat) {x y : Nat} (hx : x < 2592) (hy : y < 1944) :
    edgeLuma luma x y = luma x y := by
  unfold edgeLuma
  congr <;> omega

/-- The model's blur is R36's. -/
theorem blurAt_eq_edgeBlur (luma : Nat → Nat → Nat) {x y : Nat} (hx : x < 2592) (hy : y < 1944) :
    (blurAt luma Config.frameWidth Config.frameHeight x y : Int) = edgeBlur luma x y := by
  have left : (min (max ((x : Int) - 1) 0) 2591).toNat = x - 1 := by omega
  have here : (min (max (x : Int) 0) 2591).toNat = x := by omega
  have right : (min (max ((x : Int) + 1) 0) 2591).toNat = min (x + 1) (2592 - 1) := by omega
  have up : (min (max ((y : Int) - 1) 0) 1943).toNat = y - 1 := by omega
  have level : (min (max (y : Int) 0) 1943).toNat = y := by omega
  have down : (min (max ((y : Int) + 1) 0) 1943).toNat = min (y + 1) (1944 - 1) := by omega
  simp only [edgeBlur, edgeLuma, left, here, right, up, level, down, blurAt, Config.frameWidth, Config.frameHeight]
  push_cast
  rfl

/-- A row's focus sum is R36's. -/
theorem focusRow_eq (luma : Nat → Nat → Nat) (hw : area.x + area.w ≤ 2592) {y : Nat} (hy : y < 1944) :
    (focusRow luma area y : Int) =
      ∑ x ∈ range area.w, |edgeLuma luma (area.x + x) y - edgeBlur luma (area.x + x) y| := by
  rw [focusRow, sum_map_range, Nat.cast_sum]
  refine Finset.sum_congr rfl fun x hx => ?_
  have hin : area.x + x < 2592 := by have := Finset.mem_range.mp hx; omega
  rw [Int.natCast_natAbs, blurAt_eq_edgeBlur luma hin hy, ← edgeLuma_inside luma hin hy]
  push_cast
  rfl

end Sys2Proof.Machine
end

section
/-! SUPPORT. The rows of a frame written into its slot one after another (R29). -/

namespace Sys2Proof.Machine

variable {img : Image} {area : Rect}

/-! ### What a row's sums read -/

/-- The blur of a pixel reads the rows up to the one below it. -/
theorem blurAt_congr {g g' : Nat → Nat → Nat} {r x y : Nat} (h : ∀ x < 2592, ∀ y ≤ r, g x y = g' x y) (hx : x < 2592)
    (hy : y ≤ r) (hd : min (y + 1) 1943 ≤ r) :
    blurAt g Config.frameWidth Config.frameHeight x y = blurAt g' Config.frameWidth Config.frameHeight x y := by
  have hl : x - 1 < 2592 := by omega
  have hr : min (x + 1) (Config.frameWidth - 1) < 2592 := by simp only [Config.frameWidth]; omega
  have hu : y - 1 ≤ r := by omega
  have hd' : min (y + 1) (Config.frameHeight - 1) ≤ r := hd
  simp only [blurAt, h _ hl, h _ hx, h _ hr, hu, hy, hd']

/-- The focus sum of a row reads the rows up to the one below it. -/
theorem focusRowIn_congr {g g' : Nat → Nat → Nat} {r y : Nat} (h : ∀ x < 2592, ∀ y ≤ r, g x y = g' x y)
    (ha : area.x + area.w ≤ 2592) (hy : y ≤ r) (hd : min (y + 1) 1943 ≤ r) :
    focusRowIn g area y = focusRowIn g' area y := by
  unfold focusRowIn focusRow
  congr 2
  refine List.map_congr_left fun x hx => ?_
  have hin : area.x + x < 2592 := by have := List.mem_range.mp hx; omega
  rw [h _ hin _ hy, blurAt_congr h hin hy hd]

/-- A line's sums read no row below it. -/
theorem Sums.addLine_congr {g g' : Nat → Nat → Nat} {row : Nat} (h : ∀ x < 2592, ∀ y ≤ row, g x y = g' x y)
    (ha : area.x + area.w ≤ 2592) (s : Sums) (line : List Byte) :
    s.addLine area g row line = s.addLine area g' row line := by
  have above : (if row = 0 then 0 else focusRowIn g area (row - 1)) =
      if row = 0 then 0 else focusRowIn g' area (row - 1) := by
    split
    · rfl
    · exact focusRowIn_congr h ha (by omega) (by omega)
  have last : (if row + 1 = Config.frameHeight then focusRowIn g area row else 0) =
      if row + 1 = Config.frameHeight then focusRowIn g' area row else 0 := by
    split
    · rename_i hlast
      simp only [Config.frameHeight] at hlast
      exact focusRowIn_congr h ha le_rfl (by omega)
    · rfl
  simp only [Sums.addLine, above, last]

/-! ### Rows in the slot -/

/-- A row written right after the rows before it. -/
theorem Image.writeRow_take (old : Image) {k : Nat} (hk : k ≤ old.length) (line : List Byte) :
    (Image.writeRow old k line).take (k + 1) = old.take k ++ [line] := by
  unfold Image.writeRow
  split
  · rename_i hlt
    rw [List.take_add_one, List.getElem?_set_self hlt, List.take_set_of_le le_rfl]
    rfl
  · have hlen : k = old.length := by omega
    subst hlen
    simp

/-- Rows agree up to a count where the images cut there do. -/
theorem imageLuma_of_take {old : Image} {k : Nat} (h : wholeImage img = true) (hk : k ≤ 1944)
    (hrows : old.take k = img.take k) (slot : Nat) {x y : Nat} (hx : x < 2592) (hy : y < k) :
    imageLuma slot old x y = frameLuma img x y := by
  have hin : y < img.length := by rw [wholeImage_length h]; omega
  have hrow : old[y]? = some (img.getD y []) := by
    rw [← List.getElem?_take_of_lt hy, hrows, List.getElem?_take_of_lt hy, List.getElem?_eq_getElem hin,
      List.getD_eq_getElem _ _ hin]
  have hbyte : 2 * x + 1 < (img.getD y []).length := by rw [wholeImage_row h (hy.trans_le hk)]; omega
  simp only [imageLuma, imageByte, hrow, List.getElem?_eq_getElem hbyte, frameLuma, List.getD_eq_getElem _ _ hbyte]

/-- The part while a frame of known rows fills slot `i`: `k` of them have been written and summed. -/
structure State.Measuring (t : State) (f : CurrentFrame) (i : Fin 12) (img : Image) (k : Nat) : Prop where
  state : t.intake.state = .filling
  current : t.intake.current = some { f with lines := k, sums := measured img f.area k }
  rows : (t.slots.get i).image.take k = img.take k

/-- One row more. -/
theorem State.Measuring.line {t : State} {f : CurrentFrame} {i : Fin 12} {k : Nat} (h : t.Measuring f i img k)
    (himg : wholeImage img = true) (hi : f.slot = some i) (hd : f.damaged = false) (ha : f.area.x + f.area.w ≤ 2592)
    (hk : k < 1944) : ∃ u, exec (.lineArrival (img.getD k [])) t = .next u ∧ u.Measuring f i img (k + 1) := by
  have hlen := wholeImage_length himg
  have hwritten : k ≤ (t.slots.get i).image.length := by
    have := congrArg List.length h.rows
    simp only [List.length_take] at this
    omega
  have hrows : (Image.writeRow (t.slots.get i).image k (img.getD k [])).take (k + 1) = img.take (k + 1) := by
    rw [Image.writeRow_take _ hwritten, h.rows, List.take_add_one,
      List.getD_eq_getElem _ _ (hlen ▸ hk), List.getElem?_eq_getElem (hlen ▸ hk)]
    rfl
  have hexec : exec (.lineArrival (img.getD k [])) t =
      .next (t.takeLine { f with lines := k, sums := measured img f.area k } (img.getD k [])).transmit := by
    show execLineArrival _ t = _
    simp only [execLineArrival, h.state, h.current, finish]
  have htake := State.takeLine_writes (s := t) (f := { f with lines := k, sums := measured img f.area k }) hi
    (wholeImage_row himg hk) hd hk
  refine ⟨_, hexec, ?_, ?_, ?_⟩
  · rw [State.transmit_intake, htake]
    exact h.state
  · rw [State.transmit_intake, htake]
    have hsums := Sums.addLine_congr (g' := frameLuma img)
      (fun x hx y hy => imageLuma_of_take himg hk hrows i.val hx (Nat.lt_succ_of_le hy)) ha
      (measured img f.area k) (img.getD k [])
    exact congrArg (fun x => some { f with lines := k + 1, sums := x }) hsums
  · rw [State.transmit_slots, htake]
    simp only [State.withIntake_slots, State.withSlots_slots, Table.get_set_same]
    exact hrows

/-- A command after others. -/
theorem runAll_snoc {l : List Instr} {c : Instr} {s t u : State} (h : runAll l s = .next t) (hc : exec c t = .next u) :
    runAll (l ++ [c]) s = .next u := by
  induction l generalizing s with
  | nil =>
    cases h
    simp only [List.nil_append, runAll, hc]
  | cons d l ih =>
    cases hd : exec d s with
    | next v =>
      simp only [List.cons_append, runAll, hd] at h ⊢
      exact ih h
    | fault r => cases r
    | refused r =>
      simp only [runAll, hd] at h
      cases h

/-- The first rows of a whole image, line after line. -/
theorem State.Measuring.lines {s : State} {f : CurrentFrame} {i : Fin 12} (h : s.Measuring f i img 0)
    (himg : wholeImage img = true) (hi : f.slot = some i) (hd : f.damaged = false) (ha : f.area.x + f.area.w ≤ 2592)
    {k : Nat} (hk : k ≤ 1944) :
    ∃ t, runAll ((img.take k).map .lineArrival) s = .next t ∧ t.Measuring f i img k := by
  induction k with
  | zero => exact ⟨s, rfl, h⟩
  | succ k ih =>
    obtain ⟨t, hrun, ht⟩ := ih (Nat.le_of_succ_le hk)
    obtain ⟨u, hexec, hu⟩ := ht.line himg hi hd ha hk
    have hlt : k < img.length := by rw [wholeImage_length himg]; exact hk
    have hnext : img.take (k + 1) = img.take k ++ [img.getD k []] := by
      rw [List.take_add_one, List.getElem?_eq_getElem hlt, List.getD_eq_getElem _ _ hlt]
      rfl
    refine ⟨u, ?_, hu⟩
    rw [hnext, List.map_append]
    exact runAll_snoc hrun hexec

end Sys2Proof.Machine
end

section
/-! A whole frame. -/

open Sys2Proof Sys2Proof.Machine

/-- Settles O22: each line keeps the rows and the sums what the image says they are so far, and the sums of all rows are the
frame's measurements. -/
theorem wholeFrameIsMeasured : Obligations.WholeFrameIsMeasured := by
  intro s f i img himg hstate hcurrent hi hlines hd hsums hw hh luma at_ blur
  have hstart : s.Measuring f i img 0 := by
    refine ⟨hstate, hcurrent.trans ?_, rfl⟩
    have hzero : measured img f.area 0 = f.sums := hsums.symm
    rw [hzero, ← hlines]
  obtain ⟨t, hrun, ht⟩ := hstart.lines himg hi hd hw le_rfl
  have hall : img.take 1944 = img := List.take_of_length_le (wholeImage_length himg).le
  rw [hall] at hrun
  refine ⟨t, hrun, ht.rows.trans hall, _, ht.current, rfl, hd, measured_luma himg le_rfl, measured_tiles_whole himg, ?_⟩
  show ((measured img f.area 1944).focus : Int) = _
  rw [measured_focus_whole hh, Nat.cast_sum]
  refine Finset.sum_congr rfl fun y hy => ?_
  have hin : f.area.y + y < 1944 := by have := Finset.mem_range.mp hy; omega
  rw [focusRow_eq luma hw hin]
  push_cast
  rfl

end

section
/-! SUPPORT. What leaves the host's settings alone: the changes of blocks that hold none, messages, captures, the writer and the
port (R38, R55, R76, R94, R102, R112, R115, R118, R161, R176). -/

namespace Sys2Proof.Machine

variable (s t : State)

/-! ### Blocks -/

@[simp] theorem State.withSlots_settings (x : Slots) : (s.withSlots x).settings = s.settings := rfl
@[simp] theorem State.withViews_settings (x : Table Window 4) : (s.withViews x).settings = s.settings := rfl
@[simp] theorem State.setWindow_settings (i : Fin 4) (w : Window) : (s.setWindow i w).settings = s.settings := rfl
@[simp] theorem State.withStore_settings (x : Store) : (s.withStore x).settings = s.settings := rfl
@[simp] theorem State.withErrors_settings (x : ErrorTable) : (s.withErrors x).settings = s.settings := rfl
@[simp] theorem State.withOpenChoice_settings (x : Nat) : (s.withOpenChoice x).settings = s.settings := rfl
@[simp] theorem State.withSchedule_settings (x : Schedule) : (s.withSchedule x).settings = s.settings := rfl

/-- Intake but its area (R38). -/
theorem State.withIntake_settings {x : Intake} (h : x.area = s.intake.area) :
    (s.withIntake x).settings = s.settings := by
  simp only [State.settings, State.withIntake, h]

/-- The watch but its settings (R55). -/
theorem State.withWatch_settings {x : Watch} (h : x.settings = s.watch.settings) :
    (s.withWatch x).settings = s.settings := by
  simp only [State.settings, State.withWatch, h]

/-- The pipe but its profiles (R76). -/
theorem State.withPipe_settings {x : Pipe} (h : x.profiles = s.pipe.profiles) :
    (s.withPipe x).settings = s.settings := by
  simp only [State.settings, State.withPipe, h]

/-- The output but its staged layout, background and mode (R94, R102, R112). -/
theorem State.withOutput_settings {x : Output} (hs : x.staged = s.output.staged)
    (hb : x.background = s.output.background) (hm : x.mode = s.output.mode) :
    (s.withOutput x).settings = s.settings := by
  simp only [State.settings, State.withOutput, hs, hb, hm]

/-- The capture unit but its settings and the interval values (R115, R118). -/
theorem State.withCapture_settings {x : Capture} (hs : x.settings = s.capture.settings)
    (hp : x.prescale = s.capture.prescale) (hq : x.postscale = s.capture.postscale) :
    (s.withCapture x).settings = s.settings := by
  simp only [State.settings, State.withCapture, hs, hp, hq]

/-- The link but its rate (R161). -/
theorem State.withLink_settings {x : Link} (h : x.rateIndex = s.link.rateIndex) :
    (s.withLink x).settings = s.settings := by
  simp only [State.settings, State.withLink, h]

/-- A notice record but its level (R176). -/
theorem State.withRecord_settings {k : Fin 14} {r : NoticeRecord} (h : r.level = (s.notices.get k).level) :
    (s.withNotices (s.notices.set k r)).settings = s.settings := by
  have hlevels : (s.notices.set k r).toList.map (·.level) = s.notices.toList.map (·.level) := by
    have hk : k.val < (s.notices.toList.map (·.level)).length := by simp [s.notices.length_eq]
    have hread : (s.notices.toList.map (·.level))[k.val] = r.level := by
      rw [List.getElem_map]
      exact h.symm
    simp only [Table.set, List.map_set, ← hread, List.set_getElem_self]
  simp only [State.settings, State.withNotices, hlevels]

/-! ### Messages -/

@[simp] theorem State.raise_settings (p : NoticePayload) : (s.raise p).settings = s.settings :=
  s.withRecord_settings rfl

@[simp] theorem State.raises_settings {α : Type} (p : α → NoticePayload) (l : List α) :
    (l.foldl (fun t a => t.raise (p a)) s).settings = s.settings := by
  induction l generalizing s with
  | nil => rfl
  | cons a l ih => rw [List.foldl_cons, ih, State.raise_settings]

@[simp] theorem State.recordError_settings (src : ErrorSource) (k : ErrorKind) (d : Nat) :
    (s.recordError src k d).settings = s.settings := by
  unfold State.recordError
  dsimp only
  split
  · exact s.withErrors_settings _
  · split
    · split <;> simp
    · split <;> simp

@[simp] theorem State.intakeError_settings (k : ErrorKind) (d : Nat) : (s.intakeError k d).settings = s.settings :=
  s.recordError_settings ..

@[simp] theorem State.beginNotice_settings (k : Fin 14) : (s.beginNotice k).settings = s.settings := by
  unfold State.beginNotice
  dsimp only
  split
  · rename_i p _
    let told := s.withLink { s.link with transmitter := .notice ⟨(s.notices.get k).count, p⟩ }
    exact (told.withRecord_settings (r := (s.notices.get k).begun) rfl).trans (s.withLink_settings rfl)
  · rfl

@[simp] theorem State.transmit_settings : s.transmit.settings = s.settings := by
  unfold State.transmit
  split
  · split
    · exact s.withLink_settings rfl
    · split
      · exact s.beginNotice_settings _
      · rfl
  · rfl

@[simp] theorem State.formReply_settings (code tag : Byte) (a : Answer) :
    (s.formReply code tag a).settings = s.settings := s.withLink_settings rfl

@[simp] theorem State.takeInHand_settings (r : Request) : (s.takeInHand r).settings = s.settings :=
  s.withLink_settings rfl

@[simp] theorem State.keepWaiting_settings (r : Request) : (s.keepWaiting r).settings = s.settings := by
  unfold State.keepWaiting
  split
  · exact s.withLink_settings rfl
  · exact s.recordError_settings ..

/-! ### Outcomes -/

/-- The state after a command that ends with the arbiter's choice. -/
@[simp] theorem stateAfter_finish : stateAfter (finish t) s = t.transmit := rfl

@[simp] theorem stateAfter_ignored : stateAfter (ignored s) s = s := rfl

/-- A request leaves the settings alone where its block's step does (R166 to R169). -/
theorem respond_settings (i : Instr) {step : State → State × Answer} (h : (step s).1.settings = s.settings) :
    (stateAfter (respond i s step) s).settings = s.settings := by
  unfold respond respondOrDefer
  split
  · simp [h]
  · simp
  · rfl

/-! ### The writer and the port (R147 to R154) -/

@[simp] theorem State.leaveQueue_settings : s.leaveQueue.settings = s.settings := by
  unfold State.leaveQueue
  split
  · rfl
  · simp

@[simp] theorem State.dropFull_settings : s.dropFull.settings = s.settings := by
  unfold State.dropFull
  split
  · rfl
  · simp

@[simp] theorem State.dropFailed_settings (cell : Nat) : (s.dropFailed cell).settings = s.settings := by
  unfold State.dropFailed
  split
  · rfl
  · simp

@[simp] theorem State.chooseCell_settings (tries : Nat) : (s.chooseCell tries).settings = s.settings := by
  unfold State.chooseCell
  split
  · exact s.dropFull_settings
  · split
    · rfl
    · split
      · rfl
      · exact s.dropFull_settings

@[simp] theorem beginSaves_settings (n : Nat) : (beginSaves n s).settings = s.settings := by
  induction n generalizing s with
  | zero => rfl
  | succ n ih =>
    unfold beginSaves
    split
    · rw [ih, State.chooseCell_settings]
    · rfl

@[simp] theorem State.runWriter_settings : s.runWriter.settings = s.settings := beginSaves_settings s _

@[simp] theorem State.arbitratePort_settings : s.arbitratePort.settings = s.settings := rfl

@[simp] theorem State.afterStep_settings : s.afterStep.settings = s.settings := s.runWriter_settings

@[simp] theorem State.endStep_settings : s.endStep.settings = s.settings := rfl

@[simp] theorem State.raiseStoreState_settings : s.raiseStoreState.settings = s.settings := s.raise_settings _

@[simp] theorem State.saveStepFailed_settings (cell : Nat) (k : ErrorKind) :
    (s.saveStepFailed cell k).settings = s.settings := by
  unfold State.saveStepFailed
  dsimp only
  split <;> simp

/-! ### Captures (R115 to R126) -/

@[simp] theorem State.missCapture_settings (src : Trigger) (r : MissReason) (frame : Word) :
    (s.missCapture src r frame).1.settings = s.settings := s.raise_settings _

@[simp] theorem State.takenCapture_settings (src : Trigger) (frame : Word) (slot : Fin 12) (lesson ordinal : Nat)
    (merged : Bool) : (s.takenCapture src frame slot lesson ordinal merged).1.settings = s.settings :=
  (State.raise_settings _ _).trans (s.withCapture_settings rfl rfl rfl)

@[simp] theorem State.jointCapture_settings (r : CaptureRead) (frame : Word) (focus : Nat) :
    (s.jointCapture r frame focus).1.settings = s.settings := by
  unfold State.jointCapture
  split
  · simp
  · split
    · simp
    · split
      · simp
      · split
        · simp
        · split <;> simp

@[simp] theorem State.completeCapture_settings (r : CaptureRead) : (s.completeCapture r).1.settings = s.settings := by
  unfold State.completeCapture
  split
  · simp
  · split <;> simp

@[simp] theorem State.trigger_settings (src : Trigger) (named : Option (Word × Nat)) :
    (s.trigger src named).settings = s.settings := by
  unfold State.trigger
  split
  · exact s.completeCapture_settings _
  · rfl

/-- A key sample leaves the settings and the interval values alone (R120). -/
theorem Capture.sampleKey_eq (c : Capture) (pressed : Bool) :
    ∃ k d, (c.sampleKey pressed).1 = { c with keyCounter := k, keyPressed := d } := by
  unfold Capture.sampleKey
  dsimp only
  generalize (if pressed then min (c.keyCounter + 1) 15 else c.keyCounter - 1) = k
  split
  · exact ⟨_, _, rfl⟩
  · split
    · exact ⟨_, _, rfl⟩
    · exact ⟨_, c.keyPressed, rfl⟩

@[simp] theorem State.sampledKey_settings (pressed : Bool) :
    (s.withCapture (s.capture.sampleKey pressed).1).settings = s.settings := by
  obtain ⟨k, d, h⟩ := s.capture.sampleKey_eq pressed
  rw [h]
  exact s.withCapture_settings rfl rfl rfl

theorem State.takeExpiry_settings (h : s.takeExpiry = some t) : t.settings = s.settings := by
  rcases s.takeExpiry_cases with ⟨-, e⟩ | ⟨n, -, e⟩ <;> rw [e] at h <;> cases h
  exact s.withCapture_settings rfl rfl rfl

@[simp] theorem State.beginEarly_settings (e : EarlyCapture) : (s.beginEarly e).1.settings = s.settings := by
  cases e with
  | key => exact s.sampledKey_settings true
  | interval =>
    unfold State.beginEarly
    dsimp only
    split
    · exact s.takeExpiry_settings _ ‹_›
    · rfl
  | request tag =>
    unfold State.beginEarly
    dsimp only
    split
    · exact s.takeInHand_settings _
    · exact s.keepWaiting_settings _

@[simp] theorem State.beginOvertaken_settings : s.beginOvertaken.1.settings = s.settings := by
  unfold State.beginOvertaken
  split
  · rfl
  · dsimp only
    split
    · rfl
    · simp

@[simp] theorem State.endCapture_settings (begun : Option BegunCapture) : (s.endCapture begun).settings = s.settings := by
  unfold State.endCapture
  split
  · rfl
  · dsimp only
    split <;> simp

end Sys2Proof.Machine
end

section
/-! SUPPORT. No event of a port or a timer changes a setting that the host made: sensor, flash and output one by one. -/

namespace Sys2Proof.Machine

variable (s : State)

/-! ### The sensor (R26 to R52) -/

@[simp] theorem State.beginFrame_settings : s.beginFrame.settings = s.settings := by
  unfold State.beginFrame
  dsimp only
  split
  · exact State.withIntake_settings _ rfl
  · exact (State.intakeError_settings _ _ _).trans (State.withIntake_settings _ rfl)

@[simp] theorem State.abandonFrame_settings : s.abandonFrame.settings = s.settings := rfl

@[simp] theorem State.closeUnfinished_settings : s.closeUnfinished.settings = s.settings := by
  unfold State.closeUnfinished
  split
  · split <;> simp
  · rfl

theorem execFrameStart_settings : (stateAfter (execFrameStart s) s).settings = s.settings := by
  unfold execFrameStart
  split <;> simp

@[simp] theorem State.takeLine_settings (f : CurrentFrame) (line : List Byte) :
    (s.takeLine f line).settings = s.settings := by
  have counted : ∀ g, (s.withIntake { s.intake with current := g }).settings = s.settings := fun _ =>
    s.withIntake_settings rfl
  unfold State.takeLine
  dsimp only
  split
  · split
    · exact counted _
    · exact (State.intakeError_settings _ _ _).trans (counted _)
  · split
    · exact counted _
    · split
      · exact counted _
      · exact State.withIntake_settings _ rfl

theorem execLineArrival_settings (line : List Byte) :
    (stateAfter (execLineArrival line s) s).settings = s.settings := by
  unfold execLineArrival
  split <;> simp

/-- A sample leaves the watch's settings alone (R44). -/
theorem Watch.sample_settings (w : Watch) (means : Table Nat 192) : (w.sample means).1.settings = w.settings := by
  unfold Watch.sample
  split
  · rfl
  · split <;> rfl

@[simp] theorem State.takeSample_settings (frame : Word) (focus : Nat) (means : Table Nat 192) :
    (s.takeSample frame focus means).settings = s.settings := by
  have sampled : (s.withWatch (s.watch.sample means).1).settings = s.settings :=
    s.withWatch_settings (s.watch.sample_settings means)
  unfold State.takeSample
  dsimp only
  split
  · exact (State.raise_settings _ _).trans sampled
  · exact (State.trigger_settings _ _ _).trans ((State.raise_settings _ _).trans sampled)
  · exact sampled

theorem State.handOn_settings (f : CurrentFrame) (begun : Option BegunCapture) :
    (s.handOn f begun).settings = s.settings := by
  unfold State.handOn
  refine (State.withIntake_settings _ rfl).trans ((State.takeSample_settings _ _ _ _).trans ?_)
  exact (State.withCapture_settings _ rfl rfl rfl).trans (s.endCapture_settings begun)

@[simp] theorem State.endGood_settings (f : CurrentFrame) (begun : Option BegunCapture) :
    (s.endGood f begun).settings = s.settings := by
  cases hi : f.slot with
  | some i =>
    rw [State.endGood_some hi, State.handOn_settings]
    exact State.withIntake_settings _ rfl
  | none =>
    rw [State.endGood_none hi, State.handOn_settings]
    exact State.withIntake_settings _ rfl

@[simp] theorem State.betweenFrames_settings : (s.withIntake s.intake.betweenFrames).settings = s.settings :=
  s.withIntake_settings rfl

@[simp] theorem State.endDamaged_settings (f : CurrentFrame) : (s.endDamaged f).settings = s.settings := by
  unfold State.endDamaged
  dsimp only
  split
  · exact (State.withIntake_settings _ rfl).trans (s.intakeError_settings _ _)
  · exact State.withIntake_settings _ rfl

theorem execFrameEnd_settings : (stateAfter (execFrameEnd s) s).settings = s.settings := by
  unfold execFrameEnd
  split
  · simp
  · split
    · simp
    · exact (State.transmit_settings _).trans (State.withIntake_settings _ rfl)
    · simp
    · rfl

theorem execLossTimeout_settings : (stateAfter (execLossTimeout s) s).settings = s.settings := by
  unfold execLossTimeout
  split
  · exact (State.transmit_settings _).trans ((State.raise_settings _ _).trans (s.withIntake_settings rfl))
  · rfl

/-! ### The timers and the key (R118, R120, R164) -/

theorem execKeySample_settings (pressed : Bool) : (stateAfter (execKeySample pressed s) s).settings = s.settings := by
  unfold execKeySample
  dsimp only
  split <;> simp

theorem execIntervalExpiry_settings : (stateAfter (execIntervalExpiry s) s).settings = s.settings := by
  unfold execIntervalExpiry
  split
  · simpa using s.takeExpiry_settings _ ‹_›
  · rfl

theorem State.discardPartial_settings (n : Nat) : (s.discardPartial n).settings = s.settings :=
  (State.recordError_settings _ _ _ _).trans (s.withLink_settings rfl)

theorem execInterByteTimeout_settings : (stateAfter (execInterByteTimeout s) s).settings = s.settings := by
  unfold execInterByteTimeout
  split
  · exact (State.transmit_settings _).trans (s.discardPartial_settings _)
  · rfl

/-! ### The flash (R136 to R159) -/

theorem execIdentityReadEnd_settings (size : Option Nat) :
    (stateAfter (execIdentityReadEnd size s) s).settings = s.settings := by
  unfold execIdentityReadEnd
  split
  · split
    · simp [State.mediaFault]
    · split <;> simp
  · rfl

theorem execHeaderReadEnd_settings (h : Option (List Byte)) :
    (stateAfter (execHeaderReadEnd h s) s).settings = s.settings := by
  unfold execHeaderReadEnd
  split
  · dsimp only
    split <;> split <;> simp
  · rfl

theorem execFormatEraseEnd_settings (success : Bool) :
    (stateAfter (execFormatEraseEnd success s) s).settings = s.settings := by
  unfold execFormatEraseEnd
  split
  · dsimp only
    split <;> cases success <;> simp
  · rfl

theorem execSaveEraseEnd_settings (success : Bool) :
    (stateAfter (execSaveEraseEnd success s) s).settings = s.settings := by
  unfold execSaveEraseEnd
  split
  · dsimp only
    split <;> simp
  · rfl

theorem execProgramEnd_settings (success : Bool) :
    (stateAfter (execProgramEnd success s) s).settings = s.settings := by
  unfold execProgramEnd
  split
  · dsimp only
    split <;> simp
  · rfl

@[simp] theorem State.committed_settings (cell : Nat) : (s.committed cell).settings = s.settings := by
  unfold State.committed
  split
  · rfl
  · simp

theorem execCommitEnd_settings (success : Bool) :
    (stateAfter (execCommitEnd success s) s).settings = s.settings := by
  unfold execCommitEnd
  split
  · dsimp only
    split <;> simp
  · rfl

theorem execReclaimEraseEnd_settings (success : Bool) :
    (stateAfter (execReclaimEraseEnd success s) s).settings = s.settings := by
  unfold execReclaimEraseEnd
  split
  · dsimp only
    split <;> simp
  · rfl

@[simp] theorem State.continueDelete_settings (d : DeleteWork) : (s.continueDelete d).settings = s.settings := by
  unfold State.continueDelete
  split
  · rfl
  · simp [State.endDelete]

@[simp] theorem State.tombstoned_settings (id ordinal cell : Nat) (success : Bool) :
    (s.tombstoned id ordinal cell success).settings = s.settings := by
  unfold State.tombstoned
  dsimp only
  split <;> simp

@[simp] theorem State.endLessonTombstone_settings (success : Bool) :
    (s.endLessonTombstone success).settings = s.settings := by
  unfold State.endLessonTombstone
  split
  · simp
  · rfl

@[simp] theorem State.endPageDelete_settings (id : Nat) (tag : Byte) (success : Bool) :
    (s.endPageDelete id tag success).settings = s.settings := by
  simp [State.endPageDelete]

theorem execTombstoneEnd_settings (success : Bool) :
    (stateAfter (execTombstoneEnd success s) s).settings = s.settings := by
  unfold execTombstoneEnd
  split
  · dsimp only
    split <;> simp
  · rfl

@[simp] theorem State.recallDone_settings (r : RecallLoad) (c : CellRead) : (s.recallDone r c).settings = s.settings := by
  unfold State.recallDone State.restoreView
  dsimp only
  split <;> simp

@[simp] theorem State.recallFailed_settings (r : RecallLoad) : (s.recallFailed r).settings = s.settings := by
  simp [State.recallFailed]

theorem execRecallReadEnd_settings (read : Option CellRead) :
    (stateAfter (execRecallReadEnd read s) s).settings = s.settings := by
  unfold execRecallReadEnd
  split
  · dsimp only
    split
    · split <;> simp
    · simp
  · rfl

theorem execExportReadEnd_settings (data : Option (List Byte)) :
    (stateAfter (execExportReadEnd data s) s).settings = s.settings := by
  unfold execExportReadEnd
  split
  · dsimp only
    split <;> simp
  · rfl

/-! ### The projector output (R99 to R101, R109) -/

@[simp] theorem State.endScan_settings : s.endScan.settings = s.settings := by
  unfold State.endScan
  split
  · exact (State.withOutput_settings _ rfl rfl rfl).trans (State.withPipe_settings _ rfl)
  · rfl

theorem execOutputFrameEnd_settings : (stateAfter (execOutputFrameEnd s) s).settings = s.settings := by
  unfold execOutputFrameEnd
  split
  · simp
  · rfl

/-- A pending commit copies the staged layout, and no more of the settings moves (R104). -/
@[simp] theorem State.startFrame_settings : (s.withOutput s.output.startFrame).settings = s.settings := by
  unfold Output.startFrame Output.copyStaged
  dsimp only
  split <;> exact s.withOutput_settings rfl rfl rfl

@[simp] theorem State.glideStep_settings : s.glideStep.settings = s.settings := by
  unfold State.glideStep
  dsimp only
  split <;> simp

@[simp] theorem State.startingFrame_settings : s.startingFrame.settings = s.settings := by
  have hout : s.glideStep.output = s.output := by rw [s.glideStep_eq]; rfl
  unfold State.startingFrame
  dsimp only
  exact (State.withOutput_settings _ (by rw [hout]) (by rw [hout]) (by rw [hout])).trans s.glideStep_settings

@[simp] theorem State.enterRun_settings : s.enterRun.settings = s.settings :=
  (State.raise_settings _ _).trans (s.withOutput_settings rfl rfl rfl)

/-- A frame end, a recall's end, a freeze or an unfreeze taken between two pin requests (R109). -/
theorem runMove_settings (m : TagMove) : (runMove m s).settings = s.settings := by
  cases m with
  | frameEnd => exact execFrameEnd_settings s
  | recallReadEnd read => exact execRecallReadEnd_settings s read
  | freeze tag which source =>
    refine respond_settings s (.freeze tag which source) ?_
    unfold freezeStep
    split
    · split <;> simp
    · rfl
  | unfreeze tag which =>
    refine respond_settings s (.unfreeze tag which) ?_
    unfold unfreezeStep
    split <;> simp

@[simp] theorem runMoves_settings (moves : List TagMove) : (runMoves moves s).settings = s.settings := by
  induction moves generalizing s with
  | nil => rfl
  | cons m rest ih => rw [runMoves_cons, ih, runMove_settings]

@[simp] theorem resolvePanes_settings (mode : Fin 4) (page : PageState) (panes : Table Pane 4) (between : Between) :
    (resolvePanes mode page panes between s).1.settings = s.settings := by
  simp [resolvePanes, resolveTurn]

@[simp] theorem State.countInterval_settings : s.countInterval.settings = s.settings := by
  rw [State.countInterval_eq]
  rcases s.capture.countFrame_cases with ⟨-, e⟩ | ⟨-, -, e⟩ | ⟨-, -, e⟩ <;> rw [e] <;>
    exact s.withCapture_settings rfl rfl rfl

@[simp] theorem State.runFrame_settings (between : Between) : (s.runFrame between).settings = s.settings := by
  unfold State.runFrame
  dsimp only
  refine (State.countInterval_settings _).trans ((State.withPipe_settings _ rfl).trans ?_)
  refine (State.glideStep_settings _).trans ((State.withOutput_settings _ rfl rfl rfl).trans ?_)
  exact resolvePanes_settings ..

@[simp] theorem State.runScheduled_settings : s.runScheduled.settings = s.settings := by
  obtain ⟨x, h⟩ := s.takeBetween_frame
  unfold State.runScheduled
  dsimp only
  rw [State.runFrame_settings, h, State.withSchedule_settings]

theorem execOutputFrameStart_settings : (stateAfter (execOutputFrameStart s) s).settings = s.settings := by
  unfold execOutputFrameStart
  dsimp only
  split
  · rfl
  · split <;> simp
  · simp

/-! ### Every event -/

/-- An event of a port or a timer changes no setting. -/
theorem exec_settings {c : Instr} (h : isPlainEvent c = true) : (stateAfter (exec c s) s).settings = s.settings := by
  cases c with
  | frameStart => exact execFrameStart_settings s
  | lineArrival line => exact execLineArrival_settings s line
  | frameEnd => exact execFrameEnd_settings s
  | lossTimeout => exact execLossTimeout_settings s
  | outputFrameStart => exact execOutputFrameStart_settings s
  | outputFrameEnd => exact execOutputFrameEnd_settings s
  | intervalExpiry => exact execIntervalExpiry_settings s
  | keySample pressed => exact execKeySample_settings s pressed
  | interByteTimeout => exact execInterByteTimeout_settings s
  | identityReadEnd size => exact execIdentityReadEnd_settings s size
  | headerReadEnd header => exact execHeaderReadEnd_settings s header
  | formatEraseEnd success => exact execFormatEraseEnd_settings s success
  | saveEraseEnd success => exact execSaveEraseEnd_settings s success
  | programEnd success => exact execProgramEnd_settings s success
  | commitEnd success => exact execCommitEnd_settings s success
  | reclaimEraseEnd success => exact execReclaimEraseEnd_settings s success
  | tombstoneEnd success => exact execTombstoneEnd_settings s success
  | recallReadEnd read => exact execRecallReadEnd_settings s read
  | exportReadEnd data => exact execExportReadEnd_settings s data
  | _ => cases h

end Sys2Proof.Machine
end

section
/-! The host's settings under the events of ports and timers. -/

open Sys2Proof Sys2Proof.Machine

/-- Settles O5, event by event: each is made of changes that leave the settings alone. -/
theorem portEventsKeepHostSettings : Obligations.PortEventsKeepHostSettings := by
  intro c s t hc h
  have hkept := exec_settings s hc
  rw [h] at hkept
  exact hkept

end

section
/-! SUPPORT. The page watch: what a tile's judgement and the watch's sample answer, case by case (R44 to R50). -/

namespace Sys2Proof.Machine

variable {w : WatchSettings} {t : Tile} {previous new counter : Nat} {before : TileState}

/-! ### A tile (R45, R46) -/

/-- The magnitude of R45's difference, taken over the integers. -/
theorem movingSample_eq_true_iff (threshold previous new : Nat) :
    movingSample threshold previous new = true ↔ (threshold : Int) ≤ |(new : Int) - previous| := by
  rw [movingSample, decide_eq_true_iff, Int.abs_eq_natAbs, Int.ofNat_le]

/-- The counter's top end makes a tile MOVING (R46). -/
theorem tileState_of_eq_length (h : counter = w.length) : tileState w counter before = .moving := if_pos h

/-- The counter's low end makes a tile STILL, as the top end lies above it (R46). -/
theorem tileState_of_eq_zero (hl : 1 ≤ w.length) (h : counter = 0) : tileState w counter before = .still := by
  rw [tileState, if_neg (by omega), if_pos h]

/-- Between the two ends a tile keeps its state (R46). -/
theorem tileState_of_between (hpos : 1 ≤ counter) (hlt : counter < w.length) :
    tileState w counter before = before := by
  rw [tileState, if_neg (by omega), if_neg (by omega)]

/-- A tile with a mean is judged by its difference to the new one (R45, R46). -/
theorem Tile.judged_of_mean (h : t.mean = some previous) (new : Nat) :
    t.judged w new =
      ⟨some new, tileCounter w t.counter (movingSample w.threshold previous new),
        tileState w (tileCounter w t.counter (movingSample w.threshold previous new)) t.state⟩ := by
  rw [Tile.judged, h]

/-- A MOVING sample raises the counter, no further than L (R46). -/
theorem Tile.judged_counter_of_moving (h : t.mean = some previous)
    (hm : (w.threshold : Int) ≤ |(new : Int) - previous|) :
    (t.judged w new).counter = min (t.counter + w.rise) w.length := by
  rw [Tile.judged_of_mean h, tileCounter, if_pos ((movingSample_eq_true_iff ..).mpr hm)]

/-- Any other sample lowers the counter by one, no further than 0 (R46). -/
theorem Tile.judged_counter_of_not_moving (h : t.mean = some previous)
    (hm : ¬(w.threshold : Int) ≤ |(new : Int) - previous|) : (t.judged w new).counter = t.counter - 1 := by
  rw [Tile.judged_of_mean h, tileCounter, if_neg (mt (movingSample_eq_true_iff ..).mp hm)]

/-- A judged tile's state follows the counter it now has (R46). -/
theorem Tile.judged_state (h : t.mean = some previous) (new : Nat) :
    (t.judged w new).state = tileState w (t.judged w new).counter t.state := by
  rw [Tile.judged_of_mean h]

/-! ### The page (R44, R47, R49, R50) -/

variable {v : Watch}

/-- In STILL the page is disturbed at Q MOVING tiles (R49). -/
theorem pageEvent_still (h : v.page = .still) (count : Nat) :
    pageEvent v count = if v.settings.quorum ≤ count then some (.disturb count) else none := by
  rw [pageEvent, h]

/-- In MOTION the page settles at no MOVING tile (R50). -/
theorem pageEvent_motion (h : v.page = .motion) (count : Nat) :
    pageEvent v count = if count = 0 then some .settle else none := by
  rw [pageEvent, h]

/-- In OFF a sample is ignored (R44). -/
theorem Watch.sample_off (h : v.page = .off) (means : Table Nat 192) : v.sample means = (v, none) := by
  rw [Watch.sample, h]

/-- A watch without means is primed by its sample (R44). -/
theorem Watch.sample_primes (hon : v.page ≠ .off) (h : v.meansPresent = false) (means : Table Nat 192) :
    v.sample means =
      ({ v with tiles := v.tiles.mapIdx fun k t => { t with mean := some (means.get k) }, meansPresent := true },
        none) := by
  rw [Watch.sample]
  split
  · exact absurd ‹v.page = .off› hon
  · rw [h]; rfl

/-- A watch with means judges every tile, counts the MOVING ones, and follows that count's event (R47, R49, R50). -/
theorem Watch.sample_judges (hon : v.page ≠ .off) (h : v.meansPresent = true) {means : Table Nat 192}
    {tiles : Table Tile 192} {event : Option PageEvent}
    (htiles : (v.tiles.mapIdx fun k t => t.judged v.settings (means.get k)) = tiles)
    (hevent : pageEvent v (movingCount tiles) = event) :
    v.sample means =
      ({ v with tiles := tiles, movingTiles := movingCount tiles, page := pageAfter v.page event }, event) := by
  subst htiles hevent
  rw [Watch.sample]
  split
  · exact absurd ‹v.page = .off› hon
  · exact if_pos h

end Sys2Proof.Machine
end

section
/-! The page watch: a tile's sample, and the watch's. -/

open Sys2Proof Sys2Proof.Machine

/-- Settles O23: the counter by whether the sample is MOVING, the state by where the counter then stands, and the bounds
because a judged tile stays lawful. -/
theorem tileCounterFollowsSamples : Obligations.TileCounterFollowsSamples := by
  intro w t previous new hrise hlength hmean hlaw moving u
  have hmoving : moving → u.counter = min (t.counter + w.rise) w.length := Tile.judged_counter_of_moving hmean
  have hcalm : ¬moving → u.counter = t.counter - 1 := Tile.judged_counter_of_not_moving hmean
  have hstate : u.state = tileState w u.counter t.state := Tile.judged_state hmean new
  have htop : u.counter = w.length → u.state = .moving := fun h => hstate.trans (tileState_of_eq_length h)
  have hzero : u.counter = 0 → u.state = .still := fun h => hstate.trans (tileState_of_eq_zero hlength h)
  obtain ⟨hle, hpositive, hbelow⟩ : Tile.Law w u := hlaw.judged hlength new
  refine ⟨Tile.judged_mean w t new, hmoving, fun hm => (hcalm hm).trans (Nat.max_zero _).symm, htop, hzero,
    fun hpos hlt => hstate.trans (tileState_of_between hpos (by omega)), fun hone => ⟨fun hm => ?_, fun hm => ?_⟩,
    hle, hpositive, fun hs => Nat.le_sub_one_of_lt (hbelow hs)⟩
  · have hc : u.counter = 1 := by rw [hmoving hm]; omega
    exact ⟨hc, htop (hc.trans hone.symm)⟩
  · have hc : u.counter = 0 := by rw [hcalm hm]; obtain ⟨hcounter, -, -⟩ := hlaw; omega
    exact ⟨hc, hzero hc⟩

/-- Settles O24, by the page state and, where tiles are judged, by whether their count reaches the event's bound. -/
theorem sampleMovesThePage : Obligations.SampleMovesThePage := by
  intro w means tiles count
  refine ⟨fun hoff => Watch.sample_off hoff means, fun hon habsent => Watch.sample_primes hon habsent means,
    fun hmeans hstill => ?_, fun hmeans hmotion => ?_⟩
  · have hon : w.page ≠ .off := by simp [hstill]
    have hevent := pageEvent_still hstill count
    split at hevent
    case isTrue hquorum => rw [if_pos hquorum]; exact Watch.sample_judges hon hmeans rfl hevent
    case isFalse hfew => rw [if_neg hfew]; exact Watch.sample_judges hon hmeans rfl hevent
  · have hon : w.page ≠ .off := by simp [hmotion]
    have hevent := pageEvent_motion hmotion count
    split at hevent
    case isTrue hnone => rw [if_pos hnone]; exact Watch.sample_judges hon hmeans rfl hevent
    case isFalse hsome => rw [if_neg hsome]; exact Watch.sample_judges hon hmeans rfl hevent

end

section
/-! SUPPORT. View windows: what a glide step does to a window and how far it brings it (R62), what VIEW_REACHED's record holds
after the raises of one frame start (R63, R177), and the sizes and origins of a pane's rectangle (R65 to R67). -/

namespace Sys2Proof.Machine

/-! ### One glide step (R62) -/

/-- A glide step writes the current zoom alone. -/
theorem Window.glide_eq_withZoom (v : Window) : v.glide = { v with zoom := v.glide.zoom } := by
  unfold Window.glide
  split
  · rfl
  · split
    · rfl
    · split <;> rfl

@[simp] theorem Window.glide_target (v : Window) : v.glide.target = v.target := by
  rw [v.glide_eq_withZoom]

@[simp] theorem Window.glide_rate (v : Window) : v.glide.rate = v.rate := by
  rw [v.glide_eq_withZoom]

/-- At rate 0 a step jumps. -/
theorem Window.glide_zoom_of_rate_zero {v : Window} (hr : v.rate = 0) : v.glide.zoom = v.target := by
  rw [Window.glide, if_pos hr]

/-- Below its target a zoom rises, no further than the target. -/
theorem Window.glide_zoom_of_lt {v : Window} (hr : 0 < v.rate) (h : v.zoom < v.target) :
    v.glide.zoom = min (v.zoom + v.rate) v.target := by
  rw [Window.glide, if_neg hr.ne', if_pos h]

/-- Above its target a zoom falls, no further than the target. -/
theorem Window.glide_zoom_of_gt {v : Window} (hr : 0 < v.rate) (h : v.target < v.zoom) :
    v.glide.zoom = max (v.zoom - v.rate) v.target := by
  rw [Window.glide, if_neg hr.ne', if_neg h.not_gt, if_pos h]

/-- A window at rest is unchanged, at rate 0 as at any other. -/
theorem Window.glide_of_rest {v : Window} (h : v.zoom = v.target) : v.glide = v := by
  have hjump : { v with zoom := v.target } = v := congrArg (fun z => { v with zoom := z }) h.symm
  rw [Window.glide, if_neg h.not_lt, if_neg h.not_gt, hjump, ite_self]

/-! ### The steps of a glide (R62) -/

/-- How far a window's current zoom is from its target. -/
def Window.distance (v : Window) : Nat := ((v.target : Int) - v.zoom).natAbs

theorem Window.distance_eq_zero_iff (v : Window) : v.distance = 0 ↔ v.zoom = v.target := by
  unfold Window.distance; omega

/-- A step takes the rate off the distance, as far as there is any. -/
theorem Window.distance_glide {v : Window} (hr : 0 < v.rate) : v.glide.distance = v.distance - v.rate := by
  unfold Window.distance
  rw [Window.glide_target]
  rcases lt_trichotomy v.zoom v.target with h | h | h
  · rw [Window.glide_zoom_of_lt hr h]; omega
  · rw [Window.glide_of_rest h]; omega
  · rw [Window.glide_zoom_of_gt hr h]; omega

theorem Window.iterate_glide_target (v : Window) (n : Nat) : (Window.glide^[n] v).target = v.target := by
  induction n generalizing v with
  | zero => rfl
  | succ n ih => rw [Function.iterate_succ_apply, ih, Window.glide_target]

theorem Window.distance_iterate_glide {v : Window} (hr : 0 < v.rate) (n : Nat) :
    (Window.glide^[n] v).distance = v.distance - n * v.rate := by
  induction n generalizing v with
  | zero => simp
  | succ n ih =>
    rw [Function.iterate_succ_apply, ih (by simpa using hr), Window.distance_glide hr, Window.glide_rate, Nat.succ_mul]
    omega

/-- Steps whose rates add up to the distance reach the target. -/
theorem Window.iterate_glide_reaches {v : Window} (hr : 0 < v.rate) {n : Nat} (hn : v.distance ≤ n * v.rate) :
    (Window.glide^[n] v).zoom = v.target := by
  have hzero : (Window.glide^[n] v).distance = 0 := by
    rw [Window.distance_iterate_glide hr, Nat.sub_eq_zero_of_le hn]
  rw [(Window.distance_eq_zero_iff _).mp hzero, Window.iterate_glide_target]

/-- A quotient rounded up covers what was divided. -/
theorem le_roundedUp_mul {d r : Nat} (hr : 0 < r) : d ≤ (d + r - 1) / r * r := by
  have := Nat.lt_div_mul_add hr (a := d + r - 1)
  omega

/-! ### The raises of one frame start (R63, R177) -/

/-- A window reaches its target in a step exactly when it was gliding and its zoom then equals that target. -/
theorem reachedWindows_eq (views : Table Window 4) :
    reachedWindows views = (List.finRange 4).filter fun i => (views.get i).zoom != (views.get i).target &&
      (((views.map Window.glide).get i).zoom == ((views.map Window.glide).get i).target) := by
  simp [reachedWindows, Window.gliding, bne]

/-- Whichever window the open choice names, each reached window raises once and one of them raises last. -/
theorem raiseOrder_eq_concat (choice : Nat) {reached : List (Fin 4)} (h : reached ≠ []) :
    ∃ i ∈ reached, ∃ before, raiseOrder choice reached = before ++ [i] ∧ before.length + 1 = reached.length := by
  have hpos : 0 < reached.length := List.length_pos_iff.mpr h
  unfold raiseOrder
  split
  · exact absurd rfl h
  · exact ⟨_, List.mem_singleton_self _, [], rfl, rfl⟩
  · have hk := Nat.mod_lt (Config.raisedLast choice) hpos
    refine ⟨_, List.getElem_mem hk, _, by dsimp only; rw [List.getElem?_eq_getElem hk]; rfl, ?_⟩
    rw [List.length_eraseIdx_of_lt hk]
    omega

/-- Raises of one kind, one after another, are raises on that kind's record. -/
theorem Notices.raises_eq {α : Type} {f : α → NoticePayload} {k : Fin 14} (hk : ∀ a, (f a).kind = k) (l : List α)
    (n : Notices) :
    l.foldl (fun n a => n.raise (f a)) n = n.set k (l.foldl (fun r a => r.raised (f a)) (n.get k)) := by
  induction l generalizing n with
  | nil => ext i; simp +contextual [Table.get_set]
  | cons a l ih =>
    have hraise : n.raise (f a) = n.set k ((n.get k).raised (f a)) := by rw [Notices.raise, hk]
    rw [List.foldl_cons, List.foldl_cons, ih, hraise, Table.get_set_same]
    ext i
    simp only [Table.get_set]
    split <;> rfl

/-- The raises a record has coalesced (R177): none where no raise waits. -/
def NoticeRecord.waiting (r : NoticeRecord) : Nat := if r.pending then r.count else 0

theorem NoticeRecord.raised_eq (r : NoticeRecord) (p : NoticePayload) :
    r.raised p = ⟨r.level, true, some p, min (r.waiting + 1) 255⟩ := by
  unfold NoticeRecord.raised NoticeRecord.waiting
  split <;> rfl

/-- Raises one after another leave the last one's payload and count each of them, up to 255 (R177). -/
theorem NoticeRecord.raises_concat {α : Type} (f : α → NoticePayload) (l : List α) (a : α) (r : NoticeRecord) :
    (l ++ [a]).foldl (fun r a => r.raised (f a)) r =
      ⟨r.level, true, some (f a), min (r.waiting + (l.length + 1)) 255⟩ := by
  induction l generalizing r with
  | nil => exact r.raised_eq (f a)
  | cons b l ih =>
    have hwaiting : (r.raised (f b)).waiting = min (r.waiting + 1) 255 := by rw [r.raised_eq]; rfl
    rw [List.cons_append, List.foldl_cons, ih, hwaiting, List.length_cons]
    congr 1
    omega

/-- A frame start at which no window reaches its target moves the windows alone. -/
theorem State.glideStep_of_none_reached {s : State} (h : reachedWindows s.views = []) :
    s.glideStep = { s with views := s.views.map Window.glide } := by
  rw [State.glideStep_eq, h]
  rfl

/-- A frame start at which windows reach their targets counts each of them in VIEW_REACHED's record, and one of them stands
there. -/
theorem State.glideStep_of_reached {s : State} (h : reachedWindows s.views ≠ []) :
    ∃ i ∈ reachedWindows s.views, s.glideStep = { s with
      views := s.views.map Window.glide
      notices := s.notices.set 12 ⟨(s.notices.get 12).level, true,
        some (.viewReached i ((s.views.map Window.glide).get i).zoom),
        min ((s.notices.get 12).waiting + (reachedWindows s.views).length) 255⟩
      openChoice := if (reachedWindows s.views).length = 1 then s.openChoice else s.openChoice + 1 } := by
  obtain ⟨i, hi, before, horder, hlength⟩ := raiseOrder_eq_concat s.openChoice h
  have hchoice : (if 1 < (reachedWindows s.views).length then s.openChoice + 1 else s.openChoice) =
      if (reachedWindows s.views).length = 1 then s.openChoice else s.openChoice + 1 := by
    split <;> split <;> omega
  refine ⟨i, hi, ?_⟩
  rw [State.glideStep_eq, horder, Notices.raises_eq (k := 12) fun _ => rfl, NoticeRecord.raises_concat, hlength, hchoice]
  rfl

/-! ### The rectangle of a pane (R65 to R67) -/

section
variable {wp hp : Nat}

/-- A pane wider in shape than the frame takes the frame's whole width (R65). -/
theorem fitSize_of_wide (h : 2592 * hp ≤ 1944 * wp) : fitSize wp hp = (2592, 2592 * hp / wp) := if_pos h

/-- A pane taller in shape than the frame takes the frame's whole height (R65). -/
theorem fitSize_of_tall (h : ¬2592 * hp ≤ 1944 * wp) : fitSize wp hp = (1944 * wp / hp, 1944) := if_neg h

/-- The fit rectangle's two sides, each by the pane's shape (R65). -/
theorem fitSize_eq (wp hp : Nat) :
    fitSize wp hp = (if 2592 * hp ≤ 1944 * wp then 2592 else 1944 * wp / hp,
      if 2592 * hp ≤ 1944 * wp then 2592 * hp / wp else 1944) := by
  unfold fitSize
  split <;> rfl

/-- The fit rectangle lies inside the frame, and is at least 16 wide and high for every pane of the output modes (R65). -/
theorem fitSize_bounds (hw : 16 ≤ wp) (hw' : wp ≤ 1920) (hh : 16 ≤ hp) (hh' : hp ≤ 1200) :
    (16 ≤ (fitSize wp hp).1 ∧ (fitSize wp hp).1 ≤ 2592) ∧ 16 ≤ (fitSize wp hp).2 ∧ (fitSize wp hp).2 ≤ 1944 := by
  by_cases hshape : 2592 * hp ≤ 1944 * wp
  · rw [fitSize_of_wide hshape]
    have hlow : 16 ≤ 2592 * hp / wp := (Nat.le_div_iff_mul_le (by omega)).mpr (by omega)
    have hhigh : 2592 * hp / wp ≤ 1944 := Nat.div_le_of_le_mul (by omega)
    exact ⟨⟨by norm_num, le_rfl⟩, hlow, hhigh⟩
  · rw [fitSize_of_tall hshape]
    have hlow : 16 ≤ 1944 * wp / hp := (Nat.le_div_iff_mul_le (by omega)).mpr (by omega)
    have hhigh : 1944 * wp / hp ≤ 2592 := Nat.div_le_of_le_mul (by omega)
    exact ⟨⟨hlow, hhigh⟩, by norm_num, le_rfl⟩

end

section
variable {size zoom : Nat}

/-- A zoom of 1.00× or more enlarges no side (R66). -/
theorem zoomed_le (hz : 256 ≤ zoom) : size * 256 / zoom ≤ size :=
  Nat.div_le_of_le_mul (by rw [Nat.mul_comm]; exact Nat.mul_le_mul_right size hz)

/-- A zoom of 8.00× or less leaves two pixels of sixteen (R66). -/
theorem two_le_zoomed (hz : 256 ≤ zoom) (hz' : zoom ≤ 2048) (hs : 16 ≤ size) : 2 ≤ size * 256 / zoom :=
  (Nat.le_div_iff_mul_le (by omega)).mpr (by omega)

end

/-- The origin along one axis of the frame: `side` pixels of `extent` about `centre`, kept inside (R67). -/
def originOn (extent side centre : Nat) : Nat :=
  (clampInt 0 ((extent : Int) - side) ((centre : Int) - (side / 2 : Nat))).toNat

/-- The origin as a minimum and a maximum, on a side that the frame holds. -/
theorem originOn_eq {extent side : Nat} (h : side ≤ extent) (centre : Nat) :
    (originOn extent side centre : Int) = max 0 (min ((centre : Int) - (side / 2 : Nat)) (extent - side)) := by
  rw [originOn, clampInt_eq (by omega), Int.toNat_of_nonneg (le_max_left _ _)]

/-- A side that the frame holds ends inside it. -/
theorem originOn_add_le {extent side : Nat} (h : side ≤ extent) (centre : Nat) :
    originOn extent side centre + side ≤ extent := by
  have := originOn_eq h centre
  omega

/-- A pane's rectangle: both sides of its fit rectangle zoomed, and an origin on each axis (R66, R67). -/
theorem Window.rectFor_eq (v : Window) (wp hp : Nat) :
    v.rectFor wp hp =
      ⟨originOn 2592 ((fitSize wp hp).1 * 256 / v.zoom) v.cx, originOn 1944 ((fitSize wp hp).2 * 256 / v.zoom) v.cy,
        (fitSize wp hp).1 * 256 / v.zoom, (fitSize wp hp).2 * 256 / v.zoom⟩ := rfl

end Sys2Proof.Machine
end

section
/-! The view windows: glides, and the rectangle of a pane. -/

open Sys2Proof Sys2Proof.Machine

/-- Settles O26: a step by where the zoom stands to its target, the steps of a glide by the distance that each takes off,
and a frame start by whether any window reaches its target. -/
theorem glidesReachTheirTargets : Obligations.GlidesReachTheirTargets := by
  refine ⟨fun v => ⟨v.glide_eq_withZoom, Window.glide_zoom_of_rate_zero, fun hlt hr => Window.glide_zoom_of_lt hr hlt,
    fun hgt hr => Window.glide_zoom_of_gt hr hgt, Window.glide_of_rest,
    fun hr => Window.iterate_glide_reaches hr (le_roundedUp_mul hr)⟩, fun s => ?_⟩
  intro views reached r
  have hreached : reachedWindows s.views = reached := reachedWindows_eq s.views
  rw [← hreached]
  refine ⟨by rw [State.glideStep_eq]; rfl, State.glideStep_of_none_reached, fun hsome => ?_⟩
  obtain ⟨i, hi, hstep⟩ := State.glideStep_of_reached hsome
  have hzoom : ((s.views.map Window.glide).get i).zoom = ((s.views.map Window.glide).get i).target := by
    rw [reachedWindows_eq, List.mem_filter, Bool.and_eq_true, beq_iff_eq] at hi
    exact hi.2.2
  rw [hzoom] at hstep
  exact ⟨i, hi, hstep⟩

/-- Settles O27: the fit rectangle by the pane's shape, then each axis by the bounds of its side. -/
theorem rectangleStaysInsideFrame : Obligations.RectangleStaysInsideFrame := by
  rintro v wp hp ⟨⟨hz, hz'⟩, -⟩ hw hw' hh hh' wmax hmax r
  obtain ⟨⟨hwide, hwide'⟩, hhigh, hhigh'⟩ := fitSize_bounds hw hw' hh hh'
  have hfit : fitSize wp hp = (wmax, hmax) := fitSize_eq wp hp
  rw [hfit] at hwide hwide' hhigh hhigh'
  have hr : r = ⟨originOn 2592 (wmax * 256 / v.zoom) v.cx, originOn 1944 (hmax * 256 / v.zoom) v.cy,
      wmax * 256 / v.zoom, hmax * 256 / v.zoom⟩ := by
    have hrect := v.rectFor_eq wp hp
    rwa [hfit] at hrect
  have hinW : wmax * 256 / v.zoom ≤ 2592 := (zoomed_le hz).trans hwide'
  have hinH : hmax * 256 / v.zoom ≤ 1944 := (zoomed_le hz).trans hhigh'
  rw [hr]
  exact ⟨rfl, rfl, originOn_eq hinW v.cx, originOn_eq hinH v.cy, two_le_zoomed hz hz' hwide, two_le_zoomed hz hz' hhigh,
    originOn_add_le hinW v.cx, originOn_add_le hinH v.cy⟩

end

section
/-! SUPPORT. The pixel pipe: what coring, gain, limit and clamp do to a detail (R84 to R86), the blends and the blur as
formulas on whole numbers, with the bounds they keep (R80 to R83), and what the pipe reads of a whole image (R24). -/

namespace Sys2Proof.Machine

/-! ### Sharpening (R84 to R86) -/

/-- Coring by the detail's side of the threshold (R84). -/
theorem cored_eq (t : Nat) (d : Int) :
    cored t d = if (t : Int) < d then d - t else if d < -(t : Int) then d + t else 0 := by
  unfold cored
  rcases lt_trichotomy d 0 with hneg | rfl | hpos
  · rw [Int.sign_eq_neg_one_of_neg hneg]
    split_ifs <;> omega
  · rw [Int.sign_zero]
    split_ifs <;> omega
  · rw [Int.sign_eq_one_of_pos hpos]
    split_ifs <;> omega

/-- Coring brings a detail no further from 0 (R84). -/
theorem cored_bounds (t : Nat) {d : Int} (h : -255 ≤ d ∧ d ≤ 255) : -255 ≤ cored t d ∧ cored t d ≤ 255 := by
  rw [cored_eq]
  split_ifs <;> omega

/-- A lawful gain scales a cored detail to at most 1004 either way (R85). -/
theorem scaled_bounds {gain : Nat} {d : Int} (hg : gain ≤ 63) (h : -255 ≤ d ∧ d ≤ 255) :
    -1004 ≤ scaled gain d ∧ scaled gain d ≤ 1004 := by
  have hlow : (gain : Int) * -255 ≤ gain * d := mul_le_mul_of_nonneg_left h.1 (Int.natCast_nonneg gain)
  have hhigh : (gain : Int) * d ≤ gain * 255 := mul_le_mul_of_nonneg_left h.2 (Int.natCast_nonneg gain)
  unfold scaled
  omega

/-- The limit bounds what is added either way (R85). -/
theorem limited_bounds (limit : Nat) (g : Int) : -(limit : Int) ≤ limited limit g ∧ limited limit g ≤ limit := by
  unfold limited
  omega

/-- Nothing is added where the gain or the limit is 0, or where there is no detail (R84, R85). -/
theorem limited_eq_zero {p : Profile} {d : Int} (h : p.gain = 0 ∨ p.limit = 0 ∨ d = 0) :
    limited p.limit (scaled p.gain (cored p.threshold d)) = 0 := by
  have hstill : p.gain = 0 ∨ d = 0 → scaled p.gain (cored p.threshold d) = 0 := by
    rintro (hg | rfl)
    · simp [scaled, hg]
    · simp [scaled, cored]
  rcases h with hg | hl | hd
  · simp [hstill (.inl hg), limited]
  · have := limited_bounds p.limit (scaled p.gain (cored p.threshold d))
    omega
  · simp [hstill (.inr hd), limited]

/-- The sharpened luma is the resampled luma and the limited detail, clamped to 0..255 (R86). -/
theorem sharpen_eq (p : Profile) (luma blur : Nat) :
    (sharpen p luma blur : Int) =
      max 0 (min ((luma : Int) + limited p.limit (scaled p.gain (cored p.threshold ((luma : Int) - blur)))) 255) :=
  Int.toNat_of_nonneg (le_max_left _ _)

/-! ### Blends (R80, R81) -/

/-- A weight is the fraction of its position in 1/256 pixel (R80). -/
theorem weight_eq (p : Int) : (weight p : Int) = (p - p / 4096 * 4096) / 16 := by
  unfold weight sourceIndex
  omega

theorem weight_le (p : Int) : weight p ≤ 255 := by
  have := weight_eq p
  omega

/-- A repeated edge keeps every index on the picture (R81). -/
theorem edgeIndex_le (limit : Nat) (k : Int) : edgeIndex limit k ≤ limit := by
  unfold edgeIndex
  omega

/-- A blend of two whole numbers by a weight in 1/256, halves rounded up (R81). -/
def mixed (g a b : Int) : Int := ((256 - g) * a + g * b + 128) / 256

/-- The two blends at a position on a source that has a value at every index (R81). -/
def resampledFrom (source : Int → Int → Int) (px py : Int) : Int :=
  let across (row : Int) : Int :=
    mixed ((px - px / 4096 * 4096) / 16) (source (px / 4096) row) (source (px / 4096 + 1) row)
  mixed ((py - py / 4096 * 4096) / 16) (across (py / 4096)) (across (py / 4096 + 1))

/-- The model's blend is the blend of whole numbers. -/
theorem blend_eq {g : Nat} (hg : g ≤ 255) (a b : Nat) : (blend g a b : Int) = mixed g a b := by
  unfold blend mixed
  push_cast [Nat.le_succ_of_le hg]
  rfl

/-- A blend lies between the values it is made of (R81). -/
theorem blend_bounds {g a b lo hi : Nat} (hg : g ≤ 255) (ha : lo ≤ a ∧ a ≤ hi) (hb : lo ≤ b ∧ b ≤ hi) :
    lo ≤ blend g a b ∧ blend g a b ≤ hi := by
  have hparts (n : Nat) : (256 - g) * n + g * n = 256 * n := by
    rw [← Nat.add_mul, Nat.sub_add_cancel (by omega)]
  have hlow : 256 * lo ≤ (256 - g) * a + g * b :=
    hparts lo ▸ Nat.add_le_add (Nat.mul_le_mul_left _ ha.1) (Nat.mul_le_mul_left _ hb.1)
  have hhigh : (256 - g) * a + g * b ≤ 256 * hi :=
    hparts hi ▸ Nat.add_le_add (Nat.mul_le_mul_left _ ha.2) (Nat.mul_le_mul_left _ hb.2)
  unfold blend
  omega

/-- Resampling is the two blends on the picture with its edges repeated outward (R81). -/
theorem resampleAt_eq (f : Nat → Nat → Nat) (lastX lastY : Nat) (px py : Int) :
    (resampleAt f lastX lastY px py : Int) =
      resampledFrom (fun x y => f (edgeIndex lastX x) (edgeIndex lastY y)) px py := by
  simp only [resampleAt, blend_eq (weight_le _), weight_eq, sourceIndex, resampledFrom]

/-- Resampling reads its source inside the picture alone (R81). -/
theorem resampleAt_congr {f g : Nat → Nat → Nat} {lastX lastY : Nat} (h : ∀ x ≤ lastX, ∀ y ≤ lastY, f x y = g x y)
    (px py : Int) : resampleAt f lastX lastY px py = resampleAt g lastX lastY px py := by
  simp only [resampleAt, h _ (edgeIndex_le _ _) _ (edgeIndex_le _ _)]

/-! ### Bounds of a picture -/

section
variable {f : Nat → Nat → Nat} {lastX lastY lo hi : Nat}

/-- Resampling stays in the range of the pixels of its picture (R81). -/
theorem resampleAt_bounds (h : ∀ x ≤ lastX, ∀ y ≤ lastY, lo ≤ f x y ∧ f x y ≤ hi) (px py : Int) :
    lo ≤ resampleAt f lastX lastY px py ∧ resampleAt f lastX lastY px py ≤ hi := by
  have hsource (k l : Int) := h _ (edgeIndex_le lastX k) _ (edgeIndex_le lastY l)
  have hrow (l : Int) := blend_bounds (weight_le px) (hsource (sourceIndex px) l) (hsource (sourceIndex px + 1) l)
  exact blend_bounds (weight_le py) (hrow _) (hrow _)

/-- The kernel's 1 2 1 along a row, about column `x` (R83). -/
def kernelRow (f : Nat → Nat → Nat) (w x y : Nat) : Nat := f (x - 1) y + 2 * f x y + f (min (x + 1) (w - 1)) y

/-- The blur is the kernel's 1 2 1 taken down the three rows, each blurred along itself (R83). -/
theorem blurAt_eq_kernelRows (f : Nat → Nat → Nat) (w k x y : Nat) :
    blurAt f w k x y =
      (kernelRow f w x (y - 1) + 2 * kernelRow f w x y + kernelRow f w x (min (y + 1) (k - 1)) + 8) / 16 := by
  simp only [blurAt, kernelRow]
  congr 1
  ring

theorem kernelRow_bounds (h : ∀ x ≤ lastX, ∀ y ≤ lastY, lo ≤ f x y ∧ f x y ≤ hi) {x y : Nat} (hx : x ≤ lastX)
    (hy : y ≤ lastY) : 4 * lo ≤ kernelRow f (lastX + 1) x y ∧ kernelRow f (lastX + 1) x y ≤ 4 * hi := by
  have hleft := h (x - 1) (by omega) y hy
  have hhere := h x hx y hy
  have hright := h (min (x + 1) (lastX + 1 - 1)) (by omega) y hy
  unfold kernelRow
  omega

/-- The blur stays in the range of the pixels of its picture (R83). -/
theorem blurAt_bounds (h : ∀ x ≤ lastX, ∀ y ≤ lastY, lo ≤ f x y ∧ f x y ≤ hi) {x y : Nat} (hx : x ≤ lastX)
    (hy : y ≤ lastY) : lo ≤ blurAt f (lastX + 1) (lastY + 1) x y ∧ blurAt f (lastX + 1) (lastY + 1) x y ≤ hi := by
  have hup := kernelRow_bounds h hx (y := y - 1) (by omega)
  have hhere := kernelRow_bounds h hx hy
  have hdown := kernelRow_bounds h hx (y := min (y + 1) (lastY + 1 - 1)) (by omega)
  rw [blurAt_eq_kernelRows]
  omega

end

/-! ### The blur on a grid (R83) -/

/-- The value at an offset from a pixel of a grid of `w` × `h`, the grid's edges repeated outward (R83). -/
def neighbour (f : Nat → Nat → Nat) (w h x y : Nat) (dx dy : Int) : Int :=
  f (max 0 (min (x + dx) (w - 1))).toNat (max 0 (min (y + dy) (h - 1))).toNat

/-- The model's blur is R83's on every grid. -/
theorem blurAt_eq_neighbours (f : Nat → Nat → Nat) {w h x y : Nat} (hx : x < w) (hy : y < h) :
    let e := neighbour f w h x y
    (blurAt f w h x y : Int) =
      (e (-1) (-1) + 2 * e 0 (-1) + e 1 (-1) + 2 * e (-1) 0 + 4 * e 0 0 + 2 * e 1 0 + e (-1) 1 + 2 * e 0 1 + e 1 1 + 8) /
        16 := by
  have before {n k : Nat} (h : k < n) : (max 0 (min ((k : Int) + -1) (n - 1))).toNat = k - 1 := by omega
  have here {n k : Nat} (h : k < n) : (max 0 (min ((k : Int) + 0) (n - 1))).toNat = k := by omega
  have after {n k : Nat} (h : k < n) : (max 0 (min ((k : Int) + 1) (n - 1))).toNat = min (k + 1) (n - 1) := by omega
  simp only [neighbour, before hx, before hy, here hx, here hy, after hx, after hy, blurAt]
  push_cast
  rfl

/-! ### The pixels of a whole image -/

section
variable {img : Image} (himg : wholeImage img = true)
include himg

/-- A whole image has every byte of its rows, in whichever slot it stands (R24). -/
theorem imageByte_of_whole (slot : Nat) {y off : Nat} (hy : y < 1944) (hoff : off < 5184) :
    imageByte slot img y off = (img.getD y []).getD off 0 := by
  have hrow : y < img.length := by rwa [wholeImage_length himg]
  have hbyte : off < (img.getD y []).length := by rwa [wholeImage_row himg hy]
  have hget : img[y]? = some (img.getD y []) := by
    rw [List.getElem?_eq_getElem hrow, List.getD_eq_getElem _ _ hrow]
  simp only [imageByte, hget, List.getElem?_eq_getElem hbyte, List.getD_eq_getElem _ _ hbyte]

/-- The luma a job resamples from a whole image (R80, R81). -/
theorem PaneJob.resampledLuma_of_whole (j : PaneJob) (col row : Nat) :
    (j.resampledLuma img col row : Int) =
      resampledFrom (fun x y => frameLuma img (edgeIndex 2591 x) (edgeIndex 1943 y))
        (position ((j.rect.x : Int) * 4096) col j.stepX) (j.rowPosition row) := by
  have hluma : ∀ x ≤ 2591, ∀ y ≤ 1943, imageLuma j.slot.val img x y = frameLuma img x y := fun x hx y hy =>
    imageLuma_of_take himg le_rfl rfl j.slot.val (Nat.lt_succ_of_le hx) (Nat.lt_succ_of_le hy)
  exact (congrArg Nat.cast (resampleAt_congr hluma _ _)).trans (resampleAt_eq _ _ _ _ _)

/-- A chroma byte resampled on the grid of one column per pair: the first or the third of its pair's bytes (R24, R82). -/
theorem resampleAt_chroma_of_whole (slot : Nat) {part : Nat} (hpart : part < 4) (px py : Int) :
    (resampleAt (fun c y => (imageByte slot img y (4 * c + part)).toNat) 1295 1943 px py : Int) =
      resampledFrom (fun x y => (((img.getD (edgeIndex 1943 y) []).getD (4 * edgeIndex 1295 x + part) 0).toNat : Int))
        px py := by
  rw [← resampleAt_eq fun c y => ((img.getD y []).getD (4 * c + part) 0).toNat]
  refine congrArg Nat.cast (resampleAt_congr (fun c hc y hy => ?_) px py)
  rw [imageByte_of_whole himg slot (by omega) (by omega)]

end

end Sys2Proof.Machine
end

section
/-! The pixel pipe: sharpening, and the pixels of a pane job. -/

open Sys2Proof Sys2Proof.Machine

/-- Settles O28: each stage's bounds, and the clamp that brings the result no further from the resampled luma. -/
theorem sharpeningIsBounded : Obligations.SharpeningIsBounded := by
  intro p luma blur hl hb d core scale g out
  have hd : -255 ≤ d ∧ d ≤ 255 := by omega
  have hcore : cored p.threshold d = core := cored_eq _ _
  have hg : limited p.limit (scaled p.gain (cored p.threshold d)) = g := by rw [hcore]; rfl
  have hout : (out : Int) = max 0 (min (luma + g) 255) := hg ▸ sharpen_eq p luma blur
  have hlimit : -(p.limit : Int) ≤ g ∧ g ≤ p.limit := limited_bounds _ _
  refine ⟨hd, fun hgain => ?_, hout, by omega, abs_le.mpr (by omega), fun hnone => ?_⟩
  · exact scaled_bounds hgain (hcore ▸ cored_bounds p.threshold hd)
  · have hzero : g = 0 := hg ▸ limited_eq_zero (hnone.imp_right (.imp_right fun h => by omega))
    omega

/-- Settles O29: the resampled planes of a whole image, and the blur of the resampled luma on the pane's own grid; then the
bounds of the blends and of the blur. -/
theorem pipePixelsAreResampled : Obligations.PipePixelsAreResampled := by
  refine ⟨?_, fun f lastX lastY lo hi h =>
    ⟨fun px py => ⟨(resampleAt_bounds h px py).1, (resampleAt_bounds h px py).2, weight_le px⟩,
      fun x hx y hy => blurAt_bounds h hx hy⟩⟩
  intro j img col row himg hcol hrow kept luma byteAt cb cr at_ k f mix resampled rowAt y chromaAt e blur
  have hluma (c r : Nat) : (j.resampledLuma img c r : Int) = y c r := j.resampledLuma_of_whole himg c r
  have he (dc dr : Int) : neighbour (j.resampledLuma img) j.width j.height col row dc dr = e dc dr := hluma _ _
  have hblur : (blurAt (j.resampledLuma img) j.width j.height col row : Int) = blur := by
    rw [blurAt_eq_neighbours _ hcol hrow]
    simp only [he]
    rfl
  have hcb : (j.resampledCb img (col / 2) row : Int) = resampled cb chromaAt (rowAt row) :=
    resampleAt_chroma_of_whole himg j.slot.val (part := 0) (by decide) _ _
  have hcr : (j.resampledCr img (col / 2) row : Int) = resampled cr chromaAt (rowAt row) :=
    resampleAt_chroma_of_whole himg j.slot.val (part := 2) (by decide) _ _
  refine ⟨hluma col row, ?_⟩
  rw [← hluma, ← hblur, ← hcb, ← hcr]
  simp only [Int.toNat_natCast, BitVec.ofInt_natCast]
  rfl

end

section
/-! Composition: the highest-numbered pane that covers a raster pixel, what it contributes there, and the port that carries it
(R95, R110, R111). -/

namespace Sys2Proof.Machine

variable {s : State} {l : FrameLatch} {n : Fin 4} {x y : Nat}

/-! ### The highest pane that covers a pixel (R110) -/

/-- Pane `n` of a latch shows something and covers a raster pixel (R110). -/
def FrameLatch.Covers (l : FrameLatch) (x y : Nat) (n : Fin 4) : Prop :=
  (l.panes.get n).shows ≠ .nothing ∧ (l.panes.get n).rect.covers x y = true

theorem Rect.covers_iff (r : Rect) (x y : Nat) :
    r.covers x y = true ↔ r.x ≤ x ∧ x < r.x + r.w ∧ r.y ≤ y ∧ y < r.y + r.h := decide_eq_true_iff

/-- What pane `n` contributes at a raster pixel, none where it does not cover it (R110). -/
def FrameLatch.contribution (slots : Slots) (jobs : List PaneJob) (l : FrameLatch) (x y : Nat) (n : Fin 4) : Option Colour :=
  if (l.panes.get n).rect.covers x y then panePixel slots jobs n (l.panes.get n) x y else none

theorem composedPixel_eq (slots : Slots) (jobs : List PaneJob) (l : FrameLatch) (x y : Nat) :
    composedPixel slots jobs l x y =
      (([3, 2, 1, 0] : List (Fin 4)).findSome? (l.contribution slots jobs x y)).getD l.background := rfl

/-- A pane that does not cover a pixel contributes nothing there. -/
theorem FrameLatch.contribution_of_not_covers (h : ¬l.Covers x y n) (slots : Slots) (jobs : List PaneJob) :
    l.contribution slots jobs x y n = none := by
  unfold FrameLatch.contribution
  split
  · rename_i hin
    have hnothing : (l.panes.get n).shows = .nothing := by_contra fun hs => h ⟨hs, hin⟩
    simp only [panePixel, hnothing]
  · rfl

theorem FrameLatch.contribution_of_covers (h : l.Covers x y n) (slots : Slots) (jobs : List PaneJob) :
    l.contribution slots jobs x y n = panePixel slots jobs n (l.panes.get n) x y := if_pos h.2

/-- The panes from the highest down, cut at one of them: those before it are above it. -/
theorem panesDown_split (n : Fin 4) :
    ∃ above below, ([3, 2, 1, 0] : List (Fin 4)) = above ++ n :: below ∧ ∀ m ∈ above, n < m :=
  match n with
  | 0 => ⟨[3, 2, 1], [], rfl, by decide⟩
  | 1 => ⟨[3, 2], [0], rfl, by decide⟩
  | 2 => ⟨[3], [1, 0], rfl, by decide⟩
  | 3 => ⟨[], [2, 1, 0], rfl, by decide⟩

/-- Where no pane covers it, a pixel of the frame is the background (R110). -/
theorem State.rasterPixel_background (hl : s.output.latch = some l) (h : ∀ n, ¬l.Covers x y n) :
    s.rasterPixel x y = some l.background := by
  have hnone : ([3, 2, 1, 0] : List (Fin 4)).findSome? (l.contribution s.slots s.pipe.jobs x y) = none :=
    List.findSome?_eq_none_iff.mpr fun n _ => FrameLatch.contribution_of_not_covers (h n) _ _
  rw [State.rasterPixel, hl, Option.map_some, composedPixel_eq, hnone]
  rfl

/-- The highest pane that covers a pixel gives it (R110). -/
theorem State.rasterPixel_highest (hl : s.output.latch = some l) (hn : l.Covers x y n)
    (habove : ∀ m, n < m → ¬l.Covers x y m) {c : Colour}
    (hc : panePixel s.slots s.pipe.jobs n (l.panes.get n) x y = some c) : s.rasterPixel x y = some c := by
  obtain ⟨above, below, hlist, hlt⟩ := panesDown_split n
  have hfound : ([3, 2, 1, 0] : List (Fin 4)).findSome? (l.contribution s.slots s.pipe.jobs x y) = some c :=
    List.findSome?_eq_some_iff.mpr ⟨above, n, below, hlist, (FrameLatch.contribution_of_covers hn _ _).trans hc,
      fun m hm => FrameLatch.contribution_of_not_covers (habove m (hlt m hm)) _ _⟩
  rw [State.rasterPixel, hl, Option.map_some, composedPixel_eq, hfound]
  rfl

/-! ### What a pane contributes (R111) -/

/-- The bars' colours as a list (R111). -/
theorem barColour_eq (k : Nat) : barColour k =
    ([⟨255, 128, 128⟩, ⟨226, 1, 149⟩, ⟨179, 171, 1⟩, ⟨150, 44, 21⟩, ⟨105, 212, 235⟩, ⟨76, 85, 255⟩, ⟨29, 255, 107⟩,
      ⟨0, 128, 128⟩] : List Colour).getD k ⟨0, 128, 128⟩ :=
  match k with
  | 0 | 1 | 2 | 3 | 4 | 5 | 6 | 7 => rfl
  | _ + 8 => rfl

/-- A pane that shows a slot gives the pixel of its own job, one job to a pane (R92, R110). -/
theorem panePixel_slot {p : PaneLatch} {jobs : List PaneJob} {j : PaneJob} (hs : p.shows = .slot j.slot) (hj : j ∈ jobs)
    (hone : (jobs.map (·.pane)).Nodup) (slots : Slots) : panePixel slots jobs j.pane p x y =
      some (j.pixel (slots.get j.slot).image (x - p.rect.x) (y - p.rect.y)) := by
  have hkeys : (jobs.map fun k => k.pane.val).Nodup := by
    simpa only [List.map_map, Function.comp_def] using hone.map Fin.val_injective
  have hkey : (fun k : PaneJob => k.pane == j.pane) = fun k => k.pane.val == j.pane.val := by
    funext k
    rw [Bool.eq_iff_iff, beq_iff_eq, beq_iff_eq, Fin.ext_iff]
  have hfound : jobs.find? (fun k => k.pane == j.pane) = some j := hkey ▸ find_by_key hkeys hj rfl
  simp only [panePixel, hs, hfound, Option.map_some]

/-! ### The port (R95) -/

/-- While the raster runs, the port carries the composed pixel at the active positions of the frame being scanned. -/
theorem State.portLevels_scanned (hl : s.output.latch = some l) (hs : s.output.state ≠ .off)
    (hx : x < Config.activeWidth s.output.mode) (hy : y < Config.activeHeight s.output.mode) :
    (s.portLevels x y).dataEnable = true ∧ some (s.portLevels x y).data = s.rasterPixel x y := by
  have hactive : inActiveArea s.output.mode x y = true := decide_eq_true ⟨hx, hy⟩
  have hpixel : s.rasterPixel x y = some (composedPixel s.slots s.pipe.jobs l x y) := by
    rw [State.rasterPixel, hl, Option.map_some]
  unfold State.portLevels
  split
  · exact absurd ‹_› hs
  · rw [hpixel, hactive]
    exact ⟨rfl, rfl⟩

end Sys2Proof.Machine
end

section
/-! The composition of an output frame. -/

open Sys2Proof Sys2Proof.Machine

/-- Settles O34: the search from the highest pane down finds the highest that covers the pixel, or none. -/
theorem compositionOrder : Obligations.CompositionOrder := by
  intro s l x y hl covers
  have hcovers (n : Fin 4) : covers n ↔ l.Covers x y n := and_congr_right fun _ => (Rect.covers_iff _ x y).symm
  refine ⟨State.portLevels_scanned hl, fun hnone => State.rasterPixel_background hl fun n h => hnone n ((hcovers n).mpr h),
    fun n hn habove => ?_⟩
  have hgives {c : Colour} (hc : panePixel s.slots s.pipe.jobs n (l.panes.get n) x y = some c) :
      s.rasterPixel x y = some c :=
    State.rasterPixel_highest hl ((hcovers n).mp hn) (fun m hm h => habove m hm ((hcovers m).mpr h)) hc
  refine ⟨fun c hc => hgives ?_, fun hcard => hgives ?_, fun j hj hslot hpane hone => hgives ?_⟩
  · simp only [panePixel, hc]
  · simp only [panePixel, hcard, testCardPixel, testBar, barColour_eq]
  · subst hpane
    exact panePixel_slot hslot hj hone _

end

section
/-! The output's and the panes' requests as equations, and what the end of a scan leaves of the output (R97, R98, R101, R103,
R104). -/

namespace Sys2Proof.Machine

variable {s : State}

/-! ### The end of a scan -/

/-- Of the output the end of a scan changes the latch alone (R101). -/
theorem State.scanEnded_output (s : State) : s.scanEnded.output = { s.output with latch := none } := by
  unfold State.scanEnded
  split
  · rename_i h
    rw [← h]
  · rfl

@[simp] theorem State.endScan_output (s : State) : s.endScan.output = { s.output with latch := none } := by
  rw [State.endScan_eq, State.scanEnded_output]

@[simp] theorem State.endScan_link (s : State) : s.endScan.link = s.link := by
  unfold State.endScan
  split <;> rfl

/-! ### OUTPUT START and OUTPUT STOP -/

/-- OUTPUT START of a number above 3 (R97). -/
theorem execOutputStart_refused (h : s.link.Free) {tag mode : Byte} (hm : 4 ≤ mode.toNat) :
    execOutputStart tag mode s = .next { s with link := s.link.answered ⟨0x38, tag, [mode]⟩ .refused [6] } := by
  have hstep : outputStartStep mode s = (s, Answer.refused .noSuchMode) := by
    simp only [outputStartStep, index4_none hm]
  exact respond_next rfl h hstep rfl

/-- OUTPUT START of a mode 0..3, in any state, abandons the frame being scanned (R97, R101). -/
theorem execOutputStart_next (h : s.link.Free) {tag mode : Byte} {m : Fin 4} (hm : mode.toNat = m.val) :
    execOutputStart tag mode s = .next { s.scanEnded with
      output := { s.output with state := .starting, mode := m, startCount := 0, latch := none }
      link := s.link.answered ⟨0x38, tag, [mode]⟩ .ok [] } := by
  have hstep : outputStartStep mode s =
      (s.endScan.withOutput { s.output with state := .starting, mode := m, startCount := 0, latch := none },
        Answer.ok []) := by
    simp only [outputStartStep, index4_some hm, State.endScan_output]
  rw [← State.endScan_eq]
  exact respond_next rfl h hstep s.endScan_link

/-- OUTPUT STOP in OFF (R98). -/
theorem execOutputStop_off (h : s.link.Free) (tag : Byte) (hs : s.output.state = .off) :
    execOutputStop tag s = .next { s with link := s.link.answered ⟨0x39, tag, []⟩ .ok [] } := by
  have hstep : outputStopStep s = (s, Answer.ok []) := by simp only [outputStopStep, hs]
  exact respond_next rfl h hstep rfl

/-- Copying a pending commit, or none (R104). -/
theorem Output.committed_eq (o : Output) :
    o.committed = { o with commitPending := false, active := if o.commitPending then o.staged else o.active } := by
  unfold Output.committed
  split
  · rfl
  · rename_i h
    rw [← Bool.eq_false_iff.mpr h]

/-- OUTPUT STOP elsewhere abandons the frame being scanned and copies a pending commit (R98, R101). -/
theorem execOutputStop_running (h : s.link.Free) (tag : Byte) (hs : s.output.state ≠ .off) :
    execOutputStop tag s = .next { State.raise
      { s.scanEnded with
        output :=
          { s.output with
            state := .off, startCount := 0, latch := none, commitPending := false
            active := if s.output.commitPending then s.output.staged else s.output.active } }
      (.outputState .off s.output.mode s.output.frameCounter) with
      link := s.link.answered ⟨0x39, tag, []⟩ .ok [] } := by
  have hstep : outputStopStep s =
      ((s.endScan.withOutput { s.endScan.output.committed with state := .off, startCount := 0 }).raise
        (.outputState .off s.output.mode s.output.frameCounter), Answer.ok []) := by
    unfold outputStopStep
    split
    · exact absurd ‹_› hs
    · rfl
  rw [Output.committed_eq, State.endScan_output] at hstep
  rw [← State.endScan_eq]
  exact respond_next rfl h hstep s.endScan_link

/-! ### PANE SET and PANE COMMIT -/

/-- A source's code names it (R189). -/
theorem paneSource_code (source : PaneSource) : paneSource source.code = some source := by
  cases source <;> rfl

/-- A source number above 5 names none (R103). -/
theorem paneSource_none {b : Byte} (h : 6 ≤ b.toNat) : paneSource b = none := by
  unfold paneSource
  split
  case h_7 => rfl
  all_goals omega

/-- A source number 0..5 names one (R103). -/
theorem paneSource_some {b : Byte} (h : b.toNat < 6) : ∃ source, paneSource b = some source := by
  unfold paneSource
  interval_cases b.toNat <;> exact ⟨_, rfl⟩

/-- A pane's rectangle in force (R103). -/
theorem paneRect_eq (x y w h : Half) :
    paneRect x y w h = ⟨2 * (x.toNat / 2), 2 * (y.toNat / 2), 2 * (w.toNat / 2), 2 * (h.toNat / 2)⟩ := by
  simp only [paneRect, evenDown_eq]

/-- PANE SET's values were all in range: on/off bytes 0 or 1, coordinates even (R103). -/
theorem paneUnchanged_iff (e hold : Byte) (x y w h : Half) : paneUnchanged e x y w h hold = true ↔
    ¬(1 < e.toNat ∨ 1 < hold.toNat ∨ x.toNat % 2 = 1 ∨ y.toNat % 2 = 1 ∨ w.toNat % 2 = 1 ∨ h.toNat % 2 = 1) := by
  simp only [paneUnchanged, onOffInRange, paneRect_eq, Bool.and_eq_true, decide_eq_true_eq, Rect.mk.injEq]
  omega

/-- An on/off byte in force (R189). -/
theorem flagByte_onOff (b : Byte) : flagByte (onOff b) = if b = 0 then 0 else 1 := by
  by_cases h : b = 0 <;> simp [flagByte, onOff, h]

/-- A table number's byte (R189). -/
theorem lowByte_index {b : Byte} {i : Fin 4} (h : b.toNat = i.val) : lowByte i.val = b := by
  rw [lowByte, ← h, BitVec.ofNat_toNat, BitVec.setWidth_eq]

section
variable (h : s.link.Free) (tag : Byte) {n v p src : Byte} (e hold : Byte) (x y w k : Half) (c : Colour)
include h

/-- PANE SET refused by the first of its checks that fails (R103). -/
theorem execPaneSet_refused {r : Reason}
    (hstep : paneSetStep n e x y w k src hold v p c.luma c.cb c.cr s = (s, Answer.refused r)) :
    execPaneSet tag n e x y w k src hold v p c.luma c.cb c.cr s = .next { s with
      link := s.link.answered ⟨0x3A, tag, [n, e] ++ halfBytes x ++ halfBytes y ++ halfBytes w ++ halfBytes k ++
        [src, hold, v, p, c.luma, c.cb, c.cr]⟩ .refused [r.code] } :=
  respond_next rfl h hstep rfl

/-- PANE SET with every number in range: the staged record is replaced (R103). -/
theorem execPaneSet_next {pane window profile : Fin 4} {source : PaneSource} (hn : n.toNat = pane.val)
    (hsrc : src = source.code) (hv : v.toNat = window.val) (hp : p.toNat = profile.val) :
    let even (q : Half) : Nat := 2 * (q.toNat / 2)
    let flag (b : Byte) : Byte := if b = 0 then 0 else 1
    execPaneSet tag n e x y w k src hold v p c.luma c.cb c.cr s = .next { s with
      output :=
        { s.output with
          staged := s.output.staged.set pane
            ⟨decide (e ≠ 0), ⟨even x, even y, even w, even k⟩, source, decide (hold ≠ 0), window, profile, c⟩ }
      link := s.link.answered ⟨0x3A, tag, [n, e] ++ halfBytes x ++ halfBytes y ++ halfBytes w ++ halfBytes k ++
          [src, hold, v, p, c.luma, c.cb, c.cr]⟩
        (okIf ¬(1 < e.toNat ∨ 1 < hold.toNat ∨ x.toNat % 2 = 1 ∨ y.toNat % 2 = 1 ∨ w.toNat % 2 = 1 ∨ k.toNat % 2 = 1))
        ([flag e] ++ le16 (even x) ++ le16 (even y) ++ le16 (even w) ++ le16 (even k) ++
          [src, flag hold, v, p, c.luma, c.cb, c.cr]) } := by
  intro even flag
  let record : Pane := ⟨onOff e, paneRect x y w k, source, onOff hold, window, profile, c⟩
  have hrecord : record =
      ⟨decide (e ≠ 0), ⟨even x, even y, even w, even k⟩, source, decide (hold ≠ 0), window, profile, c⟩ := by
    simp only [record, onOff_eq, paneRect_eq, even]
  have hbytes : paneBytes record = [flag e] ++ le16 (even x) ++ le16 (even y) ++ le16 (even w) ++ le16 (even k) ++
      [src, flag hold, v, p, c.luma, c.cb, c.cr] := by
    simp only [paneBytes, record, rectBytes, flagByte_onOff, paneRect_eq, lowByte_index hv, lowByte_index hp, ← hsrc, even,
      flag, ← List.append_assoc]
  have hstep : paneSetStep n e x y w k src hold v p c.luma c.cb c.cr s =
      (s.withOutput { s.output with staged := s.output.staged.set pane record },
        Answer.inForce (paneUnchanged e x y w k hold) (paneBytes record)) := by
    simp only [paneSetStep, index4_some hn, index4_some hv, index4_some hp, hsrc, paneSource_code, record]
  rw [← hrecord, ← hbytes, ← Status.ofUnchanged_eq (paneUnchanged_iff e hold x y w k)]
  exact respond_next rfl h hstep rfl

end

/-- PANE COMMIT: at once in OFF, at the next frame start elsewhere (R104). -/
theorem execPaneCommit_next (h : s.link.Free) (tag : Byte) :
    execPaneCommit tag s = .next { s with
      output :=
        if s.output.state = .off then { s.output with active := s.output.staged }
        else { s.output with commitPending := true }
      link := s.link.answered ⟨0x3B, tag, []⟩ .ok [] } := by
  have hstep : paneCommitStep s = (s.withOutput
      (if s.output.state = .off then { s.output with active := s.output.staged }
        else { s.output with commitPending := true }), Answer.ok []) := by
    unfold paneCommitStep
    split
    · rename_i hs
      rw [if_pos hs]
    · rename_i hs
      rw [if_neg hs]
  exact respond_next rfl h hstep rfl

end Sys2Proof.Machine
end

section
/-! The requests of output and panes. -/

open Sys2Proof Sys2Proof.Machine

/-- Settles O30, request by request; PANE SET's refusals by the first check that fails. -/
theorem outputAndPaneRequests : Obligations.OutputAndPaneRequests := by
  refine ⟨fun tag mode s h => ⟨execOutputStart_refused h, fun m hm => execOutputStart_next h hm⟩,
    fun tag s h => ⟨execOutputStop_off h tag, execOutputStop_running h tag⟩,
    fun tag n e x y w k src hold v p cy cb cr s h => ?pane, fun tag s h => execPaneCommit_next h tag⟩
  have index {b : Byte} (hb : b.toNat < 4) : index4 b = some ⟨b.toNat, hb⟩ := index4_some rfl
  refine ⟨fun hn => ?_, fun hn hsrc => ?_, fun hn hsrc hv => ?_, fun hn hsrc hv hp => ?_,
    fun pane window profile source hn hsrc hv hp => execPaneSet_next h tag e hold x y w k ⟨cy, cb, cr⟩ hn hsrc hv hp⟩
  · refine execPaneSet_refused h tag e hold x y w k ⟨cy, cb, cr⟩ (r := .noSuchPane) ?_
    simp only [paneSetStep, index4_none hn]
  · refine execPaneSet_refused h tag e hold x y w k ⟨cy, cb, cr⟩ (r := .noSuchSource) ?_
    simp only [paneSetStep, index hn, paneSource_none hsrc]
  · obtain ⟨q, hq⟩ := paneSource_some hsrc
    refine execPaneSet_refused h tag e hold x y w k ⟨cy, cb, cr⟩ (r := .noSuchWindow) ?_
    simp only [paneSetStep, index hn, hq, index4_none hv]
  · obtain ⟨q, hq⟩ := paneSource_some hsrc
    refine execPaneSet_refused h tag e hold x y w k ⟨cy, cb, cr⟩ (r := .noSuchProfile) ?_
    simp only [paneSetStep, index hn, hq, index hv, index4_none hp]

end

section
/-! The start and the end of an output frame as equations: what begins it in each state, and a frame of background alone (R95,
R99, R101, R104). -/

namespace Sys2Proof.Machine

variable {s : State}

/-! ### A frame's beginning (R99, R100) -/

/-- The output at the start of a frame: a pending commit copied, the frame counter one higher (R99, R100, R104). -/
theorem Output.startFrame_eq (o : Output) : o.startFrame =
    { o with
      active := if o.commitPending then o.staged else o.active
      commitPending := false
      frameCounter := o.frameCounter + 1 } := by
  unfold Output.startFrame
  split
  · rfl
  · rename_i h
    rw [← Bool.eq_false_iff.mpr h]

/-- A frame that begins with nothing scanned. -/
theorem State.begun_of_unscanned (h : s.output.latch = none) : s.begun = s.withOutput s.output.startFrame := by
  rw [State.begun, State.endScan_none h]

/-- Nothing is scanned once a scan has ended. -/
theorem State.scanEnded_latch (s : State) : s.scanEnded.output.latch = none := by
  rw [State.scanEnded_output]

/-- In OFF there is no frame start (R95). -/
theorem execOutputFrameStart_off (hs : s.output.state = .off) : execOutputFrameStart s = .next s := by
  simp only [execOutputFrameStart, hs, ignored]

/-- A frame start in STARTING while the starting count is below 3 (R99). -/
theorem execOutputFrameStart_starting (hs : s.output.state = .starting) (hc : s.output.startCount < 3) :
    execOutputFrameStart s = .next s.begun.startingFrame.transmit := by
  simp only [execOutputFrameStart, hs, if_pos hc]
  rfl

/-- The frame start that enters RUN (R99 step 5). -/
theorem execOutputFrameStart_entering (hs : s.output.state = .starting) (hc : 3 ≤ s.output.startCount) :
    execOutputFrameStart s = .next s.begun.enterRun.runScheduled.transmit := by
  simp only [execOutputFrameStart, hs, if_neg (Nat.not_lt.mpr hc)]
  rfl

/-- A frame start in RUN (R100). -/
theorem execOutputFrameStart_composed (hs : s.output.state = .run) :
    execOutputFrameStart s = .next s.begun.runScheduled.transmit := by
  simp only [execOutputFrameStart, hs]
  rfl

/-- A frame start that finds the last frame unended ends it first (R96). -/
theorem execOutputFrameStart_scanEnded (hs : s.output.state ≠ .off) :
    execOutputFrameStart s = execOutputFrameStart s.scanEnded := by
  have hbegun : s.scanEnded.begun = s.begun := by
    rw [State.begun, State.endScan_none s.scanEnded_latch, ← State.endScan_eq]
    rfl
  have hstate : s.scanEnded.output.state = s.output.state := by rw [State.scanEnded_output]
  have hcount : s.scanEnded.output.startCount = s.output.startCount := by rw [State.scanEnded_output]
  cases h : s.output.state with
  | off => exact absurd h hs
  | starting =>
    rcases Nat.lt_or_ge s.output.startCount 3 with hc | hc
    · rw [execOutputFrameStart_starting h hc, execOutputFrameStart_starting (hstate.trans h) (hcount ▸ hc), hbegun]
    · rw [execOutputFrameStart_entering h hc, execOutputFrameStart_entering (hstate.trans h) (hcount ▸ hc), hbegun]
  | run => rw [execOutputFrameStart_composed h, execOutputFrameStart_composed (hstate.trans h), hbegun]

/-- A frame end releases all that the frame held (R101). -/
theorem execOutputFrameEnd_scanning (h : s.output.latch ≠ none) : execOutputFrameEnd s = .next s.scanEnded.transmit := by
  obtain ⟨l, hl⟩ := Option.ne_none_iff_exists'.mp h
  simp only [execOutputFrameEnd, hl, State.endScan_eq, finish]

/-- With no frame being scanned there is no frame end. -/
theorem execOutputFrameEnd_none (h : s.output.latch = none) : execOutputFrameEnd s = .next s := by
  simp only [execOutputFrameEnd, h, ignored]

/-! ### A frame of background alone (R95, R99) -/

/-- The glides leave the output alone, and do not look at it. -/
theorem State.glideStep_withOutput (s : State) (o : Output) : (s.withOutput o).glideStep = s.glideStep.withOutput o := by
  rw [State.glideStep_eq, State.glideStep_eq]
  rfl

/-- A map that sees no index (R94). -/
theorem Table.mapIdx_const {α β : Type} {n : Nat} (f : α → β) (t : Table α n) : t.mapIdx (fun _ a => f a) = t.map f := by
  ext i
  rw [Table.get_mapIdx, Table.get_map]

/-- A frame start in STARTING with nothing scanned and a count below 3 (R99). -/
theorem State.begun_startingFrame (hl : s.output.latch = none) :
    let active := if s.output.commitPending then s.output.staged else s.output.active
    s.begun.startingFrame = s.glideStep.withOutput
      { s.output with
        active := active
        commitPending := false
        frameCounter := s.output.frameCounter + 1
        startCount := s.output.startCount + 1
        latch := some ⟨none, s.output.background,
          active.mapIdx fun _ p => ⟨clipRect s.output.mode p.rect, .nothing⟩⟩ } := by
  intro active
  rw [Table.mapIdx_const, State.begun_of_unscanned hl, State.startingFrame, State.glideStep_withOutput, Output.startFrame_eq]
  rfl

/-- A latch whose panes show nothing leaves every pixel the background (R95, R110). -/
theorem State.rasterPixel_idle {l : FrameLatch} (hl : s.output.latch = some l)
    (h : ∀ n, (l.panes.get n).shows = .nothing) (x y : Nat) : s.rasterPixel x y = some l.background :=
  State.rasterPixel_background hl fun n hn => hn.1 (h n)

end Sys2Proof.Machine
end

section
/-! Output frames in STARTING, frame ends, and OFF. -/

open Sys2Proof Sys2Proof.Machine

/-- Settles O31, state by state: a latch that shows nothing leaves the background, and a scan that has ended leaves a frame
start nothing to end. -/
theorem startingFramesAndFrameEnds : Obligations.StartingFramesAndFrameEnds := by
  intro s
  refine ⟨fun hs hc hl => ?_, execOutputFrameEnd_scanning, execOutputFrameEnd_none,
    fun hs => ⟨execOutputFrameStart_off hs, fun x y => ?_⟩, execOutputFrameStart_scanEnded⟩
  · intro mode wa ha clip active t
    have hclip : clip = clipRect mode := rfl
    refine ⟨?_, fun x y hx hy => ?_⟩
    · show execOutputFrameStart s = _
      rw [execOutputFrameStart_starting hs hc, State.begun_startingFrame hl, ← hclip]
      rfl
    · have hout : t.output = _ := State.transmit_output _
      have hlatch : t.output.latch = some ⟨none, s.output.background,
          active.mapIdx fun _ p => ⟨clip p.rect, .nothing⟩⟩ := congrArg Output.latch hout
      have hstate : t.output.state = .starting := (congrArg Output.state hout).trans hs
      have hmode : t.output.mode = mode := by rw [hout]
      obtain ⟨henable, hdata⟩ := State.portLevels_scanned hlatch (by rw [hstate]; decide) 
        (by rw [hmode]; exact hx) (by rw [hmode]; exact hy)
      have hpixel := State.rasterPixel_idle hlatch (fun n => by rw [Table.get_mapIdx]) x y
      exact ⟨henable, Option.some.inj (hdata.trans hpixel)⟩
  · unfold State.portLevels
    rw [hs]
    rfl

end

section
/-! SUPPORT. What the projector output works with, its own state and the pixel pipe, under the tag moves that a composed frame
start takes between its pin requests: they leave it alone (R109). -/

namespace Sys2Proof.Machine

variable (s : State)

/-- The state of output and pixel pipe. -/
def State.screen : Output × Pipe := (s.output, s.pipe)

/-! ### Messages and captures -/

theorem State.recordError_screen (src : ErrorSource) (k : ErrorKind) (d : Nat) :
    (s.recordError src k d).screen = s.screen :=
  Prod.ext (s.recordError_output src k d) (s.recordError_pipe src k d)

theorem State.transmit_screen : s.transmit.screen = s.screen := Prod.ext s.transmit_output s.transmit_pipe

theorem State.keepWaiting_screen (r : Request) : (s.keepWaiting r).screen = s.screen := by
  obtain ⟨link, errors, notices, h⟩ := s.keepWaiting_frame r
  rw [h]
  rfl

/-- A request leaves output and pipe alone where its block's step does (R166 to R169). -/
theorem respond_screen (i : Instr) {step : State → State × Answer} (h : (step s).1.screen = s.screen) :
    (stateAfter (respond i s step) s).screen = s.screen := by
  unfold respond respondOrDefer
  split
  · exact (State.transmit_screen _).trans h
  · exact (State.transmit_screen _).trans (s.keepWaiting_screen _)
  · rfl

theorem State.trigger_screen (src : Trigger) (named : Option (Word × Nat)) :
    (s.trigger src named).screen = s.screen := by
  obtain ⟨slots, capture, store, notices, h⟩ := s.trigger_frame src named
  rw [h]
  rfl

theorem State.beginOvertaken_screen : s.beginOvertaken.1.screen = s.screen := by
  obtain ⟨capture, link, errors, notices, schedule, h⟩ := s.beginOvertaken_frame
  rw [h]
  rfl

theorem State.endCapture_screen (begun : Option BegunCapture) : (s.endCapture begun).screen = s.screen := by
  obtain ⟨slots, capture, store, notices, link, h⟩ := s.endCapture_frame begun
  rw [h]
  rfl

/-! ### The tag moves (R10, R13, R16, R20, R21) -/

theorem State.takeSample_screen (frame : Word) (focus : Nat) (means : Table Nat 192) :
    (s.takeSample frame focus means).screen = s.screen := by
  unfold State.takeSample
  dsimp only
  split
  · rfl
  · exact State.trigger_screen _ _ _
  · rfl

theorem State.endGood_screen (f : CurrentFrame) (begun : Option BegunCapture) :
    (s.endGood f begun).screen = s.screen := by
  unfold State.endGood
  exact (State.takeSample_screen _ _ _ _).trans (State.endCapture_screen _ begun)

theorem State.endDamaged_screen (f : CurrentFrame) : (s.endDamaged f).screen = s.screen := by
  unfold State.endDamaged
  dsimp only
  split
  · exact s.recordError_screen _ _ _
  · rfl

theorem execFrameEnd_screen : (stateAfter (execFrameEnd s) s).screen = s.screen := by
  unfold execFrameEnd
  split
  · exact (State.transmit_screen _).trans ((State.endGood_screen _ _ _).trans s.beginOvertaken_screen)
  · split
    · exact (State.transmit_screen _).trans (s.endDamaged_screen _)
    · exact State.transmit_screen _
    · exact State.transmit_screen _
    · rfl

theorem State.recallDone_screen (r : RecallLoad) (c : CellRead) : (s.recallDone r c).screen = s.screen := by
  unfold State.recallDone
  dsimp only
  split <;> rfl

theorem State.recallFailed_screen (r : RecallLoad) : (s.recallFailed r).screen = s.screen :=
  State.recordError_screen _ _ _ _

theorem execRecallReadEnd_screen (read : Option CellRead) :
    (stateAfter (execRecallReadEnd read s) s).screen = s.screen := by
  have hfailed (r : RecallLoad) : (s.endStep.recallFailed r).arbitratePort.transmit.screen = s.screen :=
    (State.transmit_screen _).trans (s.endStep.recallFailed_screen r)
  unfold execRecallReadEnd
  split
  · dsimp only
    split
    · split
      · exact (State.transmit_screen _).trans (s.endStep.recallDone_screen _ _)
      · exact hfailed _
    · exact hfailed _
  · rfl

theorem freezeStep_screen (which source : Byte) : (freezeStep which source s).1.screen = s.screen := by
  unfold freezeStep
  split
  · split <;> rfl
  · rfl

theorem unfreezeStep_screen (which : Byte) : (unfreezeStep which s).1.screen = s.screen := by
  unfold unfreezeStep
  split <;> rfl

theorem runMove_screen (m : TagMove) : (runMove m s).screen = s.screen := by
  cases m with
  | frameEnd => exact execFrameEnd_screen s
  | recallReadEnd read => exact execRecallReadEnd_screen s read
  | freeze tag which source => exact respond_screen s (.freeze tag which source) (freezeStep_screen s which source)
  | unfreeze tag which => exact respond_screen s (.unfreeze tag which) (unfreezeStep_screen s which)

theorem runMoves_screen (moves : List TagMove) : (runMoves moves s).screen = s.screen := by
  induction moves generalizing s with
  | nil => rfl
  | cons m rest ih => rw [runMoves_cons, ih, runMove_screen]

/-- The four pin requests and the moves between them leave output and pipe alone (R109). -/
theorem resolvePanes_screen (mode : Fin 4) (page : PageState) (panes : Table Pane 4) (between : Between) :
    (resolvePanes mode page panes between s).1.screen = s.screen := by
  have hturn (p : Pane) (moves : List TagMove) (t : State) : (resolveTurn mode page p moves t).1.screen = t.screen :=
    runMoves_screen _ moves
  exact (hturn _ _ _).trans ((hturn _ _ _).trans ((hturn _ _ _).trans (hturn _ _ _)))

/-! ### The moves as commands -/

/-- A tag move is the command it stands for (R109). -/
theorem runMove_eq (m : TagMove) : runMove m s = stateAfter (exec (moveCommand m) s) s := by
  cases m <;> rfl

/-- Commands that all go on lead where the tag moves do (R109). -/
theorem runMoves_of_runAll {moves : List TagMove} {s t : State} (h : runAll (moves.map moveCommand) s = .next t) :
    runMoves moves s = t := by
  induction moves generalizing s with
  | nil => exact Host.Outcome.next.inj h
  | cons m rest ih =>
    rw [List.map_cons, runAll] at h
    split at h
    · rename_i u hu
      rw [runMoves_cons, runMove_eq, hu]
      exact ih h
    · rename_i hstop
      exact absurd h (hstop t)

end Sys2Proof.Machine
end

section
/-! A composed frame start: each pane's turn, the frame from its pins to its interval count (R99, R100, R105, R107, R109,
R118). -/

namespace Sys2Proof.Machine

variable {s t1 t2 t3 : State}

/-! ### One pane's turn (R105, R107) -/

/-- What a pane shows as the tags stand at its turn (R100, R105, R107). -/
def Pane.showing (mode : Fin 4) (page : PageState) (t : Slots) (p : Pane) : PaneShows :=
  if p.enabled = false ∨ (clipRect mode p.rect).w < 16 ∨ (clipRect mode p.rect).h < 16 then .nothing
  else if p.source = .test then .testCard
  else match (pinRequest p page).findSome? t.carrier with
    | some i => .slot i
    | none => .absent p.absent

/-- The slots once what a pane shows is pinned (R18). -/
def Slots.pinnedBy (t : Slots) (shown : PaneShows) : Slots :=
  t.mapIdx fun i x => { x with pins := x.pins + if shown = .slot i then 1 else 0 }

/-- What shows no slot pins none. -/
theorem Slots.pinnedBy_none (t : Slots) {shown : PaneShows} (h : ∀ i, shown ≠ .slot i) : t.pinnedBy shown = t := by
  ext i
  rw [Slots.pinnedBy, Table.get_mapIdx, if_neg (h i), Nat.add_zero]

/-- A slot shown is pinned once. -/
theorem Slots.pinnedBy_slot (t : Slots) (i : Fin 12) :
    t.pinnedBy (.slot i) = t.set i { t.get i with pins := (t.get i).pins + 1 } := by
  ext j
  rw [Slots.pinnedBy, Table.get_mapIdx, Table.get_set]
  by_cases h : i = j
  · subst h
    rw [if_pos rfl, if_pos rfl]
  · rw [if_neg h, if_neg (fun e => h (PaneShows.slot.inj e)), Nat.add_zero]

/-- A pin request answers the first of its tags that is on a slot (R18). -/
theorem Slots.pin_eq (t : Slots) (tags : List Tag) : t.pin tags =
    match tags.findSome? t.carrier with
    | some i => (t.set i { t.get i with pins := (t.get i).pins + 1 }, some i)
    | none => (t, none) := by
  induction tags with
  | nil => rfl
  | cons tag more ih =>
    rw [Slots.pin, List.findSome?_cons]
    cases t.carrier tag with
    | some i => rfl
    | none => exact ih

/-- A pane's turn: it shows what its enable, size and source give, and pins the slot that it shows (R100, R105, R107). -/
theorem resolvePane_eq (mode : Fin 4) (page : PageState) (t : Slots) (p : Pane) :
    resolvePane mode page t p =
      (t.pinnedBy (p.showing mode page t), ⟨clipRect mode p.rect, p.showing mode page t⟩) := by
  have hhidden : (!p.enabled || !(clipRect mode p.rect).shown) = true ↔
      p.enabled = false ∨ (clipRect mode p.rect).w < 16 ∨ (clipRect mode p.rect).h < 16 := by
    simp only [Rect.shown, Bool.or_eq_true, Bool.not_eq_true', decide_eq_false_iff_not, not_and_or, Nat.not_le]
  unfold resolvePane
  dsimp only
  by_cases hide : p.enabled = false ∨ (clipRect mode p.rect).w < 16 ∨ (clipRect mode p.rect).h < 16
  · have hshows : p.showing mode page t = .nothing := if_pos hide
    have hpin : t.pinnedBy .nothing = t := t.pinnedBy_none nofun
    rw [if_pos (hhidden.mpr hide), hshows, hpin]
  · rw [if_neg (mt hhidden.mp hide)]
    by_cases htest : p.source = .test
    · have hshows : p.showing mode page t = .testCard := (if_neg hide).trans (if_pos htest)
      have hpin : t.pinnedBy .testCard = t := t.pinnedBy_none nofun
      rw [if_pos htest, hshows, hpin]
    · rw [if_neg htest, Slots.pin_eq]
      cases hfirst : (pinRequest p page).findSome? t.carrier with
      | some i =>
        have hshows : p.showing mode page t = .slot i := by
          simp only [Pane.showing, if_neg hide, if_neg htest, hfirst]
        rw [hshows, Slots.pinnedBy_slot]
      | none =>
        have hshows : p.showing mode page t = .absent p.absent := by
          simp only [Pane.showing, if_neg hide, if_neg htest, hfirst]
        have hpin : t.pinnedBy (.absent p.absent) = t := t.pinnedBy_none nofun
        rw [hshows, hpin]

/-- The part once what a pane shows at its turn is pinned (R18, R109). -/
def State.pinnedAt (s : State) (mode : Fin 4) (page : PageState) (p : Pane) : State :=
  s.withSlots (s.slots.pinnedBy (p.showing mode page s.slots))

/-- A pane's turn in the whole part: its pin, and then the tag moves (R109). -/
theorem resolveTurn_eq (mode : Fin 4) (page : PageState) (p : Pane) (moves : List TagMove) (s : State) :
    resolveTurn mode page p moves s =
      (runMoves moves (s.pinnedAt mode page p), ⟨clipRect mode p.rect, p.showing mode page s.slots⟩) := by
  rw [resolveTurn, resolvePane_eq]
  rfl

/-! ### The four turns (R109) -/

/-- The states in which the four panes take their turns, from the first on: each after the turn before it and the tag moves
that follow that turn (R109). -/
structure Turns (mode : Fin 4) (page : PageState) (panes : Table Pane 4) (between : Between) (s t1 t2 t3 : State) :
    Prop where
  second : runMoves between.after0 (s.pinnedAt mode page (panes.get 0)) = t1
  third : runMoves between.after1 (t1.pinnedAt mode page (panes.get 1)) = t2
  fourth : runMoves between.after2 (t2.pinnedAt mode page (panes.get 2)) = t3

/-- The state in which a pane takes its turn. -/
def turnOf (s t1 t2 t3 : State) : Fin 4 → State
  | 0 => s
  | 1 => t1
  | 2 => t2
  | 3 => t3

theorem Turns.resolvePanes_eq {mode : Fin 4} {page : PageState} {panes : Table Pane 4} {between : Between}
    (h : Turns mode page panes between s t1 t2 t3) :
    resolvePanes mode page panes between s = (t3.pinnedAt mode page (panes.get 3),
      panes.mapIdx fun n p => ⟨clipRect mode p.rect, p.showing mode page (turnOf s t1 t2 t3 n).slots⟩) := by
  unfold resolvePanes
  simp only [resolveTurn_eq, h.second, h.third, h.fourth, runMoves_nil]
  congr 1
  ext n
  rw [Table.get_mapIdx]
  match n with
  | 0 | 1 | 2 | 3 => rfl

/-! ### The frame (R100) -/

/-- A composed frame from its step 3 on, told from the state its pin requests lead to: the latch, the windows' glide, the
pane jobs of the glided windows, the interval timer's count (R100). -/
theorem State.runFrame_eq (s : State) (between : Between) :
    let r := resolvePanes s.output.mode s.watch.page s.output.active between s
    let g := r.1.glideStep
    s.runFrame between = { g with
      capture := g.capture.countFrame
      output := { s.output with latch := some ⟨some s.watch.page, s.output.background, r.2⟩ }
      pipe := { s.pipe with jobs := paneJobs g.views s.pipe.profiles s.output.active r.2 } } := by
  have hscreen := resolvePanes_screen s s.output.mode s.watch.page s.output.active between
  unfold State.runFrame
  dsimp only
  rw [State.glideStep_withOutput]
  generalize resolvePanes s.output.mode s.watch.page s.output.active between s = r at hscreen ⊢
  obtain ⟨t, latches⟩ := r
  have hout : t.output = s.output := congrArg Prod.fst hscreen
  have hpipe : t.glideStep.pipe = s.pipe := by
    rw [State.glideStep_eq]
    exact congrArg Prod.snd hscreen
  generalize t.glideStep = g at hpipe ⊢
  dsimp only
  rw [hout, State.withOutput_pipe, hpipe]
  rfl

/-- One count of the interval timer, its stages told apart (R118). -/
theorem Capture.countFrame_eq (d : Capture) :
    let wraps := d.frameCount + 1 = d.prescale
    let expires := wraps ∧ d.postCount + 1 = d.postscale
    d.countFrame = { d with
      frameCount := if wraps then 0 else d.frameCount + 1
      postCount := if expires then 0 else if wraps then d.postCount + 1 else d.postCount
      expiries := if expires then d.expiries + 1 else d.expiries } := by
  intro wraps expires
  rcases d.countFrame_cases with ⟨hw, e⟩ | ⟨hw, hp, e⟩ | ⟨hw, hp, e⟩
  · rw [e, if_neg hw, if_neg fun h => hw h.1, if_neg hw, if_neg fun h => hw h.1]
  · rw [e, if_pos hw, if_neg fun h => hp h.2, if_pos hw, if_neg fun h => hp h.2]
  · rw [e, if_pos hw, if_pos ⟨hw, hp⟩, if_pos ⟨hw, hp⟩]

/-- The pane job of a pane that shows a slot (R61, R76, R77, R79). -/
theorem paneJob_slot (views : Table Window 4) (profiles : Table Profile 4) (n : Fin 4) (p : Pane) (c : Rect) (i : Fin 12) :
    let r := (views.get p.window).rectFor c.w c.h
    paneJob views profiles n p ⟨c, .slot i⟩ =
      some ⟨n, i, c.w, c.h, r, p.profile, profiles.get p.profile, 4096 * r.w / c.w, 4096 * r.h / c.h⟩ := by
  intro r
  rw [Nat.mul_comm 4096 r.w, Nat.mul_comm 4096 r.h]
  rfl

/-! ### The frame start (R99, R100) -/

/-- What the schedule gives a composed frame start: its front entry, used up, or nothing (R109). -/
theorem State.takeBetween_eq {between : Between} {left : Schedule}
    (h : (s.schedule.between = [] ∧ between = .none ∧ left = s.schedule) ∨
      ∃ rest, s.schedule.between = between :: rest ∧ left = { s.schedule with between := rest }) :
    s.takeBetween = (between, s.withSchedule left) := by
  unfold State.takeBetween
  rcases h with ⟨hnil, rfl, rfl⟩ | ⟨rest, hcons, rfl⟩
  · rw [hnil]
    rfl
  · rw [hcons]

/-- The output once a composed frame has begun (R99, R100). -/
def Output.composing (o : Output) : Output :=
  { o with
    state := .run
    active := if o.commitPending then o.staged else o.active
    commitPending := false
    frameCounter := o.frameCounter + 1 }

/-- A composed frame start with nothing scanned: the frame begins, entry into RUN is told, the frame follows (R99, R100). -/
theorem execOutputFrameStart_composing {between : Between} {left : Schedule} (hl : s.output.latch = none)
    (hb : (s.schedule.between = [] ∧ between = .none ∧ left = s.schedule) ∨
      ∃ rest, s.schedule.between = between :: rest ∧ left = { s.schedule with between := rest })
    (hs : s.output.state = .run ∨ (s.output.state = .starting ∧ 3 ≤ s.output.startCount)) :
    let begun := s.output.composing
    let v := (s.withOutput begun).withSchedule left
    let u := if s.output.state = .run then v else v.raise (.outputState .run begun.mode begun.frameCounter)
    execOutputFrameStart s = .next (u.runFrame between).transmit := by
  intro begun v u
  rcases hs with hrun | ⟨hstarting, hcount⟩
  · have hbegun : s.begun = s.withOutput begun := by
      rw [State.begun_of_unscanned hl, Output.startFrame_eq, hrun]
      rfl
    have htake : (s.withOutput begun).takeBetween = (between, v) := State.takeBetween_eq hb
    rw [execOutputFrameStart_composed hrun, hbegun, State.runScheduled, htake, show u = v from if_pos hrun]
  · have hne : s.output.state ≠ .run := by rw [hstarting]; decide
    let told := (s.withOutput begun).raise (.outputState .run begun.mode begun.frameCounter)
    have hentered : s.begun.enterRun = told := by
      rw [State.begun_of_unscanned hl, Output.startFrame_eq]
      rfl
    have htake : told.takeBetween = (between, told.withSchedule left) := State.takeBetween_eq hb
    rw [execOutputFrameStart_entering hstarting hcount, hentered, State.runScheduled, htake, show u = _ from if_neg hne]
    rfl

end Sys2Proof.Machine
end

section
/-! The composed frame start. -/

open Sys2Proof Sys2Proof.Machine

/-- Settles O32: each pane's turn is a choice of what it shows and the pin of a slot shown, the tag moves are the commands
given, and they leave output and pipe alone. -/
theorem runFrameStart : Obligations.RunFrameStart := by
  intro s t1 t2 t3 between left hl hb hs begun u wa ha clip tags shows pinned h1 h2 h3 shown g job d wraps expires
  have hexec : execOutputFrameStart s = .next (u.runFrame between).transmit := execOutputFrameStart_composing hl hb hs
  have houtput : u.output = begun := by unfold u; split <;> rfl
  have hpipe : u.pipe = s.pipe := by unfold u; split <;> rfl
  have hwatch : u.watch = s.watch := by unfold u; split <;> rfl
  have htags (p : Pane) : tags p = pinRequest p s.watch.page := by
    obtain ⟨enabled, rect, source, hold, window, profile, absent⟩ := p
    cases source
    case live => exact if_congr (by simp) rfl rfl
    all_goals rfl
  have hshows (t : State) (n : Fin 4) : shows t n = (begun.active.get n).showing begun.mode s.watch.page t.slots := by
    rw [Pane.showing, ← htags]
    rfl
  have hpinned (t : State) (n : Fin 4) : pinned t n = t.pinnedAt begun.mode s.watch.page (begun.active.get n) := by
    rw [State.pinnedAt, ← hshows]
    rfl
  have hturns : Turns begun.mode s.watch.page begun.active between u t1 t2 t3 :=
    ⟨hpinned u 0 ▸ runMoves_of_runAll h1, hpinned t1 1 ▸ runMoves_of_runAll h2, hpinned t2 2 ▸ runMoves_of_runAll h3⟩
  have hshown (n : Fin 4) :
      shown n = (begun.active.get n).showing begun.mode s.watch.page (turnOf u t1 t2 t3 n).slots :=
    match n with
    | 0 => hshows u 0
    | 1 => hshows t1 1
    | 2 => hshows t2 2
    | 3 => hshows t3 3
  have hlatches : (begun.active.mapIdx fun n p => (⟨clip p.rect, shown n⟩ : PaneLatch)) = begun.active.mapIdx fun n p =>
      ⟨clipRect begun.mode p.rect, p.showing begun.mode s.watch.page (turnOf u t1 t2 t3 n).slots⟩ := by
    ext n
    rw [Table.get_mapIdx, Table.get_mapIdx, hshown]
    rfl
  have hjobs : paneJobs g.views s.pipe.profiles begun.active (begun.active.mapIdx fun n p => ⟨clip p.rect, shown n⟩) =
      (List.finRange 4).filterMap job := by
    refine congrArg (List.filterMap · _) (funext fun n => ?_)
    rw [Table.get_mapIdx]
    unfold job
    cases hn : shown n with
    | slot i => exact paneJob_slot _ _ _ _ _ _
    | nothing | testCard | absent => rfl
  have hframe := u.runFrame_eq between
  simp only [houtput, hpipe, hwatch, hturns.resolvePanes_eq, ← hpinned, ← hlatches] at hframe
  show execOutputFrameStart s = _
  rw [hexec, hframe, ← hjobs, Capture.countFrame_eq]

end

section
/-! What triggers make of the capture unit (R118, R120 to R122): the gate, the LIVE frame, the counts of the interval timer and
of the key filter. -/

namespace Sys2Proof.Machine

variable {s : State} {c : Capture}

/-! ### The gate (R121) -/

/-- The gate passes a REQUEST, and a selected source in a mode other than OFF, out of the holdoff, armed in SINGLE. -/
theorem Capture.gate_iff (c : Capture) (src : Trigger) : c.gate src = true ↔
    src = .request ∨ (c.settings.mode ≠ .off ∧ c.settings.mask.selects src = true ∧ c.holdoffCounter = 0 ∧
      (c.settings.mode = .single → c.armed = true)) := by
  simp only [Capture.gate, Bool.or_eq_true, Bool.and_eq_true, beq_iff_eq, bne_iff_ne, and_assoc, imp_iff_not_or, ne_eq]

/-- A trigger that passes the gate is a capture. -/
theorem State.trigger_of_gate {src : Trigger} (h : s.capture.gate src = true) (named : Option (Word × Nat)) :
    s.trigger src named = (s.takeCapture src named).1 := if_pos h

/-- A trigger that the gate stops is ignored. -/
theorem State.trigger_of_not_gate {src : Trigger} (h : ¬s.capture.gate src = true) (named : Option (Word × Nat)) :
    s.trigger src named = s := if_neg h

/-! ### The LIVE frame (R122) -/

/-- With LIVE on no slot there is no LIVE frame. -/
theorem Slots.liveFrame_none {t : Slots} (h : ∀ i, (t.get i).carries .live = false) : t.liveFrame = none := by
  have hcarrier : t.carrier .live = none := Table.lowest_eq_none.mpr h
  simp only [Slots.liveFrame, hcarrier]

/-- With LIVE on one slot the LIVE frame is that slot's. -/
theorem Slots.liveFrame_of_only {t : Slots} {i : Fin 12} {n : Word} {fm : Nat} (hc : (t.get i).carries .live = true)
    (hone : ∀ j, (t.get j).carries .live = true → j = i) (ho : (t.get i).origin = some (.sensor n))
    (hf : (t.get i).focus = some fm) : t.liveFrame = some (n, fm) :=
  have hsingle : t.Single .live := fun a b ha hb => (hone a ha).trans (hone b hb).symm
  Slots.liveFrame_of (Slots.carrier_of_single hsingle hc) ho hf

/-! ### The interval timer (R118) -/

/-- A count that does not end the first stage. -/
theorem Capture.countFrame_first (h : c.frameCount + 1 ≠ c.prescale) :
    c.countFrame = { c with frameCount := c.frameCount + 1 } := if_neg h

/-- A count that ends the first stage and not the second. -/
theorem Capture.countFrame_second (h : c.frameCount + 1 = c.prescale) (h' : c.postCount + 1 ≠ c.postscale) :
    c.countFrame = { c with frameCount := 0, postCount := c.postCount + 1 } := by
  rw [Capture.countFrame, if_pos h, if_neg h']

/-- A count that ends both stages: an expiry. -/
theorem Capture.countFrame_expiry (h : c.frameCount + 1 = c.prescale) (h' : c.postCount + 1 = c.postscale) :
    c.countFrame = { c with frameCount := 0, postCount := 0, expiries := c.expiries + 1 } := by
  rw [Capture.countFrame, if_pos h, if_pos h']

/-- The count after `n` when `n` is the last of a round of `p`. -/
theorem div_mod_succ_of_last {n p : Nat} (h : n % p + 1 = p) : (n + 1) / p = n / p + 1 ∧ (n + 1) % p = 0 := by
  have hn : n % p + p * (n / p) = n := Nat.mod_add_div n p
  refine (Nat.div_mod_unique (by omega)).mpr ⟨?_, by omega⟩
  rw [Nat.mul_add_one]
  omega

/-- The count after `n` within a round of `p`. -/
theorem div_mod_succ_of_within {n p : Nat} (hp : 1 ≤ p) (h : n % p + 1 ≠ p) :
    (n + 1) / p = n / p ∧ (n + 1) % p = n % p + 1 := by
  have hn : n % p + p * (n / p) = n := Nat.mod_add_div n p
  have hlt : n % p < p := Nat.mod_lt n hp
  exact (Nat.div_mod_unique hp).mpr ⟨by omega, by omega⟩

/-- From both counts 0 the first stage counts in rounds of P, the second the rounds of the first in rounds of S, and an expiry
the rounds of the second. -/
theorem Capture.countFrame_iterate (hp : 1 ≤ c.prescale) (hq : 1 ≤ c.postscale) (hf : c.frameCount = 0)
    (hc : c.postCount = 0) (n : Nat) :
    Capture.countFrame^[n] c =
      { c with
        frameCount := n % c.prescale
        postCount := n / c.prescale % c.postscale
        expiries := c.expiries + n / c.prescale / c.postscale } := by
  induction n with
  | zero => cases c; simp_all
  | succ n ih =>
    rw [Function.iterate_succ_apply', ih]
    by_cases h1 : n % c.prescale + 1 = c.prescale
    · obtain ⟨hd, hm⟩ := div_mod_succ_of_last h1
      by_cases h2 : n / c.prescale % c.postscale + 1 = c.postscale
      · obtain ⟨hd', hm'⟩ := div_mod_succ_of_last h2
        rw [Capture.countFrame_expiry h1 h2, hd, hm, hd', hm', Nat.add_assoc]
      · obtain ⟨hd', hm'⟩ := div_mod_succ_of_within hq h2
        rw [Capture.countFrame_second h1 h2, hd, hm, hd', hm']
    · obtain ⟨hd, hm⟩ := div_mod_succ_of_within hp h1
      rw [Capture.countFrame_first h1, hd, hm]

/-- With no expiry waiting INTERVAL_EXPIRY changes nothing. -/
theorem execIntervalExpiry_none (h : s.capture.expiries = 0) : execIntervalExpiry s = .next s := by
  simp only [execIntervalExpiry, State.takeExpiry, h, ignored]

/-- A waiting expiry is used up and judged as a trigger of the LIVE frame (R121, R122). -/
theorem execIntervalExpiry_waiting {m : Nat} (h : s.capture.expiries = m + 1) :
    execIntervalExpiry s =
      .next ((s.withCapture { s.capture with expiries := m }).trigger .interval s.slots.liveFrame).transmit := by
  simp only [execIntervalExpiry, State.takeExpiry, h, finish, State.withCapture_slots]

/-! ### The key filter (R120) -/

/-- The filter's counter after one sample, within 0 to 15. -/
def Capture.nextKey (c : Capture) (pressed : Bool) : Nat := if pressed then min (c.keyCounter + 1) 15 else c.keyCounter - 1

/-- The change to pressed is the press event. -/
theorem Capture.sampleKey_press {pressed : Bool} (hk : c.nextKey pressed = 15) (hl : c.keyPressed = false) :
    c.sampleKey pressed = ({ c with keyCounter := 15, keyPressed := true }, true) := by
  rw [← hk]
  exact if_pos ⟨hk, hl⟩

/-- The change to released is no event. -/
theorem Capture.sampleKey_release {pressed : Bool} (hk : c.nextKey pressed = 0) (hl : c.keyPressed = true) :
    c.sampleKey pressed = ({ c with keyCounter := 0, keyPressed := false }, false) := by
  rw [← hk]
  exact (if_neg fun h => by simp [hl] at h).trans (if_pos ⟨hk, hl⟩)

/-- Every other sample moves the counter alone. -/
theorem Capture.sampleKey_move {pressed : Bool} (hp : ¬(c.nextKey pressed = 15 ∧ c.keyPressed = false))
    (hr : ¬(c.nextKey pressed = 0 ∧ c.keyPressed = true)) :
    c.sampleKey pressed = ({ c with keyCounter := c.nextKey pressed }, false) :=
  (if_neg hp).trans (if_neg hr)

/-- A key sample that is a press event is judged as a trigger of the LIVE frame (R121, R122). -/
theorem execKeySample_press {pressed : Bool} {d : Capture} (h : s.capture.sampleKey pressed = (d, true)) :
    execKeySample pressed s = .next ((s.withCapture d).trigger .key s.slots.liveFrame).transmit := by
  simp only [execKeySample, h, if_true, finish, State.withCapture_slots]

/-- Another key sample steps the filter alone. -/
theorem execKeySample_quiet {pressed : Bool} {d : Capture} (h : s.capture.sampleKey pressed = (d, false)) :
    execKeySample pressed s = .next (s.withCapture d).transmit := by
  simp only [execKeySample, h, Bool.false_eq_true, if_false, finish]

/-- One pressed sample: the counter rises to 15 at most, the latch is set at 15, and its change is the press event. -/
theorem Capture.sampleKey_pressed (c : Capture) :
    let k := min (c.keyCounter + 1) 15
    c.sampleKey true =
      ({ c with keyCounter := k, keyPressed := c.keyPressed || decide (k = 15) }, decide (k = 15) && !c.keyPressed) := by
  intro k
  have hnext : c.nextKey true = k := rfl
  have hpos : ¬(c.nextKey true = 0 ∧ c.keyPressed = true) := by omega
  rw [← hnext]
  by_cases hk : c.nextKey true = 15
  · cases hl : c.keyPressed with
    | false => rw [Capture.sampleKey_press hk hl]; simp [hk]
    | true => rw [Capture.sampleKey_move (fun h => by simp [hl] at h) hpos]; simp [hl]
  · rw [Capture.sampleKey_move (fun h => hk h.1) hpos]
    simp [hk]

/-- From 0 and released, `n` pressed samples bring the counter to `n` and no further than 15, where the latch is set. -/
theorem Capture.sampleKey_iterate (hk : c.keyCounter = 0) (hl : c.keyPressed = false) (n : Nat) :
    (fun d : Capture => (d.sampleKey true).1)^[n] c =
      { c with keyCounter := min n 15, keyPressed := decide (15 ≤ n) } := by
  induction n with
  | zero => cases c; simp_all
  | succ n ih =>
    have hcounter : min (min n 15 + 1) 15 = min (n + 1) 15 := by omega
    have hlatch : (15 ≤ n ∨ min (n + 1) 15 = 15) ↔ 15 ≤ n + 1 := by omega
    rw [Function.iterate_succ_apply', ih, Capture.sampleKey_pressed, hcounter, ← Bool.decide_or, decide_eq_decide.mpr hlatch]

end Sys2Proof.Machine
end

section
/-! The gate, the interval timer and the key filter. -/

open Sys2Proof Sys2Proof.Machine

/-- Settles O36: what the gate asks, and one expiry judged on the LIVE frame of its moment. -/
theorem gateJudgesTriggers : Obligations.GateJudgesTriggers := by
  intro s c open_
  refine ⟨?gate, execIntervalExpiry_none, ?expiry⟩
  case gate =>
    intro src named selected
    have hselected : selected = c.settings.mask.selects src := by cases src <;> rfl
    have hgate : c.gate src = true ↔ src = .request ∨ open_ selected := by
      rw [hselected]
      exact c.gate_iff src
    exact ⟨fun h => State.trigger_of_gate (hgate.mpr h) named, fun h => State.trigger_of_not_gate (mt hgate.mp h) named⟩
  case expiry =>
    intro m hm u
    have hexec : exec .intervalExpiry s = .next (u.trigger .interval s.slots.liveFrame).transmit :=
      execIntervalExpiry_waiting hm
    have hgate : u.capture.gate .interval = true ↔ open_ c.settings.mask.interval :=
      (u.capture.gate_iff .interval).trans (or_iff_right nofun)
    refine ⟨fun hshut => ?_, fun hopen => ⟨fun hnone => ?_, fun i n fm hc hone ho hf => ?_⟩⟩
    · rw [hexec, State.trigger_of_not_gate (mt hgate.mp hshut)]
    · rw [hexec, State.trigger_of_gate (hgate.mpr hopen), Slots.liveFrame_none hnone]
    · rw [hexec, State.trigger_of_gate (hgate.mpr hopen), Slots.liveFrame_of_only hc hone ho hf]

/-- Settles O37: the timer's counts by induction on the frames, the filter's by induction on the samples. -/
theorem timerAndKeyTriggers : Obligations.TimerAndKeyTriggers := by
  refine ⟨?counts, fun c hp hq hf hc n => ?rounds, ?sample, ?presses⟩
  case counts =>
    intro s c
    exact ⟨fun h => congrArg s.withCapture (Capture.countFrame_first h),
      fun h h' => congrArg s.withCapture (Capture.countFrame_second h h'),
      fun h h' => congrArg s.withCapture (Capture.countFrame_expiry h h')⟩
  case rounds =>
    rw [Capture.countFrame_iterate hp hq hf hc, Nat.div_div_eq_div_mul]
  case sample =>
    intro s pressed c k
    have hk : k = c.nextKey pressed := by simp only [k, Nat.max_zero]; rfl
    rw [hk]
    exact ⟨fun h hl => execKeySample_press (Capture.sampleKey_press h hl),
      fun h hl => execKeySample_quiet (Capture.sampleKey_release h hl),
      fun hp hr => execKeySample_quiet (Capture.sampleKey_move hp hr)⟩
  case presses =>
    intro c hk hl n after
    have hafter : after n = { c with keyCounter := min n 15, keyPressed := decide (15 ≤ n) } :=
      Capture.sampleKey_iterate hk hl n
    have hlast : (min (min n 15 + 1) 15 = 15 ∧ ¬15 ≤ n) ↔ n = 14 := by omega
    rw [hafter, Capture.sampleKey_pressed, ← decide_not, ← Bool.decide_and, decide_eq_decide.mpr hlast]

end

section
/-! The outcome of a capture by cases (R122 to R126), and the reclaim erase that an entry withdraws (R153). -/

namespace Sys2Proof.Machine

variable {s : State} {r : CaptureRead} {n : Word} {fm : Nat} {l : Lesson}

/-! ### A waiting reclaim erase (R153) -/

/-- The cell whose reclaim erase a step is. -/
def PortStep.reclaimCell : PortStep → Option Nat
  | .reclaimErase c => some c
  | _ => none

/-- A step that erases no cell for reclaim. -/
theorem PortStep.reclaimCell_none {p : PortStep} (h : ∀ c, p ≠ .reclaimErase c) : p.reclaimCell = none := by
  cases p with
  | reclaimErase c => exact absurd rfl (h c)
  | _ => rfl

/-- Among steps none of which is a reclaim erase no cell is found. -/
theorem findSome_reclaimCell_none {steps : List PortStep} (h : ∀ c, .reclaimErase c ∉ steps) :
    steps.findSome? PortStep.reclaimCell = none :=
  List.findSome?_eq_none_iff.mpr fun _ hp => PortStep.reclaimCell_none fun c e => h c (e ▸ hp)

/-- With no reclaim erase waiting there is none to withdraw. -/
theorem Store.withdrawReclaim_none {x : Store} (h : ∀ c, .reclaimErase c ∉ x.port.waiting) : x.withdrawReclaim = x := by
  unfold Store.withdrawReclaim
  split
  · rename_i hc
    exact absurd (hc.symm.trans (findSome_reclaimCell_none h)) nofun
  · rfl

/-- The first reclaim erase that waits is withdrawn: its cell is DEAD again and the writer IDLE. -/
theorem Store.withdrawReclaim_waiting {x : Store} {c : Nat} {before after : List PortStep}
    (hw : x.port.waiting = before ++ .reclaimErase c :: after) (hb : ∀ d, .reclaimErase d ∉ before) :
    x.withdrawReclaim =
      { x with cells := x.cells.set c .dead, writer := .idle, port := ⟨x.port.inFlight, before ++ after⟩ } := by
  have hfound : x.port.waiting.findSome? PortStep.reclaimCell = some c := by
    rw [hw, List.findSome?_append, findSome_reclaimCell_none hb]
    rfl
  have hrest : x.port.waiting.erase (.reclaimErase c) = before ++ after := by
    rw [hw, List.erase_append_right _ (hb c), List.erase_cons_head]
  unfold Store.withdrawReclaim
  split
  · rename_i d hd
    cases hfound.symm.trans hd
    rw [hrest]
    rfl
  · rename_i hd
    exact absurd (hfound.symm.trans hd) nofun

/-! ### Before the joint step (R122) -/

/-- The focus floor is asked of SETTLE and INTERVAL captures alone. -/
theorem Trigger.judgedByFocus_iff (src : Trigger) : src.judgedByFocus = true ↔ src = .settle ∨ src = .interval := by
  cases src <;> simp [Trigger.judgedByFocus]

/-- The frame of a SETTLE or INTERVAL capture is below the focus floor. -/
def State.Blurred (s : State) (src : Trigger) (fm : Nat) : Prop :=
  (src = .settle ∨ src = .interval) ∧ fm < s.capture.settings.floor

theorem State.blurred_iff (s : State) (src : Trigger) (fm : Nat) :
    (src.judgedByFocus && decide (fm < s.capture.settings.floor)) = true ↔ s.Blurred src fm := by
  rw [Bool.and_eq_true, Trigger.judgedByFocus_iff, decide_eq_true_iff]
  rfl

/-- A blurred frame is missed. -/
theorem State.completeCapture_blurred (hn : r.named = some (n, fm)) (h : s.Blurred r.source fm) :
    s.completeCapture r = s.missCapture r.source .blurred n := by
  simp only [State.completeCapture, hn, if_pos ((s.blurred_iff r.source fm).mpr h)]

/-- A frame that is not blurred comes to the joint step (R123). -/
theorem State.completeCapture_sharp (hn : r.named = some (n, fm)) (h : ¬s.Blurred r.source fm) :
    s.completeCapture r = s.jointCapture r n fm := by
  simp only [State.completeCapture, hn, if_neg (mt (s.blurred_iff r.source fm).mp h)]

/-! ### The joint step (R123 to R126) -/

/-- No lesson is open, or the store is not READY. -/
theorem Store.openLesson_none {x : Store} (h : x.state ≠ .ready ∨ ∀ l ∈ x.directory, l.isOpen = false) :
    x.openLesson = none := by
  unfold Store.openLesson
  rcases h with h | h
  · exact if_neg h
  · rw [List.find?_eq_none.mpr fun l hl => by simp [h l hl], ite_self]

/-- Without an open lesson the capture is missed. -/
theorem State.jointCapture_noLesson (h : s.store.openLesson = none) :
    s.jointCapture r n fm = s.missCapture r.source .noLesson n := by
  simp only [State.jointCapture, h]

/-- A lesson whose ordinals are used up takes no page. -/
theorem State.jointCapture_lessonFull (h : s.store.openLesson = some l) (hl : 255 < l.next) :
    s.jointCapture r n fm = s.missCapture r.source .lessonFull n := by
  simp only [State.jointCapture, h, if_pos hl]

/-- The entry that names a frame is the one the queue's search finds, since no two name the same frame. -/
theorem find_of_frames_nodup {queue : List SaveEntry} {e : SaveEntry} (he : e ∈ queue)
    (hd : (queue.map (·.frame)).Nodup) : queue.find? (fun d => d.frame == e.frame) = some e := by
  obtain ⟨d, hfound⟩ := Option.isSome_iff_exists.mp (List.find?_isSome (p := fun d => d.frame == e.frame) |>.mpr
    ⟨e, he, beq_self_eq_true e.frame⟩)
  have hframe : d.frame = e.frame := by simpa using List.find?_some hfound
  rw [hfound, List.inj_on_of_nodup_map hd (List.mem_of_find?_eq_some hfound) he hframe]

/-- A frame that an entry names is captured into that entry (R125). -/
theorem State.jointCapture_merged (h : s.store.openLesson = some l) (hl : l.next ≤ 255) {e : SaveEntry}
    (he : e ∈ s.store.queue) (hd : (s.store.queue.map (·.frame)).Nodup) :
    s.jointCapture r e.frame fm = s.takenCapture r.source e.frame e.slot e.lesson e.ordinal true := by
  simp only [State.jointCapture, h, if_neg (Nat.not_lt.mpr hl), find_of_frames_nodup he hd]

/-- A frame that no entry names is missed with the queue full. -/
theorem State.jointCapture_queueFull (h : s.store.openLesson = some l) (hl : l.next ≤ 255)
    (hnew : ∀ e ∈ s.store.queue, e.frame ≠ n) (hq : 4 ≤ s.store.queue.length) :
    s.jointCapture r n fm = s.missCapture r.source .queueFull n := by
  have hfind : s.store.queue.find? (fun e => e.frame == n) = none :=
    List.find?_eq_none.mpr fun e he => by simpa using hnew e he
  have hfull : Config.queueCapacity ≤ s.store.queue.length := hq
  simp only [State.jointCapture, h, if_neg (Nat.not_lt.mpr hl), hfind, if_pos hfull]

/-- A frame found READY is tagged and its entry joins the queue; the writer begins, and the port grants (R124, R148). -/
theorem State.Admits.joined (h : s.Admits n l) (r : CaptureRead) (fm : Nat) {i : Fin 12}
    (hf : s.slots.findFrame n = some i) :
    let tagged := (s.withSlots (s.slots.set i ((s.slots.get i).withTag .capture))).withStore
      (s.store.append (r.entry n fm i l))
    s.jointCapture r n fm =
      ((tagged.takenCapture r.source n i l.id l.next false).1.runWriter.arbitratePort,
        .taken n i l.id l.next false s.capture.singleDone) := by
  have hnew : s.store.queue.find? (fun e => e.frame == n) = none :=
    List.find?_eq_none.mpr fun e he => by simpa using h.fresh e he
  have hroom : ¬Config.queueCapacity ≤ s.store.queue.length := Nat.not_le.mpr h.queue
  simp only [State.jointCapture, h.lesson, if_neg (Nat.not_lt.mpr h.room), hnew, if_neg hroom, Slots.tagCapture, hf]
  rfl

/-- The lowest slot that holds a frame READY is found (R12). -/
theorem Slots.findFrame_lowest {t : Slots} {i : Fin 12} (hr : (t.get i).phase = .ready)
    (ho : (t.get i).origin = some (.sensor n))
    (hl : ∀ j, (t.get j).phase = .ready → (t.get j).origin = some (.sensor n) → i ≤ j) : t.findFrame n = some i := by
  refine Table.lowest_eq_of (by simp [hr, ho]) fun j hj => ?_
  by_contra h
  obtain ⟨hrj, hoj⟩ : (t.get j).phase = .ready ∧ (t.get j).origin = some (.sensor n) := by simpa using h
  exact absurd (hl j hrj hoj) (not_le.mpr hj)

/-- A frame that no slot holds READY is not found (R12). -/
theorem Slots.findFrame_none {t : Slots}
    (h : ∀ i, ¬((t.get i).phase = .ready ∧ (t.get i).origin = some (.sensor n))) : t.findFrame n = none :=
  Table.lowest_eq_none.mpr fun i => by simpa using h i

end Sys2Proof.Machine
end

section
/-! The outcome of a capture. -/

open Sys2Proof Sys2Proof.Machine

/-- Settles O38, reason by reason in the order of the joint step; the entry's join by whether a reclaim erase waits. -/
theorem captureOutcomes : Obligations.CaptureOutcomes := by
  refine ⟨fun s src named => rfl, ?_⟩
  intro s src frame fm zoom cx cy count done missed c single taken sharp
  let r : CaptureRead := ⟨src, some (frame, fm), zoom, cx, cy, count⟩
  have htaken : c.afterTaken = taken := by simp only [Capture.afterTaken, taken, single, decide_eq_true_eq]
  have hjoint (h : sharp) : done = s.jointCapture r frame fm := State.completeCapture_sharp (r := r) rfl h
  refine ⟨rfl, fun h => State.completeCapture_blurred (r := r) rfl (not_not.mp h),
    fun h hno => (hjoint h).trans (State.jointCapture_noLesson (Store.openLesson_none hno)),
    fun l h hready hopen => ?_⟩
  have hlesson : s.store.openLesson = some l := Store.openLesson_of hready hopen
  rw [hjoint h]
  refine ⟨State.jointCapture_lessonFull hlesson, fun e he hroom hframe hnodup => ?merged,
    fun hroom hfresh => ⟨State.jointCapture_queueFull hlesson hroom hfresh, fun hqueue => ?_⟩⟩
  case merged =>
    subst hframe
    rw [← htaken]
    exact State.jointCapture_merged hlesson hroom he hnodup
  have hadmits : s.Admits frame l := ⟨hlesson, hroom, hfresh, hqueue⟩
  refine ⟨fun hgone => hadmits.stale r fm (Slots.findFrame_none hgone), ?joined⟩
  intro i hr ho hlow entry grown joined
  have happend : s.jointCapture r frame fm = joined (Store.withdrawReclaim grown) := by
    simp only [joined, ← htaken]
    exact hadmits.joined r fm (Slots.findFrame_lowest hr ho hlow)
  refine ⟨fun hnone => ?_, fun x before after hw hb => ?_⟩
  · rw [happend, Store.withdrawReclaim_none (x := grown) hnone]
  · rw [happend, Store.withdrawReclaim_waiting (x := grown) hw hb]

end

section
/-! The requests of the capture unit as equations (R127 to R129). -/

namespace Sys2Proof.Machine

variable {s : State}

/-! ### Operands and results -/

/-- A mode's code names it (R189). -/
theorem captureMode_code (m : CaptureMode) : captureMode m.code = some m := by
  cases m <;> rfl

/-- A mode number above 2 names none (R127). -/
theorem captureMode_none {b : Byte} (h : 3 ≤ b.toNat) : captureMode b = none := by
  unfold captureMode
  split
  case h_4 => rfl
  all_goals omega

/-- A bit's value in a packed byte, from the number the bit is read from. -/
theorem bitValue_getLsbD (b : Byte) (i : Nat) : bitValue (b.getLsbD i) i = 2 ^ i * (b.toNat / 2 ^ i % 2) := by
  have hbit : b.getLsbD i = decide (b.toNat / 2 ^ i % 2 = 1) := Nat.testBit_eq_decide_div_mod_eq
  rcases Nat.mod_two_eq_zero_or_one (b.toNat / 2 ^ i) with h | h <;> simp [bitValue, hbit, h]

/-- The mask in force is the three lowest bits of the mask sent (R127, R189). -/
theorem maskOf_byte (b : Byte) : (maskOf b).byte = b &&& 7 := by
  have hand : (b &&& 7).toNat = b.toNat % 2 ^ 3 := Nat.and_two_pow_sub_one_eq_mod b.toNat 3
  refine BitVec.eq_of_toNat_eq ?_
  simp only [SourceMask.byte, maskOf, bitValue_getLsbD, lowByte, BitVec.toNat_ofNat, hand]
  omega

/-- CAPTURE SET's values were all in range (R127). -/
theorem captureUnchanged_iff (mask : Byte) (floor : Half) (restart : Byte) : captureUnchanged mask floor restart = true ↔
    mask.toNat < 8 ∧ min floor.toNat 65280 = floor.toNat ∧ restart.toNat ≤ 1 := by
  simp only [captureUnchanged, onOffInRange, Bool.and_eq_true, decide_eq_true_eq, min_eq_left_iff, and_assoc]

/-- A byte's number carried in one byte is the byte. -/
theorem lowByte_toNat (b : Byte) : lowByte b.toNat = b := by
  rw [lowByte, BitVec.ofNat_toNat, BitVec.setWidth_eq]

/-- The flags of a capture taken, merged and single done (R192). -/
theorem captureFlags_eq (merged single : Bool) :
    captureFlags merged single = (if merged then 1 else 0) + (if single then 2 else 0) := by
  cases merged <;> cases single <;> rfl

/-- A capture leaves the link alone. -/
theorem State.takeCapture_link (s : State) (src : Trigger) (named : Option (Word × Nat)) :
    (s.takeCapture src named).1.link = s.link := by
  obtain ⟨slots, capture, store, notices, e⟩ := s.takeCapture_frame src named
  rw [e]

/-! ### The requests -/

section
variable (h : s.link.Free) (tag mask : Byte) (floor : Half) (holdoff restart : Byte)
include h

/-- CAPTURE SET of a mode that is none (R127). -/
theorem execCaptureSet_refused {mode : Byte} (hm : 3 ≤ mode.toNat) :
    execCaptureSet tag mode mask floor holdoff restart s = .next { s with
      link := s.link.answered ⟨0x48, tag, [mode, mask] ++ halfBytes floor ++ [holdoff, restart]⟩ .refused [6] } := by
  have hstep : captureSetStep mode mask floor holdoff restart s = (s, Answer.refused .noSuchMode) := by
    simp only [captureSetStep, captureMode_none hm]
  exact respond_next rfl h hstep rfl

/-- CAPTURE SET of a mode (R127). -/
theorem execCaptureSet_next (m : CaptureMode) :
    let f := min floor.toNat 65280
    execCaptureSet tag m.code mask floor holdoff restart s = .next { s with
      capture :=
        { s.capture with
          settings := ⟨m, ⟨mask.getLsbD 0, mask.getLsbD 1, mask.getLsbD 2⟩, f, holdoff.toNat, decide (restart ≠ 0)⟩
          armed := if m = s.capture.settings.mode then s.capture.armed else false
          holdoffCounter := min s.capture.holdoffCounter holdoff.toNat }
      link := s.link.answered ⟨0x48, tag, [m.code, mask] ++ halfBytes floor ++ [holdoff, restart]⟩
        (okIf (mask.toNat < 8 ∧ f = floor.toNat ∧ restart.toNat ≤ 1))
        ([m.code, mask &&& 7] ++ le16 f ++ [holdoff, if restart = 0 then 0 else 1]) } := by
  intro f
  let inForce : CaptureSettings := ⟨m, maskOf mask, f, holdoff.toNat, onOff restart⟩
  have hstep : captureSetStep m.code mask floor holdoff restart s =
      (s.withCapture
        { s.capture with
          settings := inForce
          armed := if m = s.capture.settings.mode then s.capture.armed else false
          holdoffCounter := min s.capture.holdoffCounter holdoff.toNat },
        Answer.inForce (captureUnchanged mask floor restart) (captureSettingsBytes inForce)) := by
    simp only [captureSetStep, captureMode_code]
    rfl
  have hbytes : captureSettingsBytes inForce =
      [m.code, mask &&& 7] ++ le16 f ++ [holdoff, if restart = 0 then 0 else 1] := by
    simp only [captureSettingsBytes, inForce, maskOf_byte, lowByte_toNat, flagByte_onOff]
  rw [← Status.ofUnchanged_eq (captureUnchanged_iff mask floor restart), ← hbytes, ← onOff_eq]
  exact respond_next rfl h hstep rfl

/-- CAPTURE ARM in SINGLE (R128). -/
theorem execCaptureArm_single (hm : s.capture.settings.mode = .single) :
    execCaptureArm tag s = .next { s with
      capture := { s.capture with armed := true }
      link := s.link.answered ⟨0x49, tag, []⟩ .ok [] } := by
  have hstep : captureArmStep s = (s.withCapture { s.capture with armed := true }, Answer.ok []) := by
    simp only [captureArmStep, hm]
  exact respond_next rfl h hstep rfl

/-- CAPTURE ARM in another mode (R128). -/
theorem execCaptureArm_refused (hm : s.capture.settings.mode ≠ .single) :
    execCaptureArm tag s = .next { s with link := s.link.answered ⟨0x49, tag, []⟩ .refused [9] } := by
  have hstep : captureArmStep s = (s, Answer.refused .notSingle) := by
    unfold captureArmStep
    split
    · exact absurd ‹_› hm
    · rfl
  exact respond_next rfl h hstep rfl

/-- CAPTURE NOW is a capture of the LIVE frame whose reply carries the outcome (R122, R129). -/
theorem execCaptureNow_next {u : State} {o : CaptureOutcome} (ho : s.takeCapture .request s.slots.liveFrame = (u, o)) :
    execCaptureNow tag s = .next { u with link := s.link.answered ⟨0x4A, tag, []⟩ .ok o.bytes } := by
  have hstep : captureNowStep s = (u, Answer.ok o.bytes) := by simp only [captureNowStep, ho]
  have hlink : u.link = s.link := by rw [← s.takeCapture_link .request s.slots.liveFrame, ho]
  exact respond_next rfl h hstep hlink

end

end Sys2Proof.Machine
end

section
/-! The requests of the capture unit. -/

open Sys2Proof Sys2Proof.Machine

/-- Settles O35: CAPTURE SET by whether its mode number names a mode, CAPTURE ARM by the mode in force. -/
theorem captureSetAndArm : Obligations.CaptureSetAndArm := by
  refine ⟨?set, fun tag s h => ?arm⟩
  case set =>
    intro tag mode mask floor holdoff restart s h answer done
    refine ⟨execCaptureSet_refused h tag mask floor holdoff restart, fun m hm => ?_⟩
    subst hm
    exact execCaptureSet_next h tag mask floor holdoff restart m
  case arm =>
    by_cases hm : s.capture.settings.mode = .single
    · rw [if_pos hm]
      exact execCaptureArm_single h tag hm
    · rw [if_neg hm]
      exact execCaptureArm_refused h tag hm

/-- Settles O39: the frame named is the LIVE frame, of one slot or of none. -/
theorem captureNowReplies : Obligations.CaptureNowReplies := by
  intro tag s u named h hnamed answer
  have hlive : s.slots.liveFrame = named := by
    rcases hnamed with ⟨rfl, hnone⟩ | ⟨i, n, fm, rfl, hc, hone, ho, hf⟩
    · exact Slots.liveFrame_none hnone
    · exact Slots.liveFrame_of_only hc hone ho hf
  rw [← hlive]
  refine ⟨fun frame slot lesson ordinal merged single ho => ?_, fun reason frame ho => execCaptureNow_next h tag ho⟩
  rw [← captureFlags_eq]
  exact execCaptureNow_next h tag ho

end

section
/-! The requests that report, as equations: their bytes (R192), and nothing but the link changed (R22, R57, R89, R106, R131,
R141, R171, R172, R183, R186). -/

namespace Sys2Proof.Machine

variable {s : State}

/-! ### The bytes -/

/-- A tile in one byte (R192). -/
theorem tileByte_eq (t : Tile) : t.byte = BitVec.ofNat 8 (t.counter % 16 + if t.state = .moving then 128 else 0) := by
  cases h : t.state <;> simp [Tile.byte, bitValue, lowByte, h]

/-! ### The requests -/

/-- A request that only reports answers OK and changes the link alone. -/
theorem respond_reports {i : Instr} {r : Request} (hi : encodeRequest i = some r) (h : s.link.Free)
    (report : State → List Byte) :
    (respond i s fun t => (t, Answer.ok (report t))) =
      .next { s with link := s.link.answered r .ok (report s) } :=
  respond_next hi h (step := fun t => (t, Answer.ok (report t))) rfl rfl

/-- WATCH READ (R57, R192). -/
theorem execWatchRead_next (h : s.link.Free) (tag : Byte) :
    execWatchRead tag s = .next { s with
      link := s.link.answered ⟨0x21, tag, []⟩ .ok
        (watchSettingsBytes s.watch.settings ++
          [s.watch.page.code, flagByte s.watch.meansPresent, lowByte s.watch.movingTiles] ++
          s.watch.tiles.toList.map Tile.byte) } :=
  respond_reports rfl h fun t => watchBytes t.watch

/-- PROFILE READ of a profile 0..3 (R89). -/
theorem execProfileRead_next (h : s.link.Free) (tag : Byte) {n : Byte} {i : Fin 4} (hi : n.toNat = i.val) :
    execProfileRead tag n s = .next { s with
      link := s.link.answered ⟨0x31, tag, [n]⟩ .ok (profileBytes (s.pipe.profiles.get i)) } := by
  have hstep : profileReadStep n s = (s, Answer.ok (profileBytes (s.pipe.profiles.get i))) := by
    simp only [profileReadStep, index4_some hi]
  exact respond_next rfl h hstep rfl

/-- PROFILE READ of another number (R89). -/
theorem execProfileRead_refused (h : s.link.Free) (tag : Byte) {n : Byte} (hn : 4 ≤ n.toNat) :
    execProfileRead tag n s = .next { s with link := s.link.answered ⟨0x31, tag, [n]⟩ .refused [5] } := by
  have hstep : profileReadStep n s = (s, Answer.refused .noSuchProfile) := by
    simp only [profileReadStep, index4_none hn]
  exact respond_next rfl h hstep rfl

/-- PANE READ of a pane 0..3: the staged record and the active one (R106). -/
theorem execPaneRead_next (h : s.link.Free) (tag : Byte) {n : Byte} {i : Fin 4} (hi : n.toNat = i.val) :
    execPaneRead tag n s = .next { s with
      link := s.link.answered ⟨0x3C, tag, [n]⟩ .ok
        (paneBytes (s.output.staged.get i) ++ paneBytes (s.output.active.get i) ++
          [flagByte s.output.commitPending]) } := by
  have hstep : paneReadStep n s =
      (s, Answer.ok (paneBytes (s.output.staged.get i) ++ paneBytes (s.output.active.get i) ++
        [flagByte s.output.commitPending])) := by
    simp only [paneReadStep, index4_some hi]
  exact respond_next rfl h hstep rfl

/-- PANE READ of another number (R106). -/
theorem execPaneRead_refused (h : s.link.Free) (tag : Byte) {n : Byte} (hn : 4 ≤ n.toNat) :
    execPaneRead tag n s = .next { s with link := s.link.answered ⟨0x3C, tag, [n]⟩ .refused [7] } := by
  have hstep : paneReadStep n s = (s, Answer.refused .noSuchPane) := by
    simp only [paneReadStep, index4_none hn]
  exact respond_next rfl h hstep rfl

end Sys2Proof.Machine
end

section
/-! The requests that report. -/

open Sys2Proof Sys2Proof.Machine

/-- Settles O17, request by request; the two that name a record by whether their number does. -/
theorem snapshotRequestsReport : Obligations.SnapshotRequestsReport := by
  refine ⟨?snapshots, ?records⟩
  case snapshots =>
    intro tag s h byte flag replies
    refine ⟨respond_reports rfl h pingBytes, respond_reports rfl h statusBytes,
      respond_reports rfl h fun t => slotListBytes t.slots, ?watch, respond_reports rfl h fun t => captureBytes t.capture,
      respond_reports rfl h fun t => storeStatusBytes t.store,
      respond_reports rfl h fun t => noticeLevelsBytes t.notices,
      respond_reports rfl h fun t => errorTableBytes t.errors⟩
    case watch =>
      have htiles : (fun t : Tile => byte (t.counter % 16 + if t.state = .moving then 128 else 0)) = Tile.byte :=
        funext fun t => (tileByte_eq t).symm
      rw [htiles]
      exact execWatchRead_next h tag
  case records =>
    intro tag n s h record answerProfile answerPane
    exact ⟨fun hn => ⟨execProfileRead_refused h tag hn, execPaneRead_refused h tag hn⟩,
      fun i hi => ⟨execProfileRead_next h tag hi, execPaneRead_next h tag hi⟩⟩

end

section
/-! SUPPORT. Records put at their place by a rising key: pages by ordinal, lessons by id (R133, R142, R150). -/

namespace Sys2Proof.Machine

section

variable {α : Type} {f : α → Nat} {a : α} {l : List α}

/-- Put into a list that rises by a key it does not hold, a record stands between the lower and the higher ones. -/
theorem orderedInsert_eq_filter (h : (l.map f).Pairwise (· < ·)) (ha : f a ∉ l.map f) :
    l.orderedInsert (fun a b => f a ≤ f b) a =
      l.filter (fun b => decide (f b < f a)) ++ a :: l.filter fun b => decide (f a < f b) := by
  induction l with
  | nil => rfl
  | cons b l ih =>
    obtain ⟨hb, hl⟩ := List.pairwise_cons.mp h
    obtain ⟨hne, hnot⟩ : f a ≠ f b ∧ f a ∉ l.map f := by simpa using ha
    by_cases hab : f a ≤ f b
    · have hlt : f a < f b := by omega
      have habove : ∀ c ∈ l, f a < f c := fun c hc => hlt.trans (hb _ (List.mem_map_of_mem hc))
      have hnone : (b :: l).filter (fun c => decide (f c < f a)) = [] := by
        rw [List.filter_eq_nil_iff]
        rintro c (_ | ⟨_, hc⟩)
        · simp; omega
        · have := habove c hc; simp; omega
      have hall : (b :: l).filter (fun c => decide (f a < f c)) = b :: l := by
        rw [List.filter_eq_self]
        rintro c (_ | ⟨_, hc⟩)
        · simpa using hlt
        · simpa using habove c hc
      rw [hnone, hall, List.orderedInsert_cons_of_le (r := fun a b => f a ≤ f b) l hab, List.nil_append]
    · have hlt : f b < f a := by omega
      have hgt : ¬f a < f b := by omega
      simp only [List.orderedInsert, hab, if_false, ih hl hnot]
      simp [hlt, hgt]

/-- A fresh key put at its place leaves the keys rising. -/
theorem orderedInsert_rising (h : (l.map f).Pairwise (· < ·)) (ha : f a ∉ l.map f) :
    ((l.orderedInsert (fun a b => f a ≤ f b) a).map f).Pairwise (· < ·) := by
  have hsub : ∀ p : α → Bool, ((l.filter p).map f).Pairwise (· < ·) := fun p => h.sublist (List.filter_sublist.map f)
  rw [orderedInsert_eq_filter h ha, List.map_append, List.map_cons, List.pairwise_append]
  refine ⟨hsub _, List.pairwise_cons.mpr ⟨fun k hk => ?_, hsub _⟩, fun j hj k hk => ?_⟩
  · obtain ⟨b, hb, rfl⟩ := List.mem_map.mp hk
    simpa using (List.mem_filter.mp hb).2
  · obtain ⟨b, hb, rfl⟩ := List.mem_map.mp hj
    have hlow : f b < f a := by simpa using (List.mem_filter.mp hb).2
    rcases List.mem_cons.mp hk with rfl | hk
    · exact hlow
    · obtain ⟨c, hc, rfl⟩ := List.mem_map.mp hk
      exact hlow.trans (by simpa using (List.mem_filter.mp hc).2)

/-- In a list that rises by a key, a record is known by it. -/
theorem eq_of_rising {b : α} (h : (l.map f).Pairwise (· < ·)) (ha : a ∈ l) (hb : b ∈ l) (hab : f a = f b) : a = b :=
  List.inj_on_of_nodup_map (nodup_of_rising h) ha hb hab

end

theorem insertPage_eq_orderedInsert (p : PageRecord) (l : List PageRecord) :
    insertPage p l = l.orderedInsert (fun a b => a.ordinal ≤ b.ordinal) p := by
  induction l with
  | nil => rfl
  | cons q l ih => simp only [insertPage, List.orderedInsert, ih]

theorem insertLesson_eq_orderedInsert (l : Lesson) (d : List Lesson) :
    insertLesson l d = d.orderedInsert (fun a b => a.id ≤ b.id) l := by
  induction d with
  | nil => rfl
  | cons m d ih => simp only [insertLesson, List.orderedInsert, ih]

/-- A page put into a list is in it besides those that were. -/
theorem insertPage_perm (p : PageRecord) (l : List PageRecord) : (insertPage p l).Perm (p :: l) := by
  rw [insertPage_eq_orderedInsert]
  exact List.perm_orderedInsert _ p l

theorem insertLesson_perm (l : Lesson) (d : List Lesson) : (insertLesson l d).Perm (l :: d) := by
  rw [insertLesson_eq_orderedInsert]
  exact List.perm_orderedInsert _ l d

/-- A page of a new ordinal stands at its place (R150). -/
theorem insertPage_eq_filter {p : PageRecord} {l : List PageRecord} (h : (l.map (·.ordinal)).Pairwise (· < ·))
    (hp : p.ordinal ∉ l.map (·.ordinal)) :
    insertPage p l =
      l.filter (fun q => decide (q.ordinal < p.ordinal)) ++ p :: l.filter fun q => decide (p.ordinal < q.ordinal) := by
  rw [insertPage_eq_orderedInsert, orderedInsert_eq_filter (f := PageRecord.ordinal) h hp]

/-- A lesson of a new id stands at its place (R133, R143). -/
theorem insertLesson_eq_filter {l : Lesson} {d : List Lesson} (h : (d.map (·.id)).Pairwise (· < ·))
    (hl : l.id ∉ d.map (·.id)) :
    insertLesson l d = d.filter (fun m => decide (m.id < l.id)) ++ l :: d.filter fun m => decide (l.id < m.id) := by
  rw [insertLesson_eq_orderedInsert, orderedInsert_eq_filter (f := Lesson.id) h hl]

theorem insertPage_rising {p : PageRecord} {l : List PageRecord} (h : (l.map (·.ordinal)).Pairwise (· < ·))
    (hp : p.ordinal ∉ l.map (·.ordinal)) : ((insertPage p l).map (·.ordinal)).Pairwise (· < ·) := by
  rw [insertPage_eq_orderedInsert]
  exact orderedInsert_rising (f := PageRecord.ordinal) h hp

theorem insertLesson_rising {l : Lesson} {d : List Lesson} (h : (d.map (·.id)).Pairwise (· < ·))
    (hl : l.id ∉ d.map (·.id)) : ((insertLesson l d).map (·.id)).Pairwise (· < ·) := by
  rw [insertLesson_eq_orderedInsert]
  exact orderedInsert_rising (f := Lesson.id) h hl

/-! ### The highest of a list -/

theorem highest_cons (n : Nat) (ns : List Nat) : highest (n :: ns) = max n (highest ns) := by
  have hfold : ∀ a, List.foldl max a ns = max a (List.foldl max 0 ns) := by
    induction ns with
    | nil => intro a; simp
    | cons m ns ih => intro a; simp only [List.foldl_cons]; rw [ih, ih (max 0 m)]; omega
  unfold highest
  rw [List.foldl_cons, hfold]
  omega

theorem le_highest {n : Nat} {ns : List Nat} (h : n ∈ ns) : n ≤ highest ns := by
  induction ns with
  | nil => cases h
  | cons m ns ih =>
    rw [highest_cons]
    rcases List.mem_cons.mp h with rfl | h
    · exact le_max_left _ _
    · exact (ih h).trans (le_max_right _ _)

theorem highest_mem {ns : List Nat} (h : ns ≠ []) : highest ns ∈ ns := by
  induction ns with
  | nil => exact absurd rfl h
  | cons m ns ih =>
    rw [highest_cons]
    cases ns with
    | nil => simp [highest]
    | cons k ns =>
      rcases le_total m (highest (k :: ns)) with hm | hm
      · rw [max_eq_right hm]; exact List.mem_cons_of_mem _ (ih (by simp))
      · rw [max_eq_left hm]; exact List.mem_cons_self

/-- A number that bounds a list and stands one above a member of it, or is 1 for none, is one above the highest. -/
theorem highest_add_one {ns : List Nat} {n : Nat} (hlt : ∀ k ∈ ns, k < n) (hn : n = 1 ∨ ∃ k ∈ ns, k + 1 = n) :
    highest ns + 1 = n := by
  rcases eq_or_ne ns [] with rfl | hne
  · rcases hn with rfl | ⟨k, hk, -⟩
    · rfl
    · cases hk
  · have hmem := hlt _ (highest_mem hne)
    rcases hn with rfl | ⟨k, hk, rfl⟩
    · omega
    · have := le_highest hk
      omega

end Sys2Proof.Machine
end

section
/-! SUPPORT. The end of a mount: the candidates that stay, the directory they make, the stamp counter, the cell table (R138). -/

namespace Sys2Proof.Machine

/-- A candidate stays USED: it wins over every other candidate of its lesson and ordinal (R138 step 1). -/
def ScannedHeader.Stays (scan : List ScannedHeader) (h : ScannedHeader) : Prop :=
  h ∈ scan ∧ h.candidate = true ∧ ∀ g ∈ scan, g.candidate = true → g.lesson = h.lesson → g.ordinal = h.ordinal →
    g ≠ h → g.stamp.toNat < h.stamp.toNat ∨ (g.stamp = h.stamp ∧ h.cell < g.cell)

theorem ScannedHeader.beats_iff (a b : ScannedHeader) :
    a.beats b = true ↔ b.stamp.toNat < a.stamp.toNat ∨ (a.stamp = b.stamp ∧ a.cell < b.cell) := by
  simp [ScannedHeader.beats]

/-- Where no two headers are of one cell, the winners are the candidates that stay. -/
theorem mem_winners {scan : List ScannedHeader} (hc : (scan.map (·.cell)).Pairwise (· < ·)) (h : ScannedHeader) :
    h ∈ winners scan ↔ h.Stays scan := by
  have hwins : h ∈ winners scan ↔ (h ∈ scan ∧ h.candidate = true) ∧
      ∀ g ∈ scan, g.candidate = true → g.lesson = h.lesson → g.ordinal = h.ordinal → ¬g.beats h = true := by
    simp only [winners, List.mem_filter, List.any_eq_true, Bool.and_eq_true, beq_iff_eq, Bool.not_eq_true',
      Bool.eq_false_iff, ne_eq, not_exists, not_and, and_assoc]
  rw [hwins, ScannedHeader.Stays, and_assoc]
  refine and_congr_right fun hm => and_congr_right fun _ => forall₂_congr fun g hg => ?_
  refine imp_congr_right fun _ => imp_congr_right fun _ => imp_congr_right fun _ => ?_
  rw [ScannedHeader.beats_iff]
  constructor
  · intro hbeats hne
    have hcell : g.cell ≠ h.cell := fun e => hne (eq_of_rising hc hg hm e)
    rcases lt_trichotomy g.stamp.toNat h.stamp.toNat with hs | hs | hs
    · exact .inl hs
    · have hs' := BitVec.eq_of_toNat_eq hs
      refine .inr ⟨hs', ?_⟩
      by_contra hle
      exact hbeats (.inr ⟨hs', by omega⟩)
    · exact absurd (.inl hs) hbeats
  · rintro hstay (hs | ⟨hs, hcell⟩)
    · have hne : g ≠ h := fun e => by rw [e] at hs; omega
      rcases hstay hne with ht | ⟨ht, -⟩
      · omega
      · rw [ht] at hs; omega
    · have hne : g ≠ h := fun e => by rw [e] at hcell; omega
      rcases hstay hne with ht | ⟨-, ht⟩
      · rw [hs] at ht; omega
      · omega

/-- Of one lesson and ordinal one candidate stays. -/
theorem ScannedHeader.Stays.unique {scan : List ScannedHeader} {g h : ScannedHeader} (hg : g.Stays scan)
    (hh : h.Stays scan) (hl : g.lesson = h.lesson) (ho : g.ordinal = h.ordinal) : g = h := by
  obtain ⟨gm, gc, gw⟩ := hg
  obtain ⟨hm, hc, hw⟩ := hh
  by_contra hne
  have h1 := hw g gm gc hl ho hne
  have h2 := gw h hm hc hl.symm ho.symm (Ne.symm hne)
  rcases h1 with h1 | ⟨h1, h1'⟩ <;> rcases h2 with h2 | ⟨h2, h2'⟩
  · omega
  · rw [h2] at h1; omega
  · rw [h1] at h2; omega
  · omega

/-- The page record of a header found. -/
def ScannedHeader.page (h : ScannedHeader) : PageRecord := ⟨h.cell, h.ordinal, h.stamp⟩

/-- Pages put into a list one after another are in it besides those that were. -/
theorem foldl_insertPage_perm (ws : List ScannedHeader) (l : List PageRecord) :
    (ws.foldl (fun pages w => insertPage w.page pages) l).Perm (ws.map ScannedHeader.page ++ l) := by
  induction ws generalizing l with
  | nil => exact .refl _
  | cons w ws ih =>
    refine (ih _).trans (((insertPage_perm w.page l).append_left _).trans ?_)
    exact List.perm_middle

/-- Pages of different ordinals put into a list one after another leave it rising. -/
theorem foldl_insertPage_rising (ws : List ScannedHeader) (l : List PageRecord)
    (h : (l.map (·.ordinal)).Pairwise (· < ·)) (hn : (ws.map (·.ordinal)).Nodup)
    (hd : ∀ w ∈ ws, w.ordinal ∉ l.map (·.ordinal)) :
    ((ws.foldl (fun pages w => insertPage w.page pages) l).map (·.ordinal)).Pairwise (· < ·) := by
  induction ws generalizing l with
  | nil => exact h
  | cons w ws ih =>
    obtain ⟨hw, hn⟩ := List.nodup_cons.mp hn
    refine ih _ (insertPage_rising h (hd w List.mem_cons_self)) hn fun v hv hm => ?_
    rw [((insertPage_perm w.page l).map _).mem_iff, List.map_cons, List.mem_cons] at hm
    rcases hm with e | hm
    · exact hw (List.mem_map.mpr ⟨v, hv, e⟩)
    · exact hd v (List.mem_cons_of_mem _ hv) hm

section

variable {id : Nat} {ws : List ScannedHeader}

theorem mountedLesson_pages_perm : (mountedLesson id ws).pages.Perm (ws.map ScannedHeader.page) := by
  have h := foldl_insertPage_perm ws []
  rwa [List.append_nil] at h

theorem mem_mountedLesson_pages {p : PageRecord} : p ∈ (mountedLesson id ws).pages ↔ ∃ w ∈ ws, w.page = p := by
  rw [mountedLesson_pages_perm.mem_iff, List.mem_map]

theorem mountedLesson_rising (hn : (ws.map (·.ordinal)).Nodup) :
    ((mountedLesson id ws).pages.map (·.ordinal)).Pairwise (· < ·) :=
  foldl_insertPage_rising ws [] .nil hn fun _ _ => List.not_mem_nil

theorem mountedLesson_lt_next {p : PageRecord} (hp : p ∈ (mountedLesson id ws).pages) :
    p.ordinal < (mountedLesson id ws).next := by
  obtain ⟨w, hw, rfl⟩ := mem_mountedLesson_pages.mp hp
  exact Nat.lt_succ_of_le (le_highest (List.mem_map_of_mem (f := (·.ordinal)) hw))

/-- The next ordinal of a lesson found is one above one of its pages' (R138 step 2). -/
theorem mountedLesson_next (hne : ws ≠ []) : ∃ w ∈ ws, w.ordinal + 1 = (mountedLesson id ws).next := by
  obtain ⟨w, hw, e⟩ := List.mem_map.mp (highest_mem (ns := ws.map (·.ordinal)) (by simpa using hne))
  exact ⟨w, hw, congrArg (· + 1) e⟩

/-- The title of a lesson found is that of one of its highest-stamp pages (R138 step 2). -/
theorem mountedTitle_mem (hne : ws ≠ []) :
    ∃ w ∈ ws, w.title = mountedTitle ws ∧ ∀ v ∈ ws, v.stamp.toNat ≤ w.stamp.toNat := by
  obtain ⟨t, ht, htop⟩ := List.mem_map.mp (highest_mem (ns := ws.map (·.stamp.toNat)) (by simpa using hne))
  have htied : ∀ w ∈ ws.filter fun w => w.stamp.toNat == highest (ws.map (·.stamp.toNat)),
      w ∈ ws ∧ ∀ v ∈ ws, v.stamp.toNat ≤ w.stamp.toNat := fun w hw => by
    obtain ⟨hw, e⟩ := List.mem_filter.mp hw
    rw [beq_iff_eq] at e
    exact ⟨hw, fun v hv => e ▸ le_highest (List.mem_map_of_mem (f := (·.stamp.toNat)) hv)⟩
  have hsome : t ∈ ws.filter fun w => w.stamp.toNat == highest (ws.map (·.stamp.toNat)) :=
    List.mem_filter.mpr ⟨ht, beq_iff_eq.mpr htop⟩
  unfold mountedTitle
  dsimp only
  split
  · rename_i e; rw [e] at hsome; cases hsome
  · rename_i w e
    obtain ⟨hw, hbest⟩ := htied w (by rw [e]; exact List.mem_cons_self)
    exact ⟨w, hw, rfl, hbest⟩
  · generalize hk : ws.filter (fun w => w.stamp.toNat == highest (ws.map (·.stamp.toNat))) = tied at *
    have hlen : Config.titleTie (tied.map (·.title)) % (tied.map (·.title)).length < tied.length := by
      have : 0 < tied.length := List.length_pos_of_mem hsome
      simpa using Nat.mod_lt _ this
    obtain ⟨hw, hbest⟩ := htied _ (List.getElem_mem hlen)
    exact ⟨_, hw, by rw [List.getD_eq_getElem _ _ (by simpa using hlen), List.getElem_map], hbest⟩

end

/-! ### The directory found -/

/-- The pages found of one lesson. -/
def headersOf (ws : List ScannedHeader) (id : Nat) : List ScannedHeader := ws.filter (·.lesson == id)

theorem mem_headersOf {ws : List ScannedHeader} {id : Nat} {w : ScannedHeader} :
    w ∈ headersOf ws id ↔ w ∈ ws ∧ w.lesson = id := by
  simp [headersOf]

theorem mountedDirectory_ids (ws : List ScannedHeader) :
    (mountedDirectory ws).map (·.id) = (List.range 65).filter fun id => ws.any (·.lesson == id) := by
  simp [mountedDirectory, mountedLesson, Function.comp_def]

theorem mountedDirectory_rising (ws : List ScannedHeader) : ((mountedDirectory ws).map (·.id)).Pairwise (· < ·) := by
  rw [mountedDirectory_ids]
  exact List.pairwise_lt_range.sublist List.filter_sublist

/-- The lessons found are those of the headers that stay. -/
theorem mem_mountedDirectory {ws : List ScannedHeader} (hr : ∀ w ∈ ws, w.lesson ≤ 64) {l : Lesson} :
    l ∈ mountedDirectory ws ↔ ∃ w ∈ ws, l = mountedLesson w.lesson (headersOf ws w.lesson) := by
  simp only [mountedDirectory, List.mem_map, List.mem_filter, List.any_eq_true, beq_iff_eq]
  constructor
  · rintro ⟨id, ⟨-, w, hw, rfl⟩, rfl⟩
    exact ⟨w, hw, rfl⟩
  · rintro ⟨w, hw, rfl⟩
    exact ⟨w.lesson, ⟨List.mem_range.mpr (Nat.lt_succ_of_le (hr w hw)), w, hw, rfl⟩, rfl⟩

/-- A cell's state once duplicates are settled (R138 step 1). -/
theorem settledCells_getElem? (cells : List CellState) (scan : List ScannedHeader) (k : Nat) :
    (settledCells cells scan)[k]? =
      cells[k]?.map fun c => if c = .used ∧ ¬∃ w ∈ winners scan, w.cell = k then .dead else c := by
  simp only [settledCells, List.getElem?_map, List.getElem?_zipIdx, Option.map_map]
  refine congrArg (fun f => Option.map f cells[k]?) (funext fun c => ?_)
  simp

@[simp] theorem settledCells_length (cells : List CellState) (scan : List ScannedHeader) :
    (settledCells cells scan).length = cells.length := by
  simp [settledCells]

/-- The stamp counter after a mount is one above a highest stamp found (R138 step 3). -/
theorem mountedStamp_of_ne {scan : List ScannedHeader} (hne : scan ≠ []) :
    ∃ h ∈ scan, (∀ g ∈ scan, g.stamp.toNat ≤ h.stamp.toNat) ∧ mountedStamp scan = h.stamp + 1 := by
  obtain ⟨h, hh, e⟩ := List.mem_map.mp (highest_mem (ns := scan.map (·.stamp.toNat)) (by simpa using hne))
  refine ⟨h, hh, fun g hg => ?_, ?_⟩
  · rw [e]; exact le_highest (List.mem_map_of_mem (f := (·.stamp.toNat)) hg)
  · have hstamp : mountedStamp scan = BitVec.ofNat 32 (highest (scan.map (·.stamp.toNat))) + 1 := by
      unfold mountedStamp
      split
      · exact absurd rfl hne
      · rfl
    rw [hstamp, ← e, BitVec.ofNat_toNat, BitVec.setWidth_eq]

section

variable {s : Store} (hs : s.ScanLaw)

include hs

theorem Store.ScanLaw.winner_range {w : ScannedHeader} (hw : w ∈ winners s.scan) :
    1 ≤ w.lesson ∧ w.lesson ≤ 64 ∧ 1 ≤ w.ordinal ∧ w.ordinal ≤ 255 ∧ w.title.length ≤ 24 ∧ w.cell < s.cells.length :=
  hs.1 w ((mem_winners hs.2 w).mp hw).1

theorem Store.ScanLaw.mem_directory {l : Lesson} : l ∈ mountedDirectory (winners s.scan) ↔
    ∃ w ∈ winners s.scan, l = mountedLesson w.lesson (headersOf (winners s.scan) w.lesson) :=
  mem_mountedDirectory fun _ hw => (hs.winner_range hw).2.1

/-- Winners of one cell are one. -/
theorem Store.ScanLaw.winner_cell {v w : ScannedHeader} (hv : v ∈ winners s.scan) (hw : w ∈ winners s.scan)
    (e : v.cell = w.cell) : v = w :=
  eq_of_rising hs.2 ((mem_winners hs.2 v).mp hv).1 ((mem_winners hs.2 w).mp hw).1 e

/-- The pages that stay of one lesson have different ordinals. -/
theorem Store.ScanLaw.headersOf_ordinals (id : Nat) : ((headersOf (winners s.scan) id).map (·.ordinal)).Nodup := by
  have hcells : (s.scan.map (·.cell)).Nodup := nodup_of_rising hs.2
  have hnodup : (headersOf (winners s.scan) id).Nodup := by
    refine (hcells.of_map _).sublist ?_
    exact List.filter_sublist.trans (List.filter_sublist.trans List.filter_sublist)
  refine hnodup.map_on fun v hv w hw e => ?_
  obtain ⟨hv, hvl⟩ := mem_headersOf.mp hv
  obtain ⟨hw, hwl⟩ := mem_headersOf.mp hw
  exact ((mem_winners hs.2 v).mp hv).unique ((mem_winners hs.2 w).mp hw) (hvl.trans hwl.symm) e

/-- The pages of the directory found are those of the headers that stay. -/
theorem Store.ScanLaw.page_iff {id : Nat} {p : PageRecord} :
    (∃ l ∈ mountedDirectory (winners s.scan), l.id = id ∧ p ∈ l.pages) ↔
      ∃ w ∈ winners s.scan, w.lesson = id ∧ w.page = p := by
  constructor
  · rintro ⟨l, hl, rfl, hp⟩
    obtain ⟨w, hw, rfl⟩ := hs.mem_directory.mp hl
    obtain ⟨v, hv, rfl⟩ := mem_mountedLesson_pages.mp hp
    obtain ⟨hv, hvl⟩ := mem_headersOf.mp hv
    exact ⟨v, hv, hvl, rfl⟩
  · rintro ⟨w, hw, rfl, rfl⟩
    exact ⟨_, hs.mem_directory.mpr ⟨w, hw, rfl⟩, rfl,
      mem_mountedLesson_pages.mpr ⟨w, mem_headersOf.mpr ⟨hw, rfl⟩, rfl⟩⟩

end

end Sys2Proof.Machine
end

section
/-! The end of a mount. -/

open Sys2Proof Sys2Proof.Machine

/-- Settles O42: the winners are the candidates that stay, and the directory is made of them lesson by lesson. -/
theorem mountBuildsDirectory : Obligations.MountBuildsDirectory := by
  intro s hs t stays
  have hstays : ∀ h, stays h ↔ h ∈ winners s.scan := fun h => (mem_winners hs.2 h).symm
  refine ⟨⟨rfl, rfl, rfl, settledCells_length _ _⟩, fun k c hc => ?cells, mountedDirectory_rising _, fun l hl => ?lesson,
    fun id ordinal cell stamp => ?pages, fun he => ?fresh, mountedStamp_of_ne⟩
  case cells =>
    have hget : t.cells[k]? = (s.cells[k]?).map _ := settledCells_getElem? s.cells s.scan k
    rw [hget, hc, Option.map_some]
    simp only [hstays]
    exact ⟨fun h => by rw [if_pos h], fun h => by rw [if_neg h]⟩
  case lesson =>
    obtain ⟨w, hw, rfl⟩ := hs.mem_directory.mp hl
    have hmem : w ∈ headersOf (winners s.scan) w.lesson := mem_headersOf.mpr ⟨hw, rfl⟩
    have hne : headersOf (winners s.scan) w.lesson ≠ [] := List.ne_nil_of_mem hmem
    refine ⟨rfl, rfl, mountedLesson_rising (hs.headersOf_ordinals _), fun p => mountedLesson_lt_next, ?_, ?_⟩
    · obtain ⟨v, hv, e⟩ := mountedLesson_next (id := w.lesson) hne
      exact ⟨v.page, mem_mountedLesson_pages.mpr ⟨v, hv, rfl⟩, e⟩
    · obtain ⟨v, hv, htitle, hbest⟩ := mountedTitle_mem hne
      obtain ⟨hvw, hvl⟩ := mem_headersOf.mp hv
      refine ⟨v, (hstays v).mpr hvw, hvl, htitle, fun g hg hgl => hbest g (mem_headersOf.mpr ⟨(hstays g).mp hg, hgl⟩)⟩
  case pages =>
    refine hs.page_iff.trans ⟨?_, ?_⟩
    · rintro ⟨w, hw, hl, e⟩
      cases e
      exact ⟨w, (hstays w).mpr hw, hl, rfl, rfl, rfl⟩
    · rintro ⟨w, hw, hl, rfl, rfl, rfl⟩
      exact ⟨w, (hstays w).mp hw, hl, rfl⟩
  case fresh =>
    show mountedStamp s.scan = 1
    rw [he]
    rfl

end

section
/-! SUPPORT. The writer's, the port's and the page steps' work seen from the store alone: what each leaves of the store depends
on the store and nothing else (R142, R147 to R155). -/

namespace Sys2Proof.Machine

/-! ### The writer -/

/-- The store once the head entry has left the queue (R142, R147). -/
def Store.dropHead (s : Store) : Store :=
  match s.queue with
  | [] => s
  | e :: rest => Store.prune { s with queue := rest, writer := .idle, attempt := none } e.lesson

/-- The store once a cell was chosen for the head entry, or the entry dropped (R148). -/
def Store.chooseCell (s : Store) (tries : Nat) : Store :=
  if s.stamp = 0 then s.dropHead
  else
    match s.lowestCell .erased with
    | some c => s.takeCell c tries true
    | none =>
      match s.lowestCell .dead with
      | some c => s.takeCell c tries false
      | none => s.dropHead

/-- The store once the writer has begun what it may save (R148). -/
def Store.beginSaves : Nat → Store → Store
  | 0, s => s
  | n + 1, s => if s.writerFree && !s.queue.isEmpty then Store.beginSaves n (s.chooseCell 0) else s

/-- The store after the writer's work (R148, R152). -/
def Store.runWriter (s : Store) : Store := (Store.beginSaves s.queue.length s).beginReclaim

/-- The store after the writer's work and the port's grant (R148, R152, R154). -/
def Store.afterStep (s : Store) : Store := s.runWriter.arbitrate

/-- The store after a save step that failed (R151). -/
def Store.failSave (s : Store) (cell : Nat) : Store :=
  if (s.attempt.map (·.tries)).getD 0 < Config.maxTries then
    (s.setCell cell .bad).chooseCell ((s.attempt.map (·.tries)).getD 0)
  else (s.setCell cell .bad).dropHead

/-- The store after a commit that succeeded (R150). -/
def Store.commit (s : Store) (cell : Nat) : Store :=
  match s.queue with
  | [] => s.setCell cell .used
  | e :: _ => ((s.setCell cell .used).addPage e.lesson ⟨cell, e.ordinal, s.attemptStamp⟩).dropHead

variable (s : State)

@[simp] theorem State.leaveQueue_store : s.leaveQueue.store = s.store.dropHead := by
  unfold State.leaveQueue Store.dropHead
  cases s.store.queue <;> rfl

@[simp] theorem State.dropFull_store : s.dropFull.store = s.store.dropHead := by
  unfold State.dropFull
  split
  · rename_i h
    rw [Store.dropHead, h]
  · exact s.leaveQueue_store

@[simp] theorem State.dropFailed_store (cell : Nat) : (s.dropFailed cell).store = s.store.dropHead := by
  unfold State.dropFailed
  split
  · rename_i h
    rw [Store.dropHead, h]
  · exact s.leaveQueue_store

@[simp] theorem State.chooseCell_store (tries : Nat) : (s.chooseCell tries).store = s.store.chooseCell tries := by
  unfold State.chooseCell Store.chooseCell
  split
  · exact s.dropFull_store
  · cases s.store.lowestCell .erased with
    | some c => rfl
    | none =>
      cases s.store.lowestCell .dead with
      | some c => rfl
      | none => exact s.dropFull_store

@[simp] theorem beginSaves_store (n : Nat) (s : State) : (beginSaves n s).store = Store.beginSaves n s.store := by
  induction n generalizing s with
  | zero => rfl
  | succ n ih =>
    unfold beginSaves Store.beginSaves
    split
    · rw [ih, State.chooseCell_store]
    · rfl

@[simp] theorem State.runWriter_store : s.runWriter.store = s.store.runWriter :=
  congrArg Store.beginReclaim (beginSaves_store _ s)

@[simp] theorem State.arbitratePort_store : s.arbitratePort.store = s.store.arbitrate := rfl

@[simp] theorem State.afterStep_store : s.afterStep.store = s.store.afterStep :=
  congrArg Store.arbitrate s.runWriter_store

@[simp] theorem State.endStep_store : s.endStep.store = s.store.endStep := rfl

@[simp] theorem State.saveStepFailed_store (cell : Nat) (k : ErrorKind) :
    (s.saveStepFailed cell k).store = s.store.failSave cell := by
  unfold State.saveStepFailed Store.failSave
  dsimp only
  split <;> simp

@[simp] theorem State.committed_store (cell : Nat) : (s.committed cell).store = s.store.commit cell := by
  unfold State.committed Store.commit
  cases s.store.queue with
  | nil => rfl
  | cons e rest => exact State.leaveQueue_store _

/-! ### Page steps -/

/-- The store after a tombstone's effect on its cell and its page list (R155, R156). -/
def Store.tombstoned (s : Store) (id ordinal cell : Nat) (success : Bool) : Store :=
  (s.setCell cell (if success then .dead else .bad)).changeLesson id fun l =>
    { l with pages := l.pages.filter fun p => !(p.ordinal == ordinal && p.cell == cell) }

/-- The store after a lesson delete (R155). -/
def Store.endDelete (s : Store) (d : DeleteWork) : Store :=
  { s with directory := s.directory.filter fun l => !(l.id == d.lesson && l.deleting), deleteWork := none }

/-- The store once a lesson delete has asked for its next tombstone or ended (R155). -/
def Store.continueDelete (s : Store) (d : DeleteWork) : Store :=
  match (s.underDelete d).bind (·.pages.head?) with
  | some p => s.ask (.tombstone d.lesson p.ordinal p.cell none)
  | none => s.endDelete d

/-- The two numbers of a lesson delete after one more tombstone (R155). -/
def DeleteWork.counted (d : DeleteWork) (success : Bool) : DeleteWork :=
  ⟨d.lesson, d.tombstoned + (if success then 1 else 0), d.failed + (if success then 0 else 1)⟩

/-- The store after the end of a lesson delete's tombstone (R155). -/
def Store.endLessonTombstone (s : Store) (success : Bool) : Store :=
  match s.deleteWork with
  | some d => Store.continueDelete { s with deleteWork := some (d.counted success) } (d.counted success)
  | none => s

@[simp] theorem State.tombstoned_store (id ordinal cell : Nat) (success : Bool) :
    (s.tombstoned id ordinal cell success).store = s.store.tombstoned id ordinal cell success := by
  unfold State.tombstoned Store.tombstoned
  cases success
  · exact State.recordError_store _ _ _ _
  · rfl

@[simp] theorem State.endDelete_store (d : DeleteWork) : (s.endDelete d).store = s.store.endDelete d := rfl

@[simp] theorem State.continueDelete_store (d : DeleteWork) : (s.continueDelete d).store = s.store.continueDelete d := by
  unfold State.continueDelete Store.continueDelete
  cases (s.store.underDelete d).bind (·.pages.head?) <;> rfl

@[simp] theorem State.endLessonTombstone_store (success : Bool) :
    (s.endLessonTombstone success).store = s.store.endLessonTombstone success := by
  unfold State.endLessonTombstone Store.endLessonTombstone
  cases s.store.deleteWork with
  | none => rfl
  | some d => exact State.continueDelete_store _ _

@[simp] theorem State.endPageDelete_store (id : Nat) (tag : Byte) (success : Bool) :
    (s.endPageDelete id tag success).store = s.store.prune id := rfl

/-! ### What the port and the writer can do -/

/-- The lowest cell in a state is the one with none before it (R148, R152). -/
theorem Store.lowestCell_eq_some {s : Store} {x : CellState} {c : Nat} :
    s.lowestCell x = some c ↔ s.cells[c]? = some x ∧ ∀ k < c, s.cells[k]? ≠ some x := by
  rw [Store.lowestCell, List.findIdx?_eq_some_iff_getElem]
  constructor
  · rintro ⟨hc, hx, hlow⟩
    refine ⟨by rw [List.getElem?_eq_getElem hc, beq_iff_eq.mp hx], fun k hk e => ?_⟩
    obtain ⟨hk', e⟩ := List.getElem?_eq_some_iff.mp e
    exact hlow k hk (beq_iff_eq.mpr e)
  · rintro ⟨hx, hlow⟩
    obtain ⟨hc, e⟩ := List.getElem?_eq_some_iff.mp hx
    refine ⟨hc, beq_iff_eq.mpr e, fun k hk h => hlow k hk ?_⟩
    rw [List.getElem?_eq_getElem (hk.trans hc), beq_iff_eq.mp h]

theorem Store.lowestCell_eq_none {s : Store} {x : CellState} : s.lowestCell x = none ↔ x ∉ s.cells := by
  rw [Store.lowestCell, List.findIdx?_eq_none_iff]
  exact ⟨fun h hx => by simpa using h x hx, fun h y hy => by
    rw [beq_eq_false_iff_ne]
    rintro rfl
    exact h hy⟩

/-- Of an empty queue there is nothing to drop. -/
theorem Store.dropHead_nil {s : Store} (h : s.queue = []) : s.dropHead = s := by
  rw [Store.dropHead, h]

theorem Store.dropHead_cons {s : Store} {e : SaveEntry} {rest : List SaveEntry} (h : s.queue = e :: rest) :
    s.dropHead = Store.prune { s with queue := rest, writer := .idle, attempt := none } e.lesson := by
  rw [Store.dropHead, h]

/-- The choice of a cell drops the head entry, or takes an ERASED cell, or, with none ERASED, a DEAD one (R148). -/
theorem Store.chooseCell_cases (s : Store) (tries : Nat) :
    s.chooseCell tries = s.dropHead ∨
      ∃ c erased, s.cells[c]? = some (if erased then .erased else .dead) ∧
        s.chooseCell tries = s.takeCell c tries erased := by
  unfold Store.chooseCell
  split
  · exact .inl rfl
  · split
    · rename_i c h
      exact .inr ⟨c, true, (Store.lowestCell_eq_some.mp h).1, rfl⟩
    · split
      · rename_i c h
        exact .inr ⟨c, false, (Store.lowestCell_eq_some.mp h).1, rfl⟩
      · exact .inl rfl

/-- Reclaim begins on a DEAD cell, or there is nothing to reclaim, or the writer is not free to (R152). -/
theorem Store.beginReclaim_cases (s : Store) :
    (s.beginReclaim = s ∧ (s.state = .ready → s.writer = .idle → s.queue = [] → .dead ∉ s.cells)) ∨
      ∃ c, s.state = .ready ∧ s.writer = .idle ∧ s.queue = [] ∧ s.cells[c]? = some .dead ∧
        s.beginReclaim = ({ s.setCell c .erasing with writer := .reclaim }).ask (.reclaimErase c) := by
  unfold Store.beginReclaim Store.writerFree
  split
  · rename_i hfree
    simp only [Bool.and_eq_true, beq_iff_eq, List.isEmpty_iff] at hfree
    obtain ⟨⟨hstate, hidle⟩, hqueue⟩ := hfree
    split
    · rename_i c h
      exact .inr ⟨c, hstate, hidle, hqueue, (Store.lowestCell_eq_some.mp h).1, rfl⟩
    · rename_i h
      exact .inl ⟨rfl, fun _ _ _ => Store.lowestCell_eq_none.mp h⟩
  · rename_i hfree
    simp only [Bool.and_eq_true, beq_iff_eq, List.isEmpty_iff] at hfree
    exact .inl ⟨rfl, fun h1 h2 h3 => absurd ⟨⟨h1, h2⟩, h3⟩ hfree⟩

/-- A step of every class is one of the six that the arbiter looks for (R154). -/
theorem PortStep.rank_le (x : PortStep) : x.rank ≤ 5 := by cases x <;> simp [PortStep.rank]

theorem nextGrant_eq_none {w : List PortStep} : nextGrant w = none ↔ w = [] := by
  constructor
  · intro h
    rw [nextGrant, List.findSome?_eq_none_iff] at h
    rw [List.eq_nil_iff_forall_not_mem]
    intro x hx
    have hrank : x.rank ∈ [0, 1, 2, 3, 4, 5] := by
      have := x.rank_le
      simp; omega
    have := List.find?_eq_none.mp (h _ hrank) x hx
    simp at this
  · rintro rfl
    rfl

theorem nextGrant_mem {w : List PortStep} {x : PortStep} (h : nextGrant w = some x) : x ∈ w := by
  obtain ⟨c, -, hc⟩ := List.exists_of_findSome?_eq_some h
  exact List.mem_of_find?_eq_some hc

/-- The port as the arbiter leaves it: a waiting step is granted where the port is free (R154). -/
def Port.granted (p : Port) : Port :=
  match p.inFlight, nextGrant p.waiting with
  | none, some x => ⟨some x, p.waiting.erase x⟩
  | _, _ => p

@[simp] theorem Store.arbitrate_port (s : Store) : s.arbitrate.port = s.port.granted := by
  unfold Store.arbitrate Port.granted
  cases s.port.inFlight with
  | some x => rfl
  | none =>
    dsimp only
    cases nextGrant s.port.waiting with
    | none => rfl
    | some x => cases x <;> rfl

/-- The arbiter grants nothing, or one step, of which only a save's program concerns the attempt (R149, R154). -/
theorem Store.arbitrate_cases (s : Store) :
    (s.arbitrate = s ∧ (s.port.inFlight = none → s.port.waiting = [])) ∨
      ∃ x, s.port.inFlight = none ∧ x ∈ s.port.waiting ∧ s.port.granted = ⟨some x, s.port.waiting.erase x⟩ ∧
        (((∀ c, x ≠ .saveProgram c) ∧ s.arbitrate = { s with port := s.port.granted }) ∨
          ∃ c, x = .saveProgram c ∧ s.arbitrate = Store.grantProgram { s with port := s.port.granted }) := by
  unfold Store.arbitrate Port.granted
  cases hf : s.port.inFlight with
  | some x => exact .inl ⟨rfl, nofun⟩
  | none =>
    dsimp only
    cases hg : nextGrant s.port.waiting with
    | none => exact .inl ⟨rfl, fun _ => nextGrant_eq_none.mp hg⟩
    | some x =>
      refine .inr ⟨x, rfl, nextGrant_mem hg, rfl, ?_⟩
      cases x with
      | saveProgram c => exact .inr ⟨c, rfl, rfl⟩
      | _ => exact .inl ⟨nofun, rfl⟩

end Sys2Proof.Machine
end

section
/-! SUPPORT. The directory law, part by part, and what keeps it: lessons put in, changed and taken out, entries that join and leave
the save queue (R142 to R145, R150, R155). -/

namespace Sys2Proof.Machine

/-- A lesson entry is lawful beside the ordinals queued for it and the lesson under delete (R142, R155). -/
structure Lesson.Lawful (l : Lesson) (queued : List Nat) (work : Option Nat) : Prop where
  id_pos : 1 ≤ l.id
  id_le : l.id ≤ 64
  title : l.title.length ≤ 24
  next_pos : 1 ≤ l.next
  next_le : l.next ≤ 256
  rising : (l.pages.map (·.ordinal)).Pairwise (· < ·)
  page : ∀ p ∈ l.pages, 1 ≤ p.ordinal ∧ p.ordinal ≤ 255 ∧ p.ordinal < l.next ∧ p.ordinal ∉ queued
  below : ∀ o ∈ queued, o < l.next
  deleting : l.deleting = true → l.isOpen = false ∧ queued = [] ∧ work = some l.id

theorem Store.lessonLaw_iff (s : Store) (l : Lesson) :
    s.LessonLaw l ↔ l.Lawful (s.queuedOrdinals l.id) (s.deleteWork.map (·.lesson)) :=
  ⟨fun ⟨a, b, c, d, e, f, g, h, i⟩ => ⟨a, b, c, d, e, f, g, h, i⟩,
    fun ⟨a, b, c, d, e, f, g, h, i⟩ => ⟨a, b, c, d, e, f, g, h, i⟩⟩

theorem Store.mem_queuedOrdinals {s : Store} {id o : Nat} :
    o ∈ s.queuedOrdinals id ↔ ∃ e ∈ s.queue, e.lesson = id ∧ e.ordinal = o := by
  simp [Store.queuedOrdinals, and_assoc]

theorem Store.queuedOrdinals_eq_nil {s : Store} {id : Nat} :
    s.queuedOrdinals id = [] ↔ ∀ e ∈ s.queue, e.lesson ≠ id := by
  simp [Store.queuedOrdinals]

theorem Store.queueNames_iff {s : Store} {id : Nat} : s.queueNames id = true ↔ ∃ e ∈ s.queue, e.lesson = id := by
  simp [Store.queueNames]

/-- The directory law, part by part. -/
structure Store.Listed (s : Store) : Prop where
  rising : (s.directory.map (·.id)).Pairwise (· < ·)
  oneOpen : ∀ l ∈ s.directory, ∀ m ∈ s.directory, l.isOpen = true → m.isOpen = true → l.id = m.id
  lesson : ∀ l ∈ s.directory, l.Lawful (s.queuedOrdinals l.id) (s.deleteWork.map (·.lesson))
  entry : ∀ e ∈ s.queue, 1 ≤ e.ordinal ∧ e.ordinal ≤ 255
  named : ∀ e ∈ s.queue, ∃ l ∈ s.directory, l.id = e.lesson
  distinct : (s.queue.map fun e => (e.lesson, e.ordinal)).Nodup

/-- Of records with different keys at most one passes a test exactly where any two that pass have one key. -/
theorem filter_length_le_one {α : Type} {f : α → Nat} {l : List α} (h : (l.map f).Nodup) (p : α → Bool) :
    (l.filter p).length ≤ 1 ↔ ∀ a ∈ l, ∀ b ∈ l, p a = true → p b = true → f a = f b := by
  have hnodup : (l.filter p).Nodup := h.of_map.sublist List.filter_sublist
  constructor
  · intro hlen a ha b hb hpa hpb
    have ha' := List.mem_filter.mpr ⟨ha, hpa⟩
    have hb' := List.mem_filter.mpr ⟨hb, hpb⟩
    match hf : l.filter p, hlen with
    | [c], _ =>
      rw [hf, List.mem_singleton] at ha' hb'
      rw [ha', hb']
    | [], _ => rw [hf] at ha'; cases ha'
  · intro hall
    match hf : l.filter p with
    | [] => simp
    | [_] => simp
    | a :: b :: rest =>
      have ha : a ∈ l.filter p := by rw [hf]; simp
      have hb : b ∈ l.filter p := by rw [hf]; simp
      obtain ⟨ha, hpa⟩ := List.mem_filter.mp ha
      obtain ⟨hb, hpb⟩ := List.mem_filter.mp hb
      have hab := List.inj_on_of_nodup_map h ha hb (hall a ha b hb hpa hpb)
      rw [hf, hab] at hnodup
      simp at hnodup

theorem Store.directoryLaw_iff (s : Store) : s.DirectoryLaw ↔ s.Listed := by
  constructor
  · rintro ⟨hrising, hopen, hlesson, hqueue, hdistinct⟩
    refine ⟨hrising, (filter_length_le_one (nodup_of_rising hrising) _).mp hopen,
      fun l hl => (s.lessonLaw_iff l).mp (hlesson l hl), fun e he => ⟨(hqueue e he).1, (hqueue e he).2.1⟩,
      fun e he => ?_, hdistinct⟩
    simpa using (hqueue e he).2.2
  · intro h
    refine ⟨h.rising, (filter_length_le_one (nodup_of_rising h.rising) _).mpr h.oneOpen,
      fun l hl => (s.lessonLaw_iff l).mpr (h.lesson l hl), fun e he => ⟨(h.entry e he).1, (h.entry e he).2, ?_⟩,
      h.distinct⟩
    simpa using h.named e he

/-! ### One lesson -/

section

variable {l : Lesson} {queued queued' : List Nat} {work work' : Option Nat}

/-- With fewer ordinals queued. -/
theorem Lesson.Lawful.dequeued (h : l.Lawful queued work) (hq : ∀ o ∈ queued', o ∈ queued) : l.Lawful queued' work where
  id_pos := h.id_pos
  id_le := h.id_le
  title := h.title
  next_pos := h.next_pos
  next_le := h.next_le
  rising := h.rising
  page p hp := ⟨(h.page p hp).1, (h.page p hp).2.1, (h.page p hp).2.2.1, fun hm => (h.page p hp).2.2.2 (hq _ hm)⟩
  below o ho := h.below o (hq o ho)
  deleting hd := by
    obtain ⟨ho, hnone, hw⟩ := h.deleting hd
    subst hnone
    exact ⟨ho, List.eq_nil_iff_forall_not_mem.mpr fun o hm => List.not_mem_nil (hq o hm), hw⟩

/-- Beside other work, where the lesson is not under delete or the work is the same. -/
theorem Lesson.Lawful.atWork (h : l.Lawful queued work) (hw : l.deleting = true → work' = work) :
    l.Lawful queued work' :=
  { h with deleting := fun hd => ⟨(h.deleting hd).1, (h.deleting hd).2.1, (hw hd).trans (h.deleting hd).2.2⟩ }

/-- With fewer pages (R155, R156). -/
theorem Lesson.Lawful.unpaged (h : l.Lawful queued work) (p : PageRecord → Bool) :
    Lesson.Lawful { l with pages := l.pages.filter p } queued work :=
  { h with
    rising := h.rising.sublist (List.filter_sublist.map _)
    page := fun q hq => h.page q (List.mem_filter.mp hq).1 }

/-- Closed (R145). -/
theorem Lesson.Lawful.closed (h : l.Lawful queued work) : Lesson.Lawful { l with isOpen := false } queued work :=
  { h with deleting := fun hd => ⟨rfl, (h.deleting hd).2⟩ }

/-- Under delete (R155). -/
theorem Lesson.Lawful.deleted (h : l.Lawful [] work) (ho : l.isOpen = false) :
    Lesson.Lawful { l with deleting := true } [] (some l.id) :=
  { h with deleting := fun _ => ⟨ho, rfl, rfl⟩ }

/-- Open again, its next ordinal above all in use (R144). -/
theorem Lesson.Lawful.resumed (h : l.Lawful queued work) (hd : l.deleting = false) {n : Nat} (hpos : 1 ≤ n)
    (hle : n ≤ 256) (hpages : ∀ p ∈ l.pages, p.ordinal < n) (hqueued : ∀ o ∈ queued, o < n) :
    Lesson.Lawful { l with isOpen := true, next := n } queued work :=
  { h with
    next_pos := hpos, next_le := hle
    page := fun p hp => ⟨(h.page p hp).1, (h.page p hp).2.1, hpages p hp, (h.page p hp).2.2.2⟩
    below := hqueued
    deleting := fun e => by rw [hd] at e; cases e }

/-- With its next ordinal queued and passed on (R124). -/
theorem Lesson.Lawful.advanced (h : l.Lawful queued work) (ho : l.isOpen = true) (hn : l.next ≤ 255)
    (hq : ∀ o ∈ queued', o ∈ queued ∨ o = l.next) : Lesson.Lawful { l with next := l.next + 1 } queued' work where
  id_pos := h.id_pos
  id_le := h.id_le
  title := h.title
  next_pos := by dsimp only; omega
  next_le := by dsimp only; omega
  rising := h.rising
  page p hp := by
    obtain ⟨hpos, hle, hlt, hnot⟩ := h.page p hp
    refine ⟨hpos, hle, Nat.lt_succ_of_lt hlt, fun hm => ?_⟩
    rcases hq _ hm with hm | hm
    · exact hnot hm
    · exact absurd hm (Nat.ne_of_lt hlt)
  below o hm := by
    rcases hq o hm with hm | rfl
    · exact Nat.lt_succ_of_lt (h.below o hm)
    · exact Nat.lt_succ_self _
  deleting hd := by have := (h.deleting hd).1; rw [ho] at this; cases this

/-- With the page of a queued ordinal put at its place, that ordinal no longer queued (R150). -/
theorem Lesson.Lawful.paged (h : l.Lawful queued work) {p : PageRecord} (hp : p.ordinal ∈ queued) (hpos : 1 ≤ p.ordinal)
    (hle : p.ordinal ≤ 255) (hq : ∀ o ∈ queued', o ∈ queued ∧ o ≠ p.ordinal) :
    Lesson.Lawful { l with pages := insertPage p l.pages } queued' work where
  id_pos := h.id_pos
  id_le := h.id_le
  title := h.title
  next_pos := h.next_pos
  next_le := h.next_le
  rising := insertPage_rising h.rising fun hm => by
    obtain ⟨q, hq, e⟩ := List.mem_map.mp hm
    exact (h.page q hq).2.2.2 (e ▸ hp)
  page q hm := by
    rcases List.mem_cons.mp ((insertPage_perm p l.pages).mem_iff.mp hm) with rfl | hm
    · exact ⟨hpos, hle, h.below _ hp, fun ho => (hq _ ho).2 rfl⟩
    · obtain ⟨h1, h2, h3, h4⟩ := h.page q hm
      exact ⟨h1, h2, h3, fun ho => h4 (hq _ ho).1⟩
  below o ho := h.below o (hq o ho).1
  deleting hd := by
    have := (h.deleting hd).2.1
    rw [this] at hp
    cases hp

end

/-! ### The whole directory -/

namespace Store.Listed

variable {s t : Store}

theorem lessonNodup (h : s.Listed) : (s.directory.map (·.id)).Nodup := nodup_of_rising h.rising

/-- Two lessons of one id are one. -/
theorem lesson_eq (h : s.Listed) {l m : Lesson} (hl : l ∈ s.directory) (hm : m ∈ s.directory) (e : l.id = m.id) :
    l = m := eq_of_rising h.rising hl hm e

/-- A lesson found by its id is the one that is there. -/
theorem lesson_eq_some (h : s.Listed) {l : Lesson} (hl : l ∈ s.directory) : s.lesson l.id = some l :=
  find_by_key h.lessonNodup hl rfl

/-- The law speaks of the directory, the queue and the lesson under delete alone. -/
theorem congr (h : s.Listed) (hd : t.directory = s.directory) (hq : t.queue = s.queue)
    (hw : t.deleteWork.map (·.lesson) = s.deleteWork.map (·.lesson)) : t.Listed := by
  have hord : ∀ id, t.queuedOrdinals id = s.queuedOrdinals id := fun id => by rw [queuedOrdinals, hq]; rfl
  refine ⟨by rw [hd]; exact h.rising, by rw [hd]; exact h.oneOpen, fun l hl => ?_, by rw [hq]; exact h.entry,
    by rw [hd, hq]; exact h.named, by rw [hq]; exact h.distinct⟩
  rw [hord, hw]
  exact h.lesson l (hd ▸ hl)

/-- Nothing listed and nothing queued. -/
theorem of_nil (hd : t.directory = []) (hq : t.queue = []) : t.Listed := by
  refine ⟨?_, ?_, ?_, ?_, ?_, ?_⟩ <;> simp [hd, hq]

/-- Lessons changed one by one keep their ids. -/
theorem mapped (h : s.Listed) {f : Lesson → Lesson} (hd : t.directory = s.directory.map f) (hq : t.queue = s.queue)
    (hid : ∀ l, (f l).id = l.id)
    (hopen : ∀ l ∈ s.directory, ∀ m ∈ s.directory, (f l).isOpen = true → (f m).isOpen = true → l.id = m.id)
    (hl : ∀ l ∈ s.directory, (f l).Lawful (s.queuedOrdinals l.id) (t.deleteWork.map (·.lesson))) : t.Listed := by
  have hord : ∀ id, t.queuedOrdinals id = s.queuedOrdinals id := fun id => by rw [queuedOrdinals, hq]; rfl
  have hids : t.directory.map (·.id) = s.directory.map (·.id) := by
    rw [hd, List.map_map]
    exact List.map_congr_left fun l _ => hid l
  refine ⟨by rw [hids]; exact h.rising, ?_, ?_, by rw [hq]; exact h.entry, fun e he => ?_, by rw [hq]; exact h.distinct⟩
  · rw [hd]
    intro _ hl' _ hm'
    obtain ⟨l, hl, rfl⟩ := List.mem_map.mp hl'
    obtain ⟨m, hm, rfl⟩ := List.mem_map.mp hm'
    rw [hid, hid]
    exact hopen l hl m hm
  · rw [hd]
    intro _ hm'
    obtain ⟨l, hm, rfl⟩ := List.mem_map.mp hm'
    rw [hord, hid]
    exact hl l hm
  · obtain ⟨l, hm, e⟩ := h.named e (hq ▸ he)
    exact ⟨f l, by rw [hd]; exact List.mem_map_of_mem hm, (hid l).trans e⟩

/-- Lessons taken out that no entry names. -/
theorem filtered (h : s.Listed) {p : Lesson → Bool} (hd : t.directory = s.directory.filter p) (hq : t.queue = s.queue)
    (hp : ∀ l ∈ s.directory, p l = false → s.queuedOrdinals l.id = [])
    (hw : ∀ l ∈ s.directory, p l = true → l.deleting = true →
      t.deleteWork.map (·.lesson) = s.deleteWork.map (·.lesson)) : t.Listed := by
  have hord : ∀ id, t.queuedOrdinals id = s.queuedOrdinals id := fun id => by rw [queuedOrdinals, hq]; rfl
  have hmem : ∀ l ∈ t.directory, l ∈ s.directory ∧ p l = true := fun l hl => List.mem_filter.mp (hd ▸ hl)
  refine ⟨?_, fun l hl m hm => h.oneOpen l (hmem l hl).1 m (hmem m hm).1, fun l hl => ?_, by rw [hq]; exact h.entry,
    fun e he => ?_, by rw [hq]; exact h.distinct⟩
  · rw [hd]
    exact h.rising.sublist (List.filter_sublist.map _)
  · rw [hord]
    exact (h.lesson l (hmem l hl).1).atWork (hw l (hmem l hl).1 (hmem l hl).2)
  · rw [hq] at he
    obtain ⟨l, hl, e'⟩ := h.named e he
    refine ⟨l, ?_, e'⟩
    rw [hd, List.mem_filter]
    refine ⟨hl, ?_⟩
    by_contra hno
    exact queuedOrdinals_eq_nil.mp (hp l hl (by simpa using hno)) e he e'.symm

/-- A lesson of a new id, which no entry can name (R143). -/
theorem inserted (h : s.Listed) {l : Lesson} (hd : t.directory = insertLesson l s.directory) (hq : t.queue = s.queue)
    (hw : t.deleteWork = s.deleteWork) (hid : ∀ m ∈ s.directory, m.id ≠ l.id)
    (hopen : ∀ m ∈ s.directory, m.isOpen = false) (hl : l.Lawful [] (s.deleteWork.map (·.lesson))) : t.Listed := by
  have hord : ∀ id, t.queuedOrdinals id = s.queuedOrdinals id := fun id => by rw [queuedOrdinals, hq]; rfl
  have hmem : ∀ m, m ∈ t.directory ↔ m = l ∨ m ∈ s.directory := fun m => by
    rw [hd, (insertLesson_perm l s.directory).mem_iff, List.mem_cons]
  have hnone : s.queuedOrdinals l.id = [] := queuedOrdinals_eq_nil.mpr fun e he => by
    obtain ⟨m, hm, e'⟩ := h.named e he
    rw [← e']
    exact hid m hm
  refine ⟨?_, fun a ha b hb hao hbo => ?_, fun m hm => ?_, by rw [hq]; exact h.entry, fun e he => ?_,
    by rw [hq]; exact h.distinct⟩
  · rw [hd]
    exact insertLesson_rising h.rising (by simpa using hid)
  · rcases (hmem a).mp ha with rfl | ha
    · rcases (hmem b).mp hb with rfl | hb
      · rfl
      · rw [hopen b hb] at hbo; cases hbo
    · rw [hopen a ha] at hao; cases hao
  · rw [hord, hw]
    rcases (hmem m).mp hm with rfl | hm
    · rw [hnone]; exact hl
    · exact h.lesson m hm
  · obtain ⟨m, hm, e'⟩ := h.named e (hq ▸ he)
    exact ⟨m, (hmem m).mpr (.inr hm), e'⟩

/-- The ordinals queued but for the head entry's. -/
theorem tail_ordinals {e : SaveEntry} {rest : List SaveEntry} (hs : s.queue = e :: rest) (ht : t.queue = rest) {id o : Nat}
    (ho : o ∈ t.queuedOrdinals id) : o ∈ s.queuedOrdinals id := by
  obtain ⟨d, hd, hl, rfl⟩ := mem_queuedOrdinals.mp ho
  exact mem_queuedOrdinals.mpr ⟨d, by rw [hs]; exact List.mem_cons_of_mem _ (ht ▸ hd), hl, rfl⟩

/-- The head entry gone from the queue (R147). -/
theorem tail (h : s.Listed) {e : SaveEntry} {rest : List SaveEntry} (hs : s.queue = e :: rest) (ht : t.queue = rest)
    (hd : t.directory = s.directory) (hw : t.deleteWork = s.deleteWork) : t.Listed := by
  have hmem : ∀ d ∈ t.queue, d ∈ s.queue := fun d hm => by rw [hs]; exact List.mem_cons_of_mem _ (ht ▸ hm)
  refine ⟨by rw [hd]; exact h.rising, by rw [hd]; exact h.oneOpen, fun l hl => ?_, fun d hm => h.entry d (hmem d hm),
    fun d hm => ?_, ?_⟩
  · rw [hw]
    exact (h.lesson l (hd ▸ hl)).dequeued fun o => tail_ordinals hs ht
  · rw [hd]
    exact h.named d (hmem d hm)
  · have := h.distinct
    rw [hs, List.map_cons, List.nodup_cons] at this
    rw [ht]
    exact this.2

/-- The head entry gone from the queue, its page in its lesson's list (R150). -/
theorem committed (h : s.Listed) {e : SaveEntry} {rest : List SaveEntry} {p : PageRecord} (hs : s.queue = e :: rest)
    (ht : t.queue = rest) (hp : p.ordinal = e.ordinal) (hw : t.deleteWork = s.deleteWork)
    (hd : t.directory = s.directory.map fun l => if l.id = e.lesson then { l with pages := insertPage p l.pages } else l) :
    t.Listed := by
  have he : e ∈ s.queue := by rw [hs]; exact List.mem_cons_self
  have hmem : ∀ d ∈ t.queue, d ∈ s.queue := fun d hm => by rw [hs]; exact List.mem_cons_of_mem _ (ht ▸ hm)
  have hnew : ∀ d ∈ t.queue, d.lesson = e.lesson → d.ordinal ≠ e.ordinal := fun d hm hl ho => by
    have := h.distinct
    rw [hs, List.map_cons, List.nodup_cons] at this
    exact this.1 (List.mem_map.mpr ⟨d, ht ▸ hm, Prod.ext hl ho⟩)
  have hid : ∀ l : Lesson, (if l.id = e.lesson then { l with pages := insertPage p l.pages } else l).id = l.id :=
    fun l => by split <;> rfl
  refine ⟨?_, ?_, ?_, fun d hm => h.entry d (hmem d hm), fun d hm => ?_, ?_⟩
  · rw [hd, List.map_map]
    exact (List.map_congr_left fun l _ => hid l).symm ▸ h.rising
  · rw [hd]
    intro _ hl' _ hm'
    obtain ⟨l, hl, rfl⟩ := List.mem_map.mp hl'
    obtain ⟨m, hm, rfl⟩ := List.mem_map.mp hm'
    rw [hid, hid]
    intro hlo hmo
    exact h.oneOpen l hl m hm (by split at hlo <;> exact hlo) (by split at hmo <;> exact hmo)
  · rw [hd]
    intro _ hm'
    obtain ⟨l, hm, rfl⟩ := List.mem_map.mp hm'
    rw [hid, hw]
    have hlaw := h.lesson l hm
    split
    · rename_i hl
      refine hlaw.paged ?_ ?_ ?_ fun o ho => ?_
      · rw [hp, hl]
        exact mem_queuedOrdinals.mpr ⟨e, he, rfl, rfl⟩
      · rw [hp]; exact (h.entry e he).1
      · rw [hp]; exact (h.entry e he).2
      · refine ⟨tail_ordinals hs ht ho, ?_⟩
        obtain ⟨d, hdm, hdl, rfl⟩ := mem_queuedOrdinals.mp ho
        rw [hp]
        exact hnew d hdm (hdl.trans hl)
    · exact hlaw.dequeued fun o => tail_ordinals hs ht
  · obtain ⟨l, hl, e'⟩ := h.named d (hmem d hm)
    exact ⟨_, by rw [hd]; exact List.mem_map_of_mem hl, (hid l).trans e'⟩
  · have := h.distinct
    rw [hs, List.map_cons, List.nodup_cons] at this
    rw [ht]
    exact this.2

/-- An entry joins the queue for the open lesson, and that lesson's next ordinal rises (R124). -/
theorem appended (h : s.Listed) {e : SaveEntry} {l : Lesson} (hl : l ∈ s.directory) (ho : l.isOpen = true)
    (he : e.lesson = l.id) (hn : e.ordinal = l.next) (hle : l.next ≤ 255) (hq : t.queue = s.queue ++ [e])
    (hw : t.deleteWork = s.deleteWork)
    (hd : t.directory = s.directory.map fun m => if m.id = e.lesson then { m with next := m.next + 1 } else m) :
    t.Listed := by
  have hid : ∀ m : Lesson, (if m.id = e.lesson then { m with next := m.next + 1 } else m).id = m.id :=
    fun m => by split <;> rfl
  have hmem : ∀ d, d ∈ t.queue ↔ d ∈ s.queue ∨ d = e := fun d => by rw [hq]; simp
  have hord : ∀ id o, o ∈ t.queuedOrdinals id → o ∈ s.queuedOrdinals id ∨ id = e.lesson ∧ o = e.ordinal :=
    fun id o hm => by
      obtain ⟨d, hdm, hdl, rfl⟩ := mem_queuedOrdinals.mp hm
      rcases (hmem d).mp hdm with hdm | rfl
      · exact .inl (mem_queuedOrdinals.mpr ⟨d, hdm, hdl, rfl⟩)
      · exact .inr ⟨hdl.symm, rfl⟩
  refine ⟨?_, ?_, ?_, fun d hm => ?_, fun d hm => ?_, ?_⟩
  · rw [hd, List.map_map]
    exact (List.map_congr_left fun m _ => hid m).symm ▸ h.rising
  · rw [hd]
    intro _ ha' _ hb'
    obtain ⟨a, ha, rfl⟩ := List.mem_map.mp ha'
    obtain ⟨b, hb, rfl⟩ := List.mem_map.mp hb'
    rw [hid, hid]
    intro hao hbo
    exact h.oneOpen a ha b hb (by split at hao <;> exact hao) (by split at hbo <;> exact hbo)
  · rw [hd]
    intro _ hm'
    obtain ⟨m, hm, rfl⟩ := List.mem_map.mp hm'
    rw [hid, hw]
    have hlaw := h.lesson m hm
    split
    · rename_i hml
      have hml' : m = l := h.lesson_eq hm hl (hml.trans he)
      refine hlaw.advanced (by rw [hml']; exact ho) (by rw [hml']; exact hle) fun o hm => ?_
      rcases hord _ _ hm with hm | ⟨-, hm⟩
      · exact .inl hm
      · exact .inr (hm.trans (hn.trans (by rw [hml'])))
    · rename_i hml
      refine hlaw.dequeued fun o hm => ?_
      rcases hord _ _ hm with hm | ⟨hm, -⟩
      · exact hm
      · exact absurd hm hml
  · rcases (hmem d).mp hm with hm | rfl
    · exact h.entry d hm
    · rw [hn]
      exact ⟨(h.lesson l hl).next_pos, hle⟩
  · have hnamed : ∃ m ∈ s.directory, m.id = d.lesson := by
      rcases (hmem d).mp hm with hm | rfl
      · exact h.named d hm
      · exact ⟨l, hl, he.symm⟩
    obtain ⟨m, hm, e'⟩ := hnamed
    exact ⟨_, by rw [hd]; exact List.mem_map_of_mem hm, (hid m).trans e'⟩
  · rw [hq, List.map_append, List.nodup_append]
    refine ⟨h.distinct, by simp, fun a ha b hb hab => ?_⟩
    obtain ⟨d, hdm, rfl⟩ := List.mem_map.mp ha
    simp only [List.map_cons, List.map_nil, List.mem_singleton] at hb
    rw [hb] at hab
    obtain ⟨hdl, hdo⟩ := Prod.mk.inj hab
    have := (h.lesson l hl).below d.ordinal (mem_queuedOrdinals.mpr ⟨d, hdm, hdl.trans he, rfl⟩)
    omega

/-- The directory built at mount (R138). -/
theorem mounted (hs : s.ScanLaw) (hd : t.directory = mountedDirectory (winners s.scan)) (hq : t.queue = []) :
    t.Listed := by
  have hord : ∀ id, t.queuedOrdinals id = [] := fun id => by rw [queuedOrdinals, hq]; rfl
  have hfound : ∀ l ∈ t.directory, ∃ w ∈ winners s.scan,
      l = mountedLesson w.lesson (headersOf (winners s.scan) w.lesson) := fun l hl => hs.mem_directory.mp (hd ▸ hl)
  refine ⟨by rw [hd]; exact mountedDirectory_rising _, fun l hl m hm ho => ?_, fun l hl => ?_, ?_, ?_, ?_⟩
  · obtain ⟨w, -, rfl⟩ := hfound l hl
    cases ho
  · rw [hord]
    obtain ⟨w, hw, rfl⟩ := hfound l hl
    have hne : headersOf (winners s.scan) w.lesson ≠ [] := List.ne_nil_of_mem (mem_headersOf.mpr ⟨hw, rfl⟩)
    have hrange := fun {v} (hv : v ∈ headersOf (winners s.scan) w.lesson) => hs.winner_range (mem_headersOf.mp hv).1
    obtain ⟨v, hv, hnext⟩ := mountedLesson_next (id := w.lesson) hne
    obtain ⟨u, hu, htitle, -⟩ := mountedTitle_mem hne
    refine ⟨(hs.winner_range hw).1, (hs.winner_range hw).2.1, ?_, ?_, ?_, mountedLesson_rising (hs.headersOf_ordinals _),
      fun p hp => ?_, nofun, nofun⟩
    · obtain ⟨-, -, -, -, h, -⟩ := hrange hu
      exact (congrArg List.length htitle) ▸ h
    · omega
    · obtain ⟨-, -, -, h, -⟩ := hrange hv
      omega
    · have hlt := mountedLesson_lt_next hp
      obtain ⟨x, hx, rfl⟩ := mem_mountedLesson_pages.mp hp
      obtain ⟨-, -, hpos, hle, -⟩ := hrange hx
      exact ⟨hpos, hle, hlt, List.not_mem_nil⟩
  · simp [hq]
  · simp [hq]
  · simp [hq]

end Store.Listed

end Sys2Proof.Machine
end

section
/-! SUPPORT. The store's books outside a mount or format: what the store state allows, nothing of a scan, and the directory; kept
by all that the writer, the port and the page steps do (R133, R134, R142, R147). -/

namespace Sys2Proof.Machine

/-! ### The steps of the port -/

theorem Port.mem_steps {p : Port} {x : PortStep} : x ∈ p.steps ↔ p.inFlight = some x ∨ x ∈ p.waiting := by
  simp [Port.steps]

@[simp] theorem Store.ask_steps (s : Store) (x : PortStep) : (s.ask x).port.steps = s.port.steps ++ [x] := by
  simp [Store.ask, Port.steps]

@[simp] theorem Store.endStep_steps (s : Store) : s.endStep.port.steps = s.port.waiting := rfl

/-- A grant moves a step from the waiting ones into flight (R154). -/
theorem Port.granted_perm (p : Port) : p.granted.steps.Perm p.steps := by
  unfold Port.granted
  split
  · rename_i x hf hg
    simpa [Port.steps, hf] using (List.perm_cons_erase (nextGrant_mem hg)).symm
  · exact .refl _

theorem Port.mem_granted {p : Port} {x : PortStep} : x ∈ p.granted.steps ↔ x ∈ p.steps := p.granted_perm.mem_iff

/-! ### The books of a store that neither mounts nor formats -/

/-- The books of a store that neither mounts nor formats (R133, R134, R136). -/
structure Store.Settled (s : Store) : Prop where
  port : ∀ x ∈ s.port.steps, x.rank ≠ 0
  scan : s.scan = []
  notMounting : s.state ≠ .mounting
  notFormatting : s.state ≠ .formatting
  away : s.state ≠ .ready → s.directory = [] ∧ s.queue = [] ∧ s.cellCount = 0 ∧ s.cells = []
  here : s.state = .ready →
    s.cells.length = s.cellCount ∧ Config.minCells ≤ s.cellCount ∧ s.cellCount ≤ Config.maxCells
  listed : s.Listed

theorem Store.Settled.bookLaw {s : Store} (h : s.Settled) : s.BookLaw := by
  have hflight : s.port.inFlight.all (fun x => x.rank != 0) = true := by
    rw [Option.all_eq_true]
    exact fun x hx => by simpa using h.port x (Port.mem_steps.mpr (.inl hx))
  refine ⟨⟨fun x hx => h.port x (Port.mem_steps.mpr (.inr hx)), fun hs => ⟨(h.away hs).1, (h.away hs).2.1⟩, ?_⟩, ?_,
    s.directoryLaw_iff.mpr h.listed⟩
  · cases hs : s.state with
    | unmounted => obtain ⟨-, -, hn, hc⟩ := h.away (by rw [hs]; decide); exact ⟨hn, hc, hflight⟩
    | fault => obtain ⟨-, -, hn, hc⟩ := h.away (by rw [hs]; decide); exact ⟨hn, hc, hflight⟩
    | ready => obtain ⟨hc, hlow, hhigh⟩ := h.here hs; exact ⟨hc, hlow, hhigh, h.scan, hflight⟩
    | mounting => exact absurd hs h.notMounting
    | formatting => exact absurd hs h.notFormatting
  · unfold Store.ScanLaw
    rw [h.scan]
    exact ⟨nofun, .nil⟩

/-- What is kept of a scan is of cells that the table has. -/
theorem Store.ScanLaw.scan_nil {s : Store} (h : s.ScanLaw) (hc : s.cells = []) : s.scan = [] :=
  List.eq_nil_iff_forall_not_mem.mpr fun x hx => by
    obtain ⟨-, -, -, -, -, hcell⟩ := h.1 x hx
    rw [hc] at hcell
    cases hcell

theorem Store.BookLaw.settled {s : Store} (h : s.BookLaw) (hm : s.state ≠ .mounting) (hf : s.state ≠ .formatting) :
    s.Settled := by
  obtain ⟨⟨hwait, haway, hmedia⟩, hscan, hdir⟩ := h
  have hport : s.port.inFlight.all (fun x => x.rank != 0) = true → ∀ x ∈ s.port.steps, x.rank ≠ 0 := by
    intro hall x hx
    rcases Port.mem_steps.mp hx with hx | hx
    · simpa using Option.all_eq_true _ _ |>.mp hall x hx
    · exact hwait x hx
  have hlisted := s.directoryLaw_iff.mp hdir
  cases hs : s.state with
  | unmounted | fault =>
    rw [hs] at hmedia
    obtain ⟨hn, hc, hall⟩ := hmedia
    refine ⟨hport hall, hscan.scan_nil hc, hm, hf, fun h => ⟨(haway h).1, (haway h).2, hn, hc⟩, fun e => ?_, hlisted⟩
    rw [hs] at e
    cases e
  | ready =>
    rw [hs] at hmedia
    obtain ⟨hc, hlow, hhigh, hnone, hall⟩ := hmedia
    exact ⟨hport hall, hnone, hm, hf, fun h => absurd hs h, fun _ => ⟨hc, hlow, hhigh⟩, hlisted⟩
  | mounting => exact absurd hs hm
  | formatting => exact absurd hs hf

/-- A step of a class above 0 holds the port only outside a mount or format (R154). -/
theorem Store.BookLaw.settled_of_step {s : Store} (h : s.BookLaw) {x : PortStep} (hx : s.port.inFlight = some x)
    (hr : x.rank ≠ 0) : s.Settled := by
  obtain ⟨-, -, hmedia⟩ := h.1
  refine h.settled (fun hs => ?_) (fun hs => ?_) <;> rw [hs, hx] at hmedia <;>
    cases x <;> first | exact hmedia.elim | exact hr rfl

theorem Store.BookLaw.settled_of_ready {s : Store} (h : s.BookLaw) (hs : s.state = .ready) : s.Settled :=
  h.settled (by rw [hs]; decide) (by rw [hs]; decide)

/-- What keeps the books: the store state, the count and the length of the cell table, no new read or erase of a mount or
format, and a lawful directory. -/
theorem Store.Settled.changed {s t : Store} (h : s.Settled) (hs : t.state = s.state) (hn : t.cellCount = s.cellCount)
    (hscan : t.scan = s.scan) (hc : t.cells.length = s.cells.length)
    (hp : ∀ x ∈ t.port.steps, x ∈ s.port.steps ∨ x.rank ≠ 0)
    (haway : s.directory = [] → s.queue = [] → s.state ≠ .ready → t.directory = [] ∧ t.queue = []) (hl : t.Listed) :
    t.Settled where
  port x hx := (hp x hx).elim (h.port x) id
  scan := hscan.trans h.scan
  notMounting := hs ▸ h.notMounting
  notFormatting := hs ▸ h.notFormatting
  away hr := by
    rw [hs] at hr
    obtain ⟨hdir, hqueue, hzero, hcells⟩ := h.away hr
    obtain ⟨hdir', hqueue'⟩ := haway hdir hqueue hr
    exact ⟨hdir', hqueue', hn.trans hzero, List.length_eq_zero_iff.mp (by rw [hc, hcells]; rfl)⟩
  here hr := by rw [hc, hn]; exact h.here (hs ▸ hr)
  listed := hl

namespace Store.Settled

variable {s t : Store}

/-- Where the directory, the queue and the lesson under delete are left alone. -/
theorem kept (h : s.Settled) (hs : t.state = s.state) (hn : t.cellCount = s.cellCount) (hscan : t.scan = s.scan)
    (hc : t.cells.length = s.cells.length) (hp : ∀ x ∈ t.port.steps, x ∈ s.port.steps ∨ x.rank ≠ 0)
    (hd : t.directory = s.directory) (hq : t.queue = s.queue)
    (hw : t.deleteWork.map (·.lesson) = s.deleteWork.map (·.lesson)) : t.Settled :=
  h.changed hs hn hscan hc hp (fun h1 h2 _ => ⟨hd.trans h1, hq.trans h2⟩) (h.listed.congr hd hq hw)

theorem setCell (h : s.Settled) (cell : Nat) (c : CellState) : (s.setCell cell c).Settled :=
  h.kept rfl rfl rfl List.length_set (fun _ => .inl) rfl rfl rfl

theorem endStep (h : s.Settled) : s.endStep.Settled :=
  h.kept rfl rfl rfl rfl (fun _ hx => .inl (Port.mem_steps.mpr (.inr hx))) rfl rfl rfl

theorem ask (h : s.Settled) {x : PortStep} (hx : x.rank ≠ 0) : (s.ask x).Settled := by
  refine h.kept rfl rfl rfl rfl (fun y hy => ?_) rfl rfl rfl
  rw [Store.ask_steps, List.mem_append, List.mem_singleton] at hy
  rcases hy with hy | rfl
  · exact .inl hy
  · exact .inr hx

theorem arbitrate (h : s.Settled) : s.arbitrate.Settled := by
  have hport : ∀ x ∈ s.arbitrate.port.steps, x ∈ s.port.steps ∨ x.rank ≠ 0 := fun x hx => by
    rw [Store.arbitrate_port] at hx
    exact .inl (Port.mem_granted.mp hx)
  obtain ⟨port, stamp, attempt, e⟩ := s.arbitrate_frame
  rw [e] at hport ⊢
  exact h.kept rfl rfl rfl rfl hport rfl rfl rfl

/-- A lesson's entry gone where R142 calls for it. -/
theorem prune (h : s.Settled) (id : Nat) : (s.prune id).Settled := by
  refine h.changed rfl rfl rfl rfl (fun _ => .inl) (fun h1 h2 _ => ⟨?_, h2⟩) ?_
  · simp [Store.prune, h1]
  · refine h.listed.filtered rfl rfl (fun l hl hp => ?_) (fun _ _ _ _ => rfl)
    simp only [Bool.not_eq_false', Bool.and_eq_true, Store.removable, Bool.not_eq_true'] at hp
    obtain ⟨-, -, hnone⟩ := hp
    rw [queuedOrdinals_eq_nil]
    intro e he hel
    rw [queueNames_iff.mpr ⟨e, he, hel⟩] at hnone
    cases hnone

/-- The head entry gone from the queue, the writer IDLE (R147). -/
theorem unqueued (h : s.Settled) {e : SaveEntry} {rest : List SaveEntry} (hq : s.queue = e :: rest) :
    Settled { s with queue := rest, writer := .idle, attempt := none } := by
  refine h.changed rfl rfl rfl rfl (fun _ => .inl) (fun h1 h2 _ => ⟨h1, ?_⟩) (h.listed.tail hq rfl rfl rfl)
  rw [hq] at h2
  cases h2

theorem dropHead (h : s.Settled) : s.dropHead.Settled := by
  cases hq : s.queue with
  | nil => rwa [dropHead_nil hq]
  | cons e rest =>
    rw [dropHead_cons hq]
    exact (h.unqueued hq).prune _

theorem takeCell (h : s.Settled) (cell tries : Nat) (erased : Bool) : (s.takeCell cell tries erased).Settled := by
  have hset : Settled { s.setCell cell (if erased then .writing else .erasing) with
      writer := if erased then .program else .erase, attempt := some ⟨cell, tries + 1, none, []⟩ } :=
    (h.setCell cell _).kept rfl rfl rfl rfl (fun _ => .inl) rfl rfl rfl
  exact hset.ask (by cases erased <;> simp [PortStep.rank])

theorem chooseCell (h : s.Settled) (tries : Nat) : (s.chooseCell tries).Settled := by
  rcases s.chooseCell_cases tries with e | ⟨c, erased, -, e⟩ <;> rw [e]
  · exact h.dropHead
  · exact h.takeCell c tries erased

theorem beginSaves (h : s.Settled) (n : Nat) : (Store.beginSaves n s).Settled := by
  induction n generalizing s with
  | zero => exact h
  | succ n ih =>
    unfold Store.beginSaves
    split
    · exact ih (h.chooseCell 0)
    · exact h

theorem beginReclaim (h : s.Settled) : s.beginReclaim.Settled := by
  rcases s.beginReclaim_cases with ⟨e, -⟩ | ⟨c, -, -, -, -, e⟩ <;> rw [e]
  · exact h
  · have hset : Settled { s.setCell c .erasing with writer := .reclaim } :=
      (h.setCell c _).kept rfl rfl rfl rfl (fun _ => .inl) rfl rfl rfl
    exact hset.ask (by simp [PortStep.rank])

theorem runWriter (h : s.Settled) : s.runWriter.Settled := (h.beginSaves _).beginReclaim

theorem afterStep (h : s.Settled) : s.afterStep.Settled := h.runWriter.arbitrate

theorem failSave (h : s.Settled) (cell : Nat) : (s.failSave cell).Settled := by
  unfold Store.failSave
  split
  · exact (h.setCell cell _).chooseCell _
  · exact (h.setCell cell _).dropHead

/-- The head entry's page in its lesson's list, the entry gone from the queue (R150). -/
theorem paged (h : s.Settled) {e : SaveEntry} {rest : List SaveEntry} (hq : s.queue = e :: rest) (cell : Nat) (stamp : Word) :
    Settled { (s.setCell cell .used).addPage e.lesson ⟨cell, e.ordinal, stamp⟩ with
      queue := rest, writer := .idle, attempt := none } := by
  refine h.changed rfl rfl rfl List.length_set (fun _ => .inl) (fun _ h2 _ => ?_)
    (h.listed.committed (p := ⟨cell, e.ordinal, stamp⟩) hq rfl rfl rfl rfl)
  rw [hq] at h2
  cases h2

theorem commit (h : s.Settled) (cell : Nat) : (s.commit cell).Settled := by
  unfold Store.commit
  split
  · exact h.setCell cell _
  · rename_i e rest hq
    rw [dropHead_cons (s := (s.setCell cell .used).addPage e.lesson ⟨cell, e.ordinal, s.attemptStamp⟩) hq]
    exact (h.paged hq cell _).prune _

/-- An entry joins the queue for the open lesson (R124, R153). -/
theorem append (h : s.Settled) {e : SaveEntry} {l : Lesson} (hl : s.openLesson = some l) (he : e.lesson = l.id)
    (hn : e.ordinal = l.next) (hle : l.next ≤ 255) : (s.append e).Settled := by
  have hstate : s.state = .ready := by
    unfold openLesson at hl
    split at hl
    · assumption
    · cases hl
  rw [openLesson, if_pos hstate] at hl
  have hopen : l.isOpen = true := List.find?_some (p := fun m : Lesson => m.isOpen) hl
  have hjoined : Settled { s.advanceOrdinal e.lesson with queue := s.queue ++ [e] } :=
    h.changed rfl rfl rfl rfl (fun _ => .inl) (fun _ _ hs => absurd hstate hs)
      (h.listed.appended (List.mem_of_find?_eq_some hl) hopen he hn hle rfl rfl rfl)
  unfold Store.append Store.withdrawReclaim
  split
  · refine (hjoined.setCell _ .dead).kept rfl rfl rfl rfl (fun x hx => .inl ?_) rfl rfl rfl
    rcases Port.mem_steps.mp hx with hx | hx
    · exact Port.mem_steps.mpr (.inl hx)
    · exact Port.mem_steps.mpr (.inr (List.mem_of_mem_erase hx))
  · exact hjoined

/-! ### Page steps -/

theorem tombstoned (h : s.Settled) (id ordinal cell : Nat) (success : Bool) :
    (s.tombstoned id ordinal cell success).Settled := by
  refine h.changed rfl rfl rfl List.length_set (fun _ => .inl) (fun h1 h2 _ => ⟨?_, h2⟩) ?_
  · show List.map _ s.directory = []
    rw [h1]; rfl
  · refine h.listed.mapped (f := fun l => if l.id = id then
        { l with pages := l.pages.filter fun p => !(p.ordinal == ordinal && p.cell == cell) } else l) rfl rfl
      (fun l => by split <;> rfl) (fun l hl m hm hlo hmo => ?_) fun l hl => ?_
    · exact h.listed.oneOpen l hl m hm (by split at hlo <;> exact hlo) (by split at hmo <;> exact hmo)
    · split
      · exact (h.listed.lesson l hl).unpaged _
      · exact h.listed.lesson l hl

/-- A lesson delete over: the entry that was under delete is gone (R155). -/
theorem endDelete (h : s.Settled) {d : DeleteWork} (hd : s.deleteWork.map (·.lesson) = some d.lesson) :
    (s.endDelete d).Settled := by
  refine h.changed rfl rfl rfl rfl (fun _ => .inl) (fun h1 h2 _ => ⟨?_, h2⟩) ?_
  · simp [Store.endDelete, h1]
  · refine h.listed.filtered rfl rfl (fun l hl hp => ?_) (fun l hl hp hdel => ?_)
    · simp only [Bool.not_eq_false', Bool.and_eq_true] at hp
      exact ((h.listed.lesson l hl).deleting hp.2).2.1
    · have hw := ((h.listed.lesson l hl).deleting hdel).2.2
      rw [hd] at hw
      simp [Option.some.inj hw, hdel] at hp

theorem continueDelete (h : s.Settled) {d : DeleteWork} (hd : s.deleteWork.map (·.lesson) = some d.lesson) :
    (s.continueDelete d).Settled := by
  unfold Store.continueDelete
  split
  · exact h.ask (by simp [PortStep.rank])
  · exact h.endDelete hd

theorem endLessonTombstone (h : s.Settled) (success : Bool) : (s.endLessonTombstone success).Settled := by
  unfold Store.endLessonTombstone
  split
  · rename_i d hd
    have hcounted : Settled { s with deleteWork := some (d.counted success) } :=
      h.kept rfl rfl rfl rfl (fun _ => .inl) rfl rfl (by rw [hd]; rfl)
    exact hcounted.continueDelete rfl
  · exact h

end Store.Settled

end Sys2Proof.Machine
end

section
/-! SUPPORT. What the laws read of the port's steps, step by step (R154): the writer's steps and the others, tombstones, recall
reads, exports and deferred replies. -/

namespace Sys2Proof.Machine

/-- The writer's steps: erases, programs and commits of saves, and erases of reclaim (R154). -/
def PortStep.isWriters (x : PortStep) : Bool := x.rank == 4 || x.rank == 5

/-- The page a tombstone names: lesson, ordinal, cell. -/
def PortStep.mark : PortStep → Option (Nat × Nat × Nat)
  | .tombstone lesson ordinal cell _ => some (lesson, ordinal, cell)
  | _ => none

/-- The cell of a recall read. -/
def PortStep.recallCell : PortStep → Option Nat
  | .recallRead c => some c
  | _ => none

/-- The lesson of a lesson delete's tombstone. -/
def PortStep.deleteOf : PortStep → Option Nat
  | .tombstone lesson _ _ none => some lesson
  | _ => none

/-- The lesson of a page delete's tombstone. -/
def PortStep.pageDeleteOf : PortStep → Option Nat
  | .tombstone lesson _ _ (some _) => some lesson
  | _ => none

/-- The step is a PAGE READ's read. -/
def PortStep.isExport : PortStep → Bool
  | .exportRead .. => true
  | _ => false

/-- The step's reply is deferred to its end. -/
def PortStep.isDeferred : PortStep → Bool
  | .exportRead .. => true
  | .tombstone _ _ _ replyTag => replyTag.isSome
  | _ => false

/-- The steps of the port that are not the writer's. -/
def Port.hostSteps (p : Port) : List PortStep := p.steps.filter fun x => !x.isWriters

theorem Port.writerSteps_eq (p : Port) : p.writerSteps = p.steps.filter PortStep.isWriters := rfl

/-- A sublist by a test read through a map that knows only what passes the test. -/
theorem filterMap_filter_of_none {α β : Type} {f : α → Option β} {p : α → Bool} (h : ∀ a, p a = false → f a = none)
    (l : List α) : (l.filter p).filterMap f = l.filterMap f := by
  induction l with
  | nil => rfl
  | cons a l ih =>
    cases hp : p a with
    | true => simp only [List.filter_cons, hp, if_true, List.filterMap_cons, ih]
    | false => rw [List.filter_cons_of_neg (by simp [hp]), List.filterMap_cons, h a hp, ih]

/-- What is read of a step is nothing where the step is the writer's. -/
def HostReads {β : Type} (f : PortStep → Option β) : Prop := ∀ x, (!x.isWriters) = false → f x = none

theorem PortStep.mark_host : HostReads PortStep.mark := by
  rintro (_ | _) <;> simp [isWriters, rank, mark]

theorem PortStep.recallCell_host : HostReads PortStep.recallCell := by
  rintro (_ | _) <;> simp [isWriters, rank, recallCell]

theorem PortStep.deleteOf_host : HostReads PortStep.deleteOf := by
  rintro (_ | _) <;> simp [isWriters, rank, deleteOf]

theorem PortStep.pageDeleteOf_host : HostReads PortStep.pageDeleteOf := by
  rintro (_ | _) <;> simp [isWriters, rank, pageDeleteOf]

namespace Port

/-! Each reading of the port, as a reading of its other steps. -/

variable (p : Port)

theorem tombstones_eq : p.tombstones = p.hostSteps.filterMap PortStep.mark :=
  (filterMap_filter_of_none PortStep.mark_host p.steps).symm

theorem recallReads_eq : p.recallReads = p.hostSteps.filterMap PortStep.recallCell :=
  (filterMap_filter_of_none PortStep.recallCell_host p.steps).symm

/-- The deletes at the port are read of a match on a reply tag too. -/
theorem deletes_eq : p.deletes = p.hostSteps.filterMap PortStep.deleteOf := by
  refine Eq.trans ?_ (filterMap_filter_of_none PortStep.deleteOf_host p.steps).symm
  exact List.filterMap_congr fun x _ => by rcases x with _ | _ | _ | _ | _ | ⟨_, _, _, _ | _⟩ | _ | _ | _ | _ <;> rfl

theorem pageDeletes_eq : p.pageDeletes = p.hostSteps.filterMap PortStep.pageDeleteOf := by
  refine Eq.trans ?_ (filterMap_filter_of_none PortStep.pageDeleteOf_host p.steps).symm
  exact List.filterMap_congr fun x _ => by rcases x with _ | _ | _ | _ | _ | ⟨_, _, _, _ | _⟩ | _ | _ | _ | _ <;> rfl

theorem exports_eq : p.exports = p.hostSteps.countP PortStep.isExport := by
  rw [hostSteps, List.countP_filter]
  refine List.countP_congr fun x _ => ?_
  cases x <;> simp [PortStep.isExport, PortStep.isWriters, PortStep.rank]

theorem deferred_eq : p.deferred = p.hostSteps.countP PortStep.isDeferred := by
  rw [hostSteps, List.countP_filter]
  refine List.countP_congr fun x _ => ?_
  cases x <;> simp [PortStep.isDeferred, PortStep.isWriters, PortStep.rank]

variable {p} {q : Port}

theorem hostSteps_perm (h : p.steps.Perm q.steps) : p.hostSteps.Perm q.hostSteps := h.filter _

theorem writerSteps_perm (h : p.steps.Perm q.steps) : p.writerSteps.Perm q.writerSteps := h.filter _

theorem deferred_perm (h : p.hostSteps.Perm q.hostSteps) : p.deferred = q.deferred := by
  rw [deferred_eq, deferred_eq, h.countP_eq]

/-- A deferred reply's step is a PAGE READ's or a tombstone of PAGE DELETE. -/
theorem deferred_zero (h : p.deferred = 0) : p.exports = 0 ∧ p.pageDeletes = [] := by
  rw [deferred_eq, List.countP_eq_zero] at h
  rw [exports_eq, pageDeletes_eq, List.countP_eq_zero, List.filterMap_eq_nil_iff]
  refine ⟨fun x hx he => h x hx ?_, fun x hx => ?_⟩
  · cases x <;> first | rfl | cases he
  · have := h x hx
    rcases x with _ | _ | _ | _ | _ | ⟨_, _, _, _ | _⟩ | _ | _ | _ | _ <;> first | rfl | exact absurd rfl this

/-- The steps with the one in flight first. -/
theorem steps_of_inFlight {x : PortStep} (h : p.inFlight = some x) : p.steps = x :: p.waiting := by
  simp [steps, h]

end Port

/-- A list that holds the same as one of at most one record is that list. -/
theorem eq_of_perm_toList {α : Type} {l : List α} {o : Option α} (h : l.Perm o.toList) : l = o.toList := by
  cases o with
  | none => exact h.eq_nil
  | some a => exact List.perm_singleton.mp h

namespace Store

variable (s : Store)

theorem ask_hostSteps (x : PortStep) :
    (s.ask x).port.hostSteps = s.port.hostSteps ++ if x.isWriters then [] else [x] := by
  rw [Port.hostSteps, ask_steps, List.filter_append]
  cases h : x.isWriters <;> simp [Port.hostSteps, h]

theorem ask_writerSteps (x : PortStep) :
    (s.ask x).port.writerSteps = s.port.writerSteps ++ if x.isWriters then [x] else [] := by
  rw [Port.writerSteps_eq, ask_steps, List.filter_append]
  cases h : x.isWriters <;> simp [Port.writerSteps_eq, h]

variable {s} {x : PortStep}

/-- The steps that are not the writer's, at a step's end. -/
theorem hostSteps_endStep (h : s.port.inFlight = some x) :
    s.port.hostSteps = if x.isWriters then s.endStep.port.hostSteps else x :: s.endStep.port.hostSteps := by
  rw [Port.hostSteps, Port.steps_of_inFlight h, Port.hostSteps, endStep_steps]
  cases hx : x.isWriters <;> simp [hx]

/-- The writer's steps, at a step's end. -/
theorem writerSteps_endStep (h : s.port.inFlight = some x) :
    s.port.writerSteps = if x.isWriters then x :: s.endStep.port.writerSteps else s.endStep.port.writerSteps := by
  rw [Port.writerSteps_eq, Port.steps_of_inFlight h, Port.writerSteps_eq, endStep_steps]
  cases hx : x.isWriters <;> simp [hx]

end Store

end Sys2Proof.Machine
end

section
/-! SUPPORT. The cells being erased or written, known one by one (R135, R147). -/

namespace Sys2Proof.Machine

/-- A cell is being erased or written. -/
def CellState.busy (x : CellState) : Bool := x == .erasing || x == .writing

namespace Store

variable {s t : Store} {c k : Nat} {x y : CellState}

theorem mem_cellsInHand : (k, x) ∈ s.cellsInHand ↔ s.cells[k]? = some x ∧ x.busy = true := by
  simp only [cellsInHand, List.mem_map, List.mem_filter, Prod.exists, List.mem_zipIdx_iff_getElem?, Prod.mk.injEq]
  constructor
  · rintro ⟨a, b, ⟨hget, hbusy⟩, rfl, rfl⟩
    exact ⟨hget, hbusy⟩
  · rintro ⟨hget, hbusy⟩
    exact ⟨x, k, ⟨hget, hbusy⟩, rfl, rfl⟩

theorem cellsInHand_rising (s : Store) : s.cellsInHand.Pairwise fun a b => a.1 < b.1 := by
  have hidx : (s.cells.zipIdx.map Prod.snd).Pairwise (· < ·) := by
    rw [List.zipIdx_map_snd]
    exact List.pairwise_lt_range'
  refine List.pairwise_map.mpr ?_
  exact List.pairwise_map.mp (hidx.sublist (List.filter_sublist.map Prod.snd))

theorem cellsInHand_nodup (s : Store) : s.cellsInHand.Nodup :=
  s.cellsInHand_rising.imp fun {a b} h e => by rw [e] at h; exact lt_irrefl _ h

theorem cellsInHand_eq_nil : s.cellsInHand = [] ↔ ∀ (k : Nat) (x : CellState), s.cells[k]? = some x → x.busy = false := by
  rw [List.eq_nil_iff_forall_not_mem]
  constructor
  · intro h k x hx
    by_contra hb
    exact h (k, x) (mem_cellsInHand.mpr ⟨hx, by simpa using hb⟩)
  · rintro h ⟨k, x⟩ hm
    obtain ⟨hx, hb⟩ := mem_cellsInHand.mp hm
    rw [h k x hx] at hb
    cases hb

/-- One cell is in hand exactly where it alone is erased or written. -/
theorem cellsInHand_eq_singleton :
    s.cellsInHand = [(c, x)] ↔ s.cells[c]? = some x ∧ x.busy = true ∧
      ∀ (k : Nat) (y : CellState), k ≠ c → s.cells[k]? = some y → y.busy = false := by
  constructor
  · intro h
    have hmem : ∀ (k : Nat) (y : CellState), s.cells[k]? = some y ∧ y.busy = true ↔ k = c ∧ y = x := fun k y => by
      rw [← mem_cellsInHand, h]; simp
    obtain ⟨hx, hb⟩ := (hmem c x).mpr ⟨rfl, rfl⟩
    refine ⟨hx, hb, fun k y hk hy => ?_⟩
    by_contra hyb
    exact hk ((hmem k y).mp ⟨hy, by simpa using hyb⟩).1
  · rintro ⟨hx, hb, hother⟩
    refine List.perm_singleton.mp ((List.perm_ext_iff_of_nodup s.cellsInHand_nodup (by simp)).mpr ?_)
    rintro ⟨k, y⟩
    rw [mem_cellsInHand, List.mem_singleton, Prod.mk.injEq]
    constructor
    · rintro ⟨hy, hyb⟩
      have hk : k = c := by
        by_contra hk
        rw [hother k y hk hy] at hyb
        cases hyb
      subst hk
      exact ⟨rfl, Option.some.inj (hy.symm.trans hx)⟩
    · rintro ⟨rfl, rfl⟩
      exact ⟨hx, hb⟩

theorem setCell_getElem? (s : Store) (c k : Nat) (v : CellState) :
    (s.setCell c v).cells[k]? = if c = k then s.cells[k]?.map fun _ => v else s.cells[k]? := by
  show (s.cells.set c v)[k]? = _
  rw [List.getElem?_set]
  split
  · rename_i h
    subst h
    split
    · rename_i hc
      rw [List.getElem?_eq_getElem hc]
      rfl
    · rename_i hc
      rw [List.getElem?_eq_none (Nat.le_of_not_lt hc)]
      rfl
  · rfl

theorem setCell_getElem?_self {v : CellState} (h : s.cells[c]? = some x) : (s.setCell c v).cells[c]? = some v := by
  rw [setCell_getElem?, if_pos rfl, h]
  rfl

theorem setCell_getElem?_other {v : CellState} (h : k ≠ c) : (s.setCell c v).cells[k]? = s.cells[k]? := by
  rw [setCell_getElem?, if_neg (Ne.symm h)]

/-- A cell taken in hand where none was. -/
theorem cellsInHand_taken {v : CellState} (h : s.cellsInHand = []) (hx : s.cells[c]? = some x) (hv : v.busy = true) :
    (s.setCell c v).cellsInHand = [(c, v)] :=
  cellsInHand_eq_singleton.mpr ⟨setCell_getElem?_self hx, hv, fun k y hk hy =>
    cellsInHand_eq_nil.mp h k y (by rwa [setCell_getElem?_other hk] at hy)⟩

/-- The cell in hand changed to another work. -/
theorem cellsInHand_turned {v : CellState} (h : s.cellsInHand = [(c, x)]) (hv : v.busy = true) :
    (s.setCell c v).cellsInHand = [(c, v)] := by
  obtain ⟨hx, -, hother⟩ := cellsInHand_eq_singleton.mp h
  exact cellsInHand_eq_singleton.mpr ⟨setCell_getElem?_self hx, hv, fun k y hk hy =>
    hother k y hk (by rwa [setCell_getElem?_other hk] at hy)⟩

/-- The cell in hand done with. -/
theorem cellsInHand_released {v : CellState} (h : s.cellsInHand = [(c, x)]) (hv : v.busy = false) :
    (s.setCell c v).cellsInHand = [] := by
  obtain ⟨hx, -, hother⟩ := cellsInHand_eq_singleton.mp h
  refine cellsInHand_eq_nil.mpr fun k y hy => ?_
  by_cases hk : k = c
  · subst hk
    rw [setCell_getElem?_self hx] at hy
    exact Option.some.inj hy ▸ hv
  · exact hother k y hk (by rwa [setCell_getElem?_other hk] at hy)

/-- A cell that is not in hand, changed to another state of no work. -/
theorem cellsInHand_idle {v : CellState} (hx : s.cells[c]? = some x) (hb : x.busy = false) (hv : v.busy = false) :
    (s.setCell c v).cellsInHand = s.cellsInHand := by
  have hsame : ∀ (k : Nat) (y : CellState), ((s.setCell c v).cells[k]? = some y ∧ y.busy = true) ↔ (s.cells[k]? = some y ∧ y.busy = true) := by
    intro k y
    by_cases hk : k = c
    · subst hk
      rw [setCell_getElem?_self hx, hx]
      constructor
      · rintro ⟨e, hy⟩
        rw [← Option.some.inj e, hv] at hy
        cases hy
      · rintro ⟨e, hy⟩
        rw [← Option.some.inj e, hb] at hy
        cases hy
    · rw [setCell_getElem?_other hk]
  have hzip : (s.setCell c v).cellsInHand.Perm s.cellsInHand := by
    refine (List.perm_ext_iff_of_nodup (cellsInHand_nodup _) (cellsInHand_nodup _)).mpr ?_
    rintro ⟨k, y⟩
    rw [mem_cellsInHand, mem_cellsInHand]
    exact hsame k y
  exact hzip.eq_of_pairwise (le := fun a b => a.1 < b.1) (fun a b _ _ h1 h2 => absurd h1 (Nat.lt_asymm h2))
    (cellsInHand_rising _) (cellsInHand_rising _)

end Store

end Sys2Proof.Machine
end

section
/-! SUPPORT. What a READY store keeps from one act of a command to the next: the cell table, the page lists and the steps of the
port agree (`Store.Sound`), and the writer, its attempt, its step and the cell in hand agree (`Store.Hand`). Together with what the
writer's work and the port's grant bring about they are the store's law (R135, R147, R154). -/

namespace Sys2Proof.Machine

/-- The cell table, the page lists and the steps of the port agree in READY, but for what a lesson delete has at the port
(R135, R154 to R156). -/
structure Store.Matched (s : Store) : Prop where
  ready : s.state = .ready
  settled : s.Settled
  nodup : s.pageCells.Nodup
  used : ∀ c, c ∈ s.pageCells ↔ s.cells[c]? = some .used
  marks : s.port.tombstones.Nodup
  marked : ∀ t ∈ s.port.tombstones, ∃ l ∈ s.directory, l.id = t.1 ∧ ∃ p ∈ l.pages, p.ordinal = t.2.1 ∧ p.cell = t.2.2
  loads : s.port.recallReads = (s.recallLoad.map (·.cell)).toList
  exports : s.port.exports ≤ 1
  undeleted : ∀ l ∈ s.directory, l.deleting = true → l.id ∉ s.port.pageDeletes

/-- They agree, and a lesson delete has its one tombstone at the port (R155). -/
structure Store.Sound (s : Store) : Prop extends s.Matched where
  deletes : s.port.deletes = (s.deleteWork.map (·.lesson)).toList
  work : ∀ d, s.deleteWork = some d → ∃ l ∈ s.directory, l.id = d.lesson ∧ l.deleting = true

/-- What the writer is at, with its attempt, its step at the port and the cell in hand (R147, R149, R151 to R154). -/
inductive Store.Hand (s : Store) : Prop
  | idle (hw : s.writer = .idle) (ha : s.attempt = none) (hp : s.port.writerSteps = []) (hc : s.cellsInHand = [])
  | erase (a : Attempt) (hw : s.writer = .erase) (ha : s.attempt = some a)
      (hp : s.port.writerSteps = [.saveErase a.cell]) (hc : s.cellsInHand = [(a.cell, .erasing)]) (hq : s.queue ≠ [])
      (hs : a.stamp = none ∧ a.header = []) (ht : 1 ≤ a.tries ∧ a.tries ≤ Config.maxTries)
  | program (a : Attempt) (e : SaveEntry) (rest : List SaveEntry) (hw : s.writer = .program) (ha : s.attempt = some a)
      (hp : s.port.writerSteps = [.saveProgram a.cell]) (hc : s.cellsInHand = [(a.cell, .writing)])
      (hq : s.queue = e :: rest)
      (hflight : s.port.inFlight = some (.saveProgram a.cell) →
        ∃ n, a.stamp = some n ∧ a.header = programHeader e n (s.titleOf e.lesson))
      (hwaits : s.port.inFlight ≠ some (.saveProgram a.cell) → a.stamp = none ∧ a.header = [])
      (ht : 1 ≤ a.tries ∧ a.tries ≤ Config.maxTries)
  | commit (a : Attempt) (hw : s.writer = .commit) (ha : s.attempt = some a)
      (hp : s.port.writerSteps = [.saveCommit a.cell]) (hc : s.cellsInHand = [(a.cell, .writing)]) (hq : s.queue ≠ [])
      (hs : a.stamp ≠ none) (ht : 1 ≤ a.tries ∧ a.tries ≤ Config.maxTries)
  | reclaim (c : Nat) (hw : s.writer = .reclaim) (ha : s.attempt = none)
      (hp : s.port.writerSteps = [.reclaimErase c]) (hc : s.cellsInHand = [(c, .erasing)])
      (hq : s.queue ≠ [] → s.port.inFlight = some (.reclaimErase c))

/-- A READY store between two acts of a command. -/
structure Store.Underway (s : Store) : Prop where
  sound : s.Sound
  hand : s.Hand

/-- Nothing waits at a free port, and an IDLE writer has nothing to save and nothing to reclaim (R148, R152, R154). -/
structure Store.AtRest (s : Store) : Prop where
  port : s.port.inFlight = none → s.port.waiting = []
  writer : s.writer = .idle → s.queue = [] ∧ .dead ∉ s.cells

variable {s t : Store}

/-! ### The store's law in READY -/

theorem Port.reclaimCell_eq_some {p : Port} {c : Nat} : p.reclaimCell = some c ↔ p.writerSteps = [.reclaimErase c] := by
  unfold Port.reclaimCell
  split
  · rename_i d h
    rw [h]
    simp
  · rename_i hno
    exact ⟨nofun, fun h => absurd h (hno c)⟩

theorem Store.Hand.writerLaw (h : s.Hand) (hr : s.writer = .idle → s.queue = [] ∧ .dead ∉ s.cells) : s.WriterLaw := by
  intro _
  unfold Store.WriterAgrees
  cases h with
  | idle hw ha hp hc =>
    rw [hw, ha]
    exact ⟨⟨hp, hc, (hr hw).1, (hr hw).2⟩, nofun⟩
  | erase a hw ha hp hc hq hs ht =>
    rw [hw, ha]
    exact ⟨⟨hp, hc, hq, hs⟩, by simpa using ht⟩
  | program a e rest hw ha hp hc hq hflight hwaits ht =>
    rw [hw, ha]
    refine ⟨⟨hp, hc, ?_⟩, by simpa using ht⟩
    unfold Store.ProgramLaw
    rw [hq]
    dsimp only
    split
    · rename_i hf
      obtain ⟨n, hn, hheader⟩ := hflight hf
      rw [hn]
      simpa using hheader
    · rename_i hf
      exact hwaits hf
  | commit a hw ha hp hc hq hs ht =>
    rw [hw, ha]
    exact ⟨⟨hp, hc, hq, hs⟩, by simpa using ht⟩
  | reclaim c hw ha hp hc hq =>
    rw [hw, ha, Port.reclaimCell_eq_some.mpr hp]
    exact ⟨⟨nofun, hc, hq⟩, nofun⟩

theorem Store.WriterLaw.hand (h : s.WriterLaw) (hr : s.state = .ready) :
    s.Hand ∧ (s.writer = .idle → s.queue = [] ∧ .dead ∉ s.cells) := by
  obtain ⟨hagrees, htries⟩ := h hr
  unfold Store.WriterAgrees at hagrees
  split at hagrees
  · rename_i hw ha
    obtain ⟨hp, hc, hq, hd⟩ := hagrees
    exact ⟨.idle hw ha hp hc, fun _ => ⟨hq, hd⟩⟩
  · rename_i a hw ha
    obtain ⟨hp, hc, hq, hs⟩ := hagrees
    exact ⟨.erase a hw ha hp hc hq hs (htries a (by rw [ha]; exact List.mem_singleton_self a)), fun e => by
      rw [hw] at e; cases e⟩
  · rename_i a hw ha
    obtain ⟨hp, hc, hprogram⟩ := hagrees
    refine ⟨?_, fun e => by rw [hw] at e; cases e⟩
    unfold Store.ProgramLaw at hprogram
    split at hprogram
    · exact hprogram.elim
    · rename_i e rest hq
      refine .program a e rest hw ha hp hc hq (fun hf => ?_) (fun hf => ?_)
        (htries a (by rw [ha]; exact List.mem_singleton_self a))
      · rw [if_pos hf] at hprogram
        obtain ⟨n, hn, hheader⟩ := Option.any_eq_true _ _ |>.mp hprogram
        exact ⟨n, hn, of_decide_eq_true hheader⟩
      · rwa [if_neg hf] at hprogram
  · rename_i a hw ha
    obtain ⟨hp, hc, hq, hs⟩ := hagrees
    exact ⟨.commit a hw ha hp hc hq hs (htries a (by rw [ha]; exact List.mem_singleton_self a)), fun e => by
      rw [hw] at e; cases e⟩
  · rename_i hw ha
    obtain ⟨hcell, hc, hq⟩ := hagrees
    obtain ⟨c, hcell⟩ := Option.ne_none_iff_exists'.mp hcell
    rw [hcell] at hc hq
    exact ⟨.reclaim c hw ha (Port.reclaimCell_eq_some.mp hcell) hc hq, fun e => by rw [hw] at e; cases e⟩
  · exact hagrees.elim

/-- The law of a READY store: sound, the writer in agreement, and at rest. -/
theorem Store.Law.underway (h : s.Law) (hr : s.state = .ready) : s.Underway ∧ s.AtRest := by
  obtain ⟨hbook, hcell, ⟨hfree, -, -, hrecall, hdeletes, hexports, hwork, hundeleted⟩, hwriter⟩ := h
  obtain ⟨hhand, hidle⟩ := hwriter.hand hr
  unfold Store.CellLaw at hcell
  rw [hr] at hcell
  obtain ⟨hnodup, hpages, hused, hmarks, hmarked⟩ := hcell
  refine ⟨⟨⟨⟨hr, hbook.settled_of_ready hr, hnodup, fun c => ⟨hpages c, fun hc => hused c ?_ hc⟩, hmarks, hmarked, hrecall,
    hexports, hundeleted⟩, hdeletes, fun d hd => hwork d (by rw [hd]; exact List.mem_singleton_self d)⟩, hhand⟩,
    ⟨hfree, hidle⟩⟩
  obtain ⟨hlt, -⟩ := List.getElem?_eq_some_iff.mp hc
  exact List.mem_range.mpr hlt

theorem Store.Underway.law (h : s.Underway) (hrest : s.AtRest) : s.Law := by
  obtain ⟨hs, hhand⟩ := h
  refine ⟨hs.settled.bookLaw, ?_, ⟨hrest.port, fun e => absurd hs.ready e, fun e => ?_, hs.loads, hs.deletes, hs.exports,
    fun d hd => hs.work d (Option.mem_toList.mp hd), hs.undeleted⟩, hhand.writerLaw hrest.writer⟩
  · unfold Store.CellLaw
    rw [hs.ready]
    exact ⟨hs.nodup, fun c => (hs.used c).mp, fun k _ => (hs.used k).mpr, hs.marks, hs.marked⟩
  · rw [hs.ready] at e
    rcases e with e | e <;> cases e

/-! ### Page lists -/

/-- The cells of a lesson's pages. -/
def Lesson.cells (l : Lesson) : List Nat := l.pages.map (·.cell)

theorem Store.pageCells_eq (s : Store) : s.pageCells = s.directory.flatMap Lesson.cells := rfl

theorem Store.mem_pageCells {c : Nat} : c ∈ s.pageCells ↔ ∃ l ∈ s.directory, ∃ p ∈ l.pages, p.cell = c := by
  simp [Store.pageCells]

/-- A cell is on one page of one lesson. -/
theorem Store.Sound.page_eq (h : s.Sound) {l m : Lesson} {p q : PageRecord} (hl : l ∈ s.directory) (hm : m ∈ s.directory)
    (hp : p ∈ l.pages) (hq : q ∈ m.pages) (e : p.cell = q.cell) : l = m ∧ p = q := by
  obtain ⟨hone, hdisjoint⟩ := List.nodup_flatMap.mp h.nodup
  have hlm : l = m := by
    by_contra hne
    have hsymm : Std.Symm (Function.onFun List.Disjoint fun l : Lesson => l.pages.map (·.cell)) := ⟨fun _ _ h => h.symm⟩
    exact hdisjoint.forall hl hm hne (List.mem_map.mpr ⟨p, hp, e⟩) (List.mem_map_of_mem hq)
  subst hlm
  exact ⟨rfl, List.inj_on_of_nodup_map (hone l hl) hp hq e⟩

/-- The lesson under delete still has the page that its tombstone names (R155). -/
theorem Store.Sound.underDelete_pages (h : s.Sound) {l : Lesson} (hl : l ∈ s.directory) (hd : l.deleting = true) :
    l.pages ≠ [] := by
  have hwork := ((h.settled.listed.lesson l hl).deleting hd).2.2
  have hdel : l.id ∈ s.port.deletes := by
    rw [h.deletes, hwork]
    exact List.mem_singleton_self _
  rw [Port.deletes_eq, List.mem_filterMap] at hdel
  obtain ⟨x, hx, hxl⟩ := hdel
  obtain ⟨o, c, rfl⟩ : ∃ o c, x = .tombstone l.id o c none := by
    rcases x with _ | _ | _ | _ | _ | ⟨_, o, c, _ | _⟩ | _ | _ | _ | _ <;> cases hxl
    exact ⟨o, c, rfl⟩
  have hmark : (l.id, o, c) ∈ s.port.tombstones := by
    rw [Port.tombstones_eq]
    exact List.mem_filterMap.mpr ⟨_, hx, rfl⟩
  obtain ⟨m, hm, e, p, hp, -⟩ := h.marked _ hmark
  rw [← h.settled.listed.lesson_eq hm hl e]
  exact List.ne_nil_of_mem hp

/-! ### What keeps the cell table, the page lists and the port in agreement -/

/-- Lessons with pages stay, with their pages and their delete, and no other lesson is under delete. -/
structure Store.Retains (s t : Store) : Prop where
  stays : ∀ l ∈ s.directory, l.pages ≠ [] →
    ∃ m ∈ t.directory, m.id = l.id ∧ m.deleting = l.deleting ∧ ∀ p ∈ l.pages, p ∈ m.pages
  deleting : ∀ m ∈ t.directory, m.deleting = true → ∃ l ∈ s.directory, l.id = m.id ∧ l.deleting = true

theorem Store.Retains.of_eq (h : t.directory = s.directory) : s.Retains t := by
  refine ⟨fun l hl _ => ⟨l, h ▸ hl, rfl, rfl, fun _ => id⟩, fun m hm hd => ⟨m, h ▸ hm, rfl, hd⟩⟩

/-- Lessons without pages may go. -/
theorem Store.Retains.of_filter {p : Lesson → Bool} (h : t.directory = s.directory.filter p)
    (hp : ∀ l ∈ s.directory, p l = false → l.pages = []) : s.Retains t := by
  refine ⟨fun l hl hne => ⟨l, ?_, rfl, rfl, fun _ => id⟩, fun m hm hd => ⟨m, ?_, rfl, hd⟩⟩
  · rw [h, List.mem_filter]
    refine ⟨hl, ?_⟩
    by_contra hno
    exact hne (hp l hl (by simpa using hno))
  · rw [h] at hm
    exact (List.mem_filter.mp hm).1

/-- Lessons may change but for their ids, their pages and their delete. -/
theorem Store.Retains.of_map {f : Lesson → Lesson} (h : t.directory = s.directory.map f) (hid : ∀ l, (f l).id = l.id)
    (hdel : ∀ l, (f l).deleting = l.deleting) (hp : ∀ l, ∀ p ∈ l.pages, p ∈ (f l).pages) : s.Retains t := by
  refine ⟨fun l hl _ => ⟨f l, by rw [h]; exact List.mem_map_of_mem hl, hid l, hdel l, hp l⟩, fun m hm hd => ?_⟩
  rw [h] at hm
  obtain ⟨l, hl, rfl⟩ := List.mem_map.mp hm
  exact ⟨l, hl, (hid l).symm, (hdel l).symm.trans hd⟩

theorem Store.Matched.changed (h : s.Matched) (hbook : t.Settled) (hs : t.state = s.state) (hnodup : t.pageCells.Nodup)
    (hused : ∀ c, c ∈ t.pageCells ↔ t.cells[c]? = some .used) (hp : t.port.hostSteps.Perm s.port.hostSteps)
    (hl : t.recallLoad = s.recallLoad) (hd : s.Retains t) : t.Matched where
  ready := hs.trans h.ready
  settled := hbook
  nodup := hnodup
  used := hused
  marks := by
    rw [Port.tombstones_eq, (hp.filterMap _).nodup_iff, ← Port.tombstones_eq]
    exact h.marks
  marked x hx := by
    rw [Port.tombstones_eq, (hp.filterMap _).mem_iff, ← Port.tombstones_eq] at hx
    obtain ⟨l, hl, e, p, hpage, hpe⟩ := h.marked x hx
    obtain ⟨m, hm, hml, -, hpages⟩ := hd.stays l hl (List.ne_nil_of_mem hpage)
    exact ⟨m, hm, hml.trans e, p, hpages p hpage, hpe⟩
  loads := by
    rw [hl, Port.recallReads_eq]
    refine eq_of_perm_toList ((hp.filterMap _).trans ?_)
    rw [← Port.recallReads_eq, h.loads]
  exports := by
    rw [Port.exports_eq, hp.countP_eq, ← Port.exports_eq]
    exact h.exports
  undeleted m hm hdel := by
    obtain ⟨l, hl, e, hld⟩ := hd.deleting m hm hdel
    rw [Port.pageDeletes_eq, (hp.filterMap _).mem_iff, ← Port.pageDeletes_eq, ← e]
    exact h.undeleted l hl hld

theorem Store.Sound.changed (h : s.Sound) (hbook : t.Settled) (hs : t.state = s.state) (hnodup : t.pageCells.Nodup)
    (hused : ∀ c, c ∈ t.pageCells ↔ t.cells[c]? = some .used) (hp : t.port.hostSteps.Perm s.port.hostSteps)
    (hl : t.recallLoad = s.recallLoad) (hw : t.deleteWork = s.deleteWork) (hd : s.Retains t) : t.Sound where
  toMatched := h.toMatched.changed hbook hs hnodup hused hp hl hd
  deletes := by
    rw [hw, Port.deletes_eq]
    refine eq_of_perm_toList ((hp.filterMap _).trans ?_)
    rw [← Port.deletes_eq, h.deletes]
  work d hwd := by
    obtain ⟨l, hl, e, hdel⟩ := h.work d (hw ▸ hwd)
    obtain ⟨m, hm, hml, hmd, -⟩ := hd.stays l hl (h.underDelete_pages hl hdel)
    exact ⟨m, hm, hml.trans e, hmd.trans hdel⟩

/-- Where no page list and no USED cell changes. -/
theorem Store.Sound.kept (h : s.Sound) (hbook : t.Settled) (hs : t.state = s.state)
    (hpages : t.pageCells.Perm s.pageCells) (hused : ∀ c : Nat, t.cells[c]? = some .used ↔ s.cells[c]? = some .used)
    (hp : t.port.hostSteps.Perm s.port.hostSteps) (hl : t.recallLoad = s.recallLoad) (hw : t.deleteWork = s.deleteWork)
    (hd : s.Retains t) : t.Sound :=
  h.changed hbook hs (hpages.nodup_iff.mpr h.nodup)
    (fun c => hpages.mem_iff.trans ((h.used c).trans (hused c).symm)) hp hl hw hd

/-- Where the directory stays, no USED cell changes and the other steps stay. -/
theorem Store.Sound.same (h : s.Sound) (hbook : t.Settled) (hs : t.state = s.state) (hd : t.directory = s.directory)
    (hused : ∀ c : Nat, t.cells[c]? = some .used ↔ s.cells[c]? = some .used) (hp : t.port.hostSteps.Perm s.port.hostSteps)
    (hl : t.recallLoad = s.recallLoad) (hw : t.deleteWork = s.deleteWork) : t.Sound :=
  h.kept hbook hs (by rw [Store.pageCells_eq, Store.pageCells_eq, hd]) hused hp hl hw (.of_eq hd)

/-- A cell that neither was USED nor becomes it leaves the USED cells as they are. -/
theorem Store.setCell_used {c : Nat} {x v : CellState} (hx : s.cells[c]? = some x) (hxu : x ≠ .used) (hv : v ≠ .used)
    (k : Nat) : (s.setCell c v).cells[k]? = some .used ↔ s.cells[k]? = some .used := by
  by_cases hk : k = c
  · subst hk
    rw [Store.setCell_getElem?_self hx, hx]
    simp [hxu, hv]
  · rw [Store.setCell_getElem?_other hk]

theorem Store.Sound.setCell (h : s.Sound) {c : Nat} {x v : CellState} (hx : s.cells[c]? = some x) (hxu : x ≠ .used)
    (hv : v ≠ .used) : (s.setCell c v).Sound :=
  h.same (h.settled.setCell c v) rfl rfl (Store.setCell_used hx hxu hv) (.refl _) rfl rfl

/-- Lessons without pages taken out. -/
theorem filter_cells {p : Lesson → Bool} {d : List Lesson} (h : ∀ l ∈ d, p l = false → l.pages = []) :
    (d.filter p).flatMap Lesson.cells = d.flatMap Lesson.cells := by
  induction d with
  | nil => rfl
  | cons l d ih =>
    have ih := ih fun m hm => h m (List.mem_cons_of_mem _ hm)
    cases hp : p l with
    | true => rw [List.filter_cons_of_pos hp, List.flatMap_cons, List.flatMap_cons, ih]
    | false =>
      have : l.cells = [] := by rw [Lesson.cells, h l List.mem_cons_self hp]; rfl
      rw [List.filter_cons_of_neg (by simp [hp]), List.flatMap_cons, ih, this, List.nil_append]

/-- A lesson's entry without pages gone (R142). -/
theorem Store.Sound.prune (h : s.Sound) (id : Nat) : (s.prune id).Sound := by
  have hempty : ∀ l ∈ s.directory, (!(l.id == id && s.removable l)) = false → l.pages = [] := fun l _ hl => by
    simp only [Bool.not_eq_false', Bool.and_eq_true, Store.removable] at hl
    exact List.isEmpty_iff.mp hl.2.1.2
  refine h.kept (h.settled.prune id) rfl ?_ (fun _ => .rfl) (.refl _) rfl rfl (.of_filter rfl hempty)
  exact .of_eq (filter_cells hempty)

/-! ### What keeps the writer in agreement -/

theorem Store.Hand.congr (h : s.Hand) (hw : t.writer = s.writer) (ha : t.attempt = s.attempt) (hq : t.queue = s.queue)
    (hp : t.port.writerSteps = s.port.writerSteps) (hc : t.cellsInHand = s.cellsInHand)
    (hf : ∀ x, x.isWriters = true → (t.port.inFlight = some x ↔ s.port.inFlight = some x))
    (ht : ∀ e ∈ s.queue, t.titleOf e.lesson = s.titleOf e.lesson) : t.Hand := by
  cases h with
  | idle hw' ha' hp' hc' => exact .idle (hw.trans hw') (ha.trans ha') (hp.trans hp') (hc.trans hc')
  | erase a hw' ha' hp' hc' hq' hs' ht' =>
    exact .erase a (hw.trans hw') (ha.trans ha') (hp.trans hp') (hc.trans hc') (hq ▸ hq') hs' ht'
  | program a e rest hw' ha' hp' hc' hq' hflight hwaits ht' =>
    refine .program a e rest (hw.trans hw') (ha.trans ha') (hp.trans hp') (hc.trans hc') (hq.trans hq') ?_ ?_ ht'
    · intro hfl
      rw [ht e (by rw [hq']; exact List.mem_cons_self)]
      exact hflight ((hf _ rfl).mp hfl)
    · exact fun hfl => hwaits fun hfl' => hfl ((hf _ rfl).mpr hfl')
  | commit a hw' ha' hp' hc' hq' hs' ht' =>
    exact .commit a (hw.trans hw') (ha.trans ha') (hp.trans hp') (hc.trans hc') (hq ▸ hq') hs' ht'
  | reclaim c hw' ha' hp' hc' hq' =>
    exact .reclaim c (hw.trans hw') (ha.trans ha') (hp.trans hp') (hc.trans hc') fun h =>
      (hf _ rfl).mpr (hq' (hq ▸ h))

/-- Where the writer, the queue, the cell table and the port stay, and the titles of the lessons queued for. -/
theorem Store.Hand.same (h : s.Hand) (hw : t.writer = s.writer) (ha : t.attempt = s.attempt) (hq : t.queue = s.queue)
    (hc : t.cells = s.cells) (hp : t.port = s.port) (ht : ∀ e ∈ s.queue, t.titleOf e.lesson = s.titleOf e.lesson) :
    t.Hand :=
  h.congr hw ha hq (by rw [hp]) (by rw [Store.cellsInHand, hc]; rfl) (fun _ _ => by rw [hp]) ht

end Sys2Proof.Machine
end

section
/-! SUPPORT. The writer's work and the port's grant bring a READY store under way to rest, and with it to its law (R148, R152,
R154). -/

namespace Sys2Proof.Machine

variable {s t : Store}

/-- A READY store whose writer has no step at the port and no cell in hand, whatever its state says. -/
structure Store.Loose (s : Store) : Prop where
  sound : s.Sound
  steps : s.port.writerSteps = []
  cells : s.cellsInHand = []

/-! ### Entries that leave the queue, cells taken -/

/-- The head entry dropped leaves the writer with nothing (R147). -/
theorem Store.Loose.dropHead (h : s.Loose) (hq : s.queue ≠ []) :
    s.dropHead.Underway ∧ s.dropHead.queue.length + 1 = s.queue.length := by
  obtain ⟨e, rest, hq⟩ := List.exists_cons_of_ne_nil hq
  rw [Store.dropHead_cons hq]
  have hsound : Store.Sound { s with queue := rest, writer := .idle, attempt := none } :=
    h.sound.same (h.sound.settled.unqueued hq) rfl rfl (fun _ => .rfl) (.refl _) rfl rfl
  refine ⟨⟨hsound.prune _, .idle rfl rfl h.steps h.cells⟩, ?_⟩
  rw [hq]
  rfl

theorem PortStep.isWriters_take (cell : Nat) (erased : Bool) :
    PortStep.isWriters (if erased then .saveProgram cell else .saveErase cell) = true := by cases erased <;> rfl

/-- A cell taken for the head entry is the one in hand (R148). -/
theorem Store.Loose.takeCell (h : s.Loose) (hq : s.queue ≠ []) {c tries : Nat} {erased : Bool}
    (hc : s.cells[c]? = some (if erased then .erased else .dead)) (ht : tries < Config.maxTries) :
    (s.takeCell c tries erased).Underway := by
  obtain ⟨e, rest, hq⟩ := List.exists_cons_of_ne_nil hq
  have hxu : (if erased then CellState.erased else .dead) ≠ .used := by cases erased <;> decide
  have hvu : (if erased then CellState.writing else .erasing) ≠ .used := by cases erased <;> decide
  have hsteps := Store.ask_writerSteps { s.setCell c (if erased then .writing else .erasing) with
      writer := if erased then .program else .erase, attempt := some ⟨c, tries + 1, none, []⟩ }
    (if erased then .saveProgram c else .saveErase c)
  have hhost := Store.ask_hostSteps { s.setCell c (if erased then .writing else .erasing) with
      writer := if erased then .program else .erase, attempt := some ⟨c, tries + 1, none, []⟩ }
    (if erased then .saveProgram c else .saveErase c)
  rw [PortStep.isWriters_take] at hsteps hhost
  have hsteps : (s.takeCell c tries erased).port.writerSteps = [if erased then .saveProgram c else .saveErase c] :=
    hsteps.trans (congrArg (· ++ _) h.steps)
  have hhand : (s.takeCell c tries erased).cellsInHand = [(c, if erased then .writing else .erasing)] :=
    Store.cellsInHand_taken (v := if erased then .writing else .erasing) h.cells hc (by cases erased <;> rfl)
  have htries : 1 ≤ tries + 1 ∧ tries + 1 ≤ Config.maxTries := ⟨Nat.succ_pos _, ht⟩
  refine ⟨h.sound.same (h.sound.settled.takeCell c tries erased) rfl rfl (Store.setCell_used hc hxu hvu) ?_ rfl rfl, ?_⟩
  · exact .of_eq (hhost.trans (List.append_nil _))
  · cases erased with
    | true =>
      have hfree : s.port.inFlight ≠ some (.saveProgram c) := fun hf => by
        have := h.steps
        rw [Store.writerSteps_endStep hf] at this
        cases this
      exact .program ⟨c, tries + 1, none, []⟩ e rest rfl rfl hsteps hhand hq (fun hf => absurd hf hfree)
        (fun _ => ⟨rfl, rfl⟩) htries
    | false =>
      exact .erase ⟨c, tries + 1, none, []⟩ rfl rfl hsteps hhand (by show s.queue ≠ []; simp [hq]) ⟨rfl, rfl⟩ htries

/-- The choice of a cell drops the head entry or leaves a writer at work (R148). -/
theorem Store.Loose.chooseCell (h : s.Loose) (hq : s.queue ≠ []) {tries : Nat} (ht : tries < Config.maxTries) :
    (s.chooseCell tries).Underway ∧
      ((s.chooseCell tries).writer = .idle → (s.chooseCell tries).queue.length + 1 = s.queue.length) := by
  rcases s.chooseCell_cases tries with e | ⟨c, erased, hc, e⟩ <;> rw [e]
  · exact ⟨(h.dropHead hq).1, fun _ => (h.dropHead hq).2⟩
  · refine ⟨h.takeCell hq hc ht, fun hw => ?_⟩
    cases erased <;> cases hw

/-! ### The writer's work -/

/-- An IDLE writer has nothing at the port and nothing in hand. -/
theorem Store.Underway.loose (h : s.Underway) (hw : s.writer = .idle) : s.Loose := by
  refine ⟨h.sound, ?_, ?_⟩ <;> cases h.hand with
  | idle _ _ hp hc => assumption
  | erase _ hw' => rw [hw] at hw'; cases hw'
  | program _ _ _ hw' => rw [hw] at hw'; cases hw'
  | commit _ hw' => rw [hw] at hw'; cases hw'
  | reclaim _ hw' => rw [hw] at hw'; cases hw'

/-- The saves begun leave the writer at work, or nothing queued (R148). -/
theorem Store.Underway.beginSaves (h : s.Underway) {n : Nat} (hn : s.writer = .idle → s.queue.length ≤ n) :
    (Store.beginSaves n s).Underway ∧ ((Store.beginSaves n s).writer = .idle → (Store.beginSaves n s).queue = []) := by
  induction n generalizing s with
  | zero => exact ⟨h, fun hw => List.length_eq_zero_iff.mp (Nat.le_zero.mp (hn hw))⟩
  | succ n ih =>
    unfold Store.beginSaves Store.writerFree
    split
    · rename_i hfree
      simp only [Bool.and_eq_true, beq_iff_eq, Bool.not_eq_true', List.isEmpty_eq_false_iff] at hfree
      obtain ⟨⟨-, hw⟩, hq⟩ := hfree
      obtain ⟨hchosen, hless⟩ := (h.loose hw).chooseCell hq (tries := 0) (by decide)
      refine ih hchosen fun hw' => ?_
      have := hless hw'
      have := hn hw
      omega
    · rename_i hfree
      refine ⟨h, fun hw => ?_⟩
      simpa [h.sound.ready, hw] using hfree

/-- Reclaim takes a DEAD cell, or there is none (R152). -/
theorem Store.Underway.beginReclaim (h : s.Underway) (hq : s.writer = .idle → s.queue = []) :
    s.beginReclaim.Underway ∧ (s.beginReclaim.writer = .idle → s.beginReclaim.queue = [] ∧ .dead ∉ s.beginReclaim.cells) := by
  rcases s.beginReclaim_cases with ⟨e, hnone⟩ | ⟨c, hr, hw, hempty, hc, e⟩
  · rw [e]
    exact ⟨h, fun hw => ⟨hq hw, hnone h.sound.ready hw (hq hw)⟩⟩
  · have hbook := h.sound.settled.beginReclaim
    rw [e] at hbook ⊢
    have hloose := h.loose hw
    have hsteps := Store.ask_writerSteps { s.setCell c .erasing with writer := .reclaim } (.reclaimErase c)
    refine ⟨⟨h.sound.same hbook rfl rfl (Store.setCell_used hc (by decide) (by decide)) ?_ rfl rfl, ?_⟩, nofun⟩
    · exact .of_eq ((Store.ask_hostSteps _ _).trans (List.append_nil _))
    · refine .reclaim c rfl ?_ (hsteps.trans (congrArg (· ++ _) hloose.steps))
        (Store.cellsInHand_taken (v := .erasing) hloose.cells hc rfl) fun hne => absurd hempty hne
      cases h.hand with
      | idle _ ha => exact ha
      | erase _ hw' => rw [hw] at hw'; cases hw'
      | program _ _ _ hw' => rw [hw] at hw'; cases hw'
      | commit _ hw' => rw [hw] at hw'; cases hw'
      | reclaim _ hw' => rw [hw] at hw'; cases hw'

theorem Store.Underway.runWriter (h : s.Underway) :
    s.runWriter.Underway ∧ (s.runWriter.writer = .idle → s.runWriter.queue = [] ∧ .dead ∉ s.runWriter.cells) := by
  obtain ⟨hsaves, hempty⟩ := h.beginSaves (n := s.queue.length) fun _ => le_refl _
  exact hsaves.beginReclaim hempty

/-! ### The port's grant -/

/-- At most one of the writer's steps is at the port, so its list stands under a change of order. -/
theorem Store.Hand.steps_le_one (h : s.Hand) : s.port.writerSteps.length ≤ 1 := by
  cases h <;> simp_all

theorem eq_of_perm_le_one {α : Type} {l m : List α} (h : l.Perm m) (hm : m.length ≤ 1) : l = m := by
  match m, hm with
  | [], _ => exact h.eq_nil
  | [a], _ => exact List.perm_singleton.mp h

theorem Store.Hand.granted_steps (h : s.Hand) : s.port.granted.writerSteps = s.port.writerSteps :=
  eq_of_perm_le_one (Port.writerSteps_perm s.port.granted_perm) h.steps_le_one

/-- The writer waits with its step while the port is free. -/
theorem Store.Hand.granted (h : s.Hand) {x : PortStep} (hf : s.port.inFlight = none)
    (hg : s.port.granted.inFlight = some x) (hx : ∀ c, x ≠ .saveProgram c) :
    Store.Hand { s with port := s.port.granted } := by
  have hsteps := h.granted_steps
  cases h with
  | idle hw ha hp hc => exact .idle hw ha (hsteps.trans hp) hc
  | erase a hw ha hp hc hq hs ht => exact .erase a hw ha (hsteps.trans hp) hc hq hs ht
  | program a e rest hw ha hp hc hq hflight hwaits ht =>
    refine .program a e rest hw ha (hsteps.trans hp) hc hq (fun hfl => ?_) (fun _ => ?_) ht
    · exact absurd (Option.some.inj (hg.symm.trans hfl)) (hx a.cell)
    · exact hwaits (by rw [hf]; exact nofun)
  | commit a hw ha hp hc hq hs ht => exact .commit a hw ha (hsteps.trans hp) hc hq hs ht
  | reclaim c hw ha hp hc hq =>
    refine .reclaim c hw ha (hsteps.trans hp) hc fun hne => ?_
    have := hq hne
    rw [hf] at this
    cases this

/-- The grant of a program gives the attempt its stamp and its header (R149). -/
theorem Store.Hand.grantProgram (h : s.Hand) {c : Nat} (hx : .saveProgram c ∈ s.port.waiting)
    (hg : s.port.granted.inFlight = some (.saveProgram c)) :
    Store.Hand (Store.grantProgram { s with port := s.port.granted }) := by
  have hsteps := h.granted_steps
  have hmem : PortStep.saveProgram c ∈ s.port.writerSteps :=
    List.mem_filter.mpr ⟨Port.mem_steps.mpr (.inr hx), rfl⟩
  cases h with
  | program a e rest hw ha hp hc hq hflight hwaits ht =>
    rw [hp, List.mem_singleton] at hmem
    cases hmem
    refine .program { a with stamp := some s.stamp, header := programHeader e s.stamp (s.titleOf e.lesson) } e rest hw
      ?_ (hsteps.trans hp) hc hq (fun _ => ⟨s.stamp, rfl, rfl⟩) (fun hno => absurd hg hno) ht
    simp only [Store.grantProgram, ha, hq, Option.map_some]
    rfl
  | idle _ _ hp => rw [hp] at hmem; cases hmem
  | erase a _ _ hp => rw [hp, List.mem_singleton] at hmem; cases hmem
  | commit a _ _ hp => rw [hp, List.mem_singleton] at hmem; cases hmem
  | reclaim d _ _ hp => rw [hp, List.mem_singleton] at hmem; cases hmem

/-- A store under way is at rest at the port once the arbiter has acted (R154). -/
theorem Store.Underway.arbitrate (h : s.Underway) :
    s.arbitrate.Underway ∧ (s.arbitrate.port.inFlight = none → s.arbitrate.port.waiting = []) := by
  have hbook := h.sound.settled.arbitrate
  have hperm : s.arbitrate.port.hostSteps.Perm s.port.hostSteps := by
    rw [Store.arbitrate_port]
    exact Port.hostSteps_perm s.port.granted_perm
  have hsound : s.arbitrate.Sound := by
    obtain ⟨port, stamp, attempt, e⟩ := s.arbitrate_frame
    rw [e] at hbook hperm ⊢
    exact h.sound.same hbook rfl rfl (fun _ => .rfl) hperm rfl rfl
  rcases s.arbitrate_cases with ⟨e, hrest⟩ | ⟨x, hf, hx, hg, hgrant⟩
  · rw [e]
    exact ⟨h, hrest⟩
  · have hflight : s.port.granted.inFlight = some x := by rw [hg]
    refine ⟨⟨hsound, ?_⟩, fun hnone => ?_⟩
    · rcases hgrant with ⟨hno, e⟩ | ⟨c, rfl, e⟩ <;> rw [e]
      · exact h.hand.granted hf hflight hno
      · exact h.hand.grantProgram hx hflight
    · rw [Store.arbitrate_port, hflight] at hnone
      cases hnone

/-- The grant leaves what the writer has to do. -/
theorem Store.arbitrate_writer (s : Store) : s.arbitrate.writer = s.writer ∧ s.arbitrate.queue = s.queue ∧
    s.arbitrate.cells = s.cells ∧ s.arbitrate.state = s.state := by
  obtain ⟨port, stamp, attempt, e⟩ := s.arbitrate_frame
  rw [e]
  exact ⟨rfl, rfl, rfl, rfl⟩

/-- A store whose writer is at rest is lawful once the arbiter has acted. -/
theorem Store.Underway.arbitrate_law (h : s.Underway) (hw : s.writer = .idle → s.queue = [] ∧ .dead ∉ s.cells) :
    s.arbitrate.Law := by
  obtain ⟨hunder, hport⟩ := h.arbitrate
  obtain ⟨hwriter, hqueue, hcells, -⟩ := s.arbitrate_writer
  exact hunder.law ⟨hport, by rw [hwriter, hqueue, hcells]; exact hw⟩

/-- A store under way is lawful after the writer's work and the port's grant. -/
theorem Store.Underway.afterStep_law (h : s.Underway) : s.afterStep.Law :=
  h.runWriter.1.arbitrate_law h.runWriter.2

/-! ### The other steps at the port stay -/

theorem Store.dropHead_port (s : Store) : s.dropHead.port = s.port := by
  unfold Store.dropHead
  split <;> rfl

theorem Store.takeCell_hostSteps (s : Store) (c tries : Nat) (erased : Bool) :
    (s.takeCell c tries erased).port.hostSteps = s.port.hostSteps := by
  refine (Store.ask_hostSteps _ _).trans ?_
  rw [PortStep.isWriters_take]
  exact List.append_nil _

theorem Store.chooseCell_hostSteps (s : Store) (tries : Nat) :
    (s.chooseCell tries).port.hostSteps = s.port.hostSteps := by
  rcases s.chooseCell_cases tries with e | ⟨c, erased, -, e⟩ <;> rw [e]
  · rw [s.dropHead_port]
  · exact s.takeCell_hostSteps c tries erased

theorem Store.runWriter_hostSteps (s : Store) : s.runWriter.port.hostSteps = s.port.hostSteps := by
  have hsaves : ∀ (n : Nat) (s : Store), (Store.beginSaves n s).port.hostSteps = s.port.hostSteps := by
    intro n
    induction n with
    | zero => exact fun _ => rfl
    | succ n ih =>
      intro s
      unfold Store.beginSaves
      split
      · rw [ih, Store.chooseCell_hostSteps]
      · rfl
  refine Eq.trans ?_ (hsaves s.queue.length s)
  rcases (Store.beginSaves s.queue.length s).beginReclaim_cases with ⟨e, -⟩ | ⟨c, -, -, -, -, e⟩
  · rw [Store.runWriter, e]
  · rw [Store.runWriter, e]
    exact (Store.ask_hostSteps _ _).trans (List.append_nil _)

/-- The grant leaves the deferred replies as they are (R169). -/
@[simp] theorem Store.arbitrate_deferred (s : Store) : s.arbitrate.port.deferred = s.port.deferred := by
  rw [Store.arbitrate_port]
  exact Port.deferred_perm (Port.hostSteps_perm s.port.granted_perm)

@[simp] theorem Store.afterStep_deferred (s : Store) : s.afterStep.port.deferred = s.port.deferred := by
  rw [Store.afterStep, Store.arbitrate_deferred, Port.deferred_eq, Port.deferred_eq, Store.runWriter_hostSteps]

end Sys2Proof.Machine
end

section
/-! SUPPORT. The books under a mount, a format, an unmount and the lesson requests (R134 to R145, R155). -/

namespace Sys2Proof.Machine

variable {s t : Store}

/-- Where nothing is kept of a scan. -/
theorem Store.ScanLaw.of_nil (h : s.scan = []) : s.ScanLaw := by
  unfold Store.ScanLaw
  rw [h]
  exact ⟨nofun, .nil⟩

/-! ### Headers read -/

/-- An erased header does not begin with the magic (R137, R194). -/
theorem headerPasses_of_erased {h : List Byte} (he : headerErased h = true) : headerPasses h = false := by
  have h0 : headerByte h 0 = 0xFF := by
    have := List.all_eq_true.mp he 0 (by decide)
    simpa using this
  have hmagic : headerSound h = false := by
    rw [headerSound, Bool.and_eq_false_iff]
    refine .inl ?_
    rw [List.all_eq_false]
    exact ⟨0, by decide, by rw [h0]; decide⟩
  simp [headerPasses, hmagic]

/-- A header read leaves its cell ERASED, USED, DEAD or BAD (R137). -/
theorem classify_state (h : Option (List Byte)) :
    (classify h).1 = .erased ∨ (classify h).1 = .used ∨ (classify h).1 = .dead ∨ (classify h).1 = .bad := by
  unfold classify
  cases h with
  | none => simp
  | some b => dsimp only; split <;> (try split) <;> (try split) <;> (try split) <;> simp

/-- A header is kept as a candidate exactly where its cell is USED (R137). -/
theorem classify_used (h : Option (List Byte)) (cell : Nat) :
    (classify h).1 = .used ↔ ∃ x ∈ (h.bind (scannedHeader cell)).toList, x.candidate = true := by
  cases h with
  | none => simp [classify]
  | some b =>
    simp only [classify, Option.bind_some, scannedHeader]
    cases he : headerErased b with
    | true => simp [headerPasses_of_erased he]
    | false =>
      cases headerPasses b <;> cases headerCommitted b <;> cases headerTombstoned b <;> simp

/-- A header kept is of its cell, and in range (R137). -/
theorem scannedHeader_range {h : Option (List Byte)} {cell : Nat} {x : ScannedHeader}
    (hx : x ∈ (h.bind (scannedHeader cell)).toList) :
    x.cell = cell ∧ 1 ≤ x.lesson ∧ x.lesson ≤ 64 ∧ 1 ≤ x.ordinal ∧ x.ordinal ≤ 255 ∧ x.title.length ≤ 24 := by
  cases h with
  | none => simp at hx
  | some b =>
    simp only [Option.bind_some, Option.mem_toList, scannedHeader] at hx
    split at hx
    · rename_i hp
      cases hx
      simp only [headerPasses, Bool.and_eq_true, decide_eq_true_eq] at hp
      obtain ⟨⟨-, hl⟩, ho⟩ := hp
      exact ⟨rfl, hl.1, hl.2, ho.1, ho.2, by simp [headerTitle]⟩
    · cases hx

/-! ### What a mount or format has of books -/

/-- What the books say of a store that mounts or formats. -/
structure Store.Reading (s : Store) : Prop where
  waiting : ∀ x ∈ s.port.waiting, x.rank ≠ 0
  directory : s.directory = []
  queue : s.queue = []
  scan : s.ScanLaw

theorem Store.Reading.listed (h : s.Reading) : s.Listed := .of_nil h.directory h.queue

theorem Store.BookLaw.reading (h : s.BookLaw) (hs : s.state ≠ .ready) : s.Reading :=
  ⟨h.1.1, (h.1.2.1 hs).1, (h.1.2.1 hs).2, h.2.1⟩

/-- The identity read in flight: a mount or format that knows nothing yet (R136, R139). -/
theorem Store.BookLaw.identity (h : s.BookLaw) (hf : s.port.inFlight = some .identityRead) :
    (s.state = .mounting ∨ s.state = .formatting) ∧ s.Reading ∧ s.cellCount = 0 ∧ s.cells = [] ∧ s.scan = [] := by
  have hmedia := h.1.2.2
  rw [hf] at hmedia
  cases hs : s.state with
  | unmounted | fault => rw [hs] at hmedia; simp [PortStep.rank] at hmedia
  | ready => rw [hs] at hmedia; simp [PortStep.rank] at hmedia
  | mounting =>
    rw [hs] at hmedia
    obtain ⟨hn, hc, hscan⟩ := hmedia
    exact ⟨.inl rfl, h.reading (by rw [hs]; decide), hn, hc, hscan⟩
  | formatting =>
    rw [hs] at hmedia
    obtain ⟨hn, hc⟩ := hmedia
    exact ⟨.inr rfl, h.reading (by rw [hs]; decide), hn, hc, h.2.1.scan_nil hc⟩

/-- A header read in flight: a mount with the cells before it classified (R136, R137). -/
theorem Store.BookLaw.header (h : s.BookLaw) {c : Nat} (hf : s.port.inFlight = some (.headerRead c)) :
    s.state = .mounting ∧ s.Reading ∧ s.cells.length = c ∧ c < s.cellCount ∧ Config.minCells ≤ s.cellCount ∧
      s.cellCount ≤ Config.maxCells := by
  have hmedia := h.1.2.2
  rw [hf] at hmedia
  cases hs : s.state with
  | unmounted | fault => rw [hs] at hmedia; simp [PortStep.rank] at hmedia
  | ready => rw [hs] at hmedia; simp [PortStep.rank] at hmedia
  | mounting =>
    rw [hs] at hmedia
    exact ⟨rfl, h.reading (by rw [hs]; decide), hmedia⟩
  | formatting => rw [hs] at hmedia; exact hmedia.elim

/-- A format erase in flight (R139). -/
theorem Store.BookLaw.erasing (h : s.BookLaw) {c : Nat} (hf : s.port.inFlight = some (.formatErase c)) :
    s.state = .formatting ∧ s.Reading ∧ s.scan = [] ∧ s.cells.length = s.cellCount ∧ c < s.cellCount ∧
      Config.minCells ≤ s.cellCount ∧ s.cellCount ≤ Config.maxCells := by
  have hmedia := h.1.2.2
  rw [hf] at hmedia
  cases hs : s.state with
  | unmounted | fault => rw [hs] at hmedia; simp [PortStep.rank] at hmedia
  | ready => rw [hs] at hmedia; simp [PortStep.rank] at hmedia
  | mounting => rw [hs] at hmedia; exact hmedia.elim
  | formatting =>
    rw [hs] at hmedia
    exact ⟨rfl, h.reading (by rw [hs]; decide), hmedia⟩

/-- The books of a store that mounts or formats, put together. -/
theorem Store.Reading.bookLaw_identity (h : s.Reading) (hs : s.state = .mounting ∨ s.state = .formatting)
    (hf : s.port.inFlight = some .identityRead) (hn : s.cellCount = 0) (hc : s.cells = []) (hscan : s.scan = []) :
    s.BookLaw := by
  refine ⟨⟨h.waiting, fun _ => ⟨h.directory, h.queue⟩, ?_⟩, h.scan, s.directoryLaw_iff.mpr h.listed⟩
  rcases hs with hs | hs <;> rw [hs, hf]
  · exact ⟨hn, hc, hscan⟩
  · exact ⟨hn, hc⟩

theorem Store.Reading.bookLaw_header (h : s.Reading) (hs : s.state = .mounting) {c : Nat}
    (hf : s.port.inFlight = some (.headerRead c)) (hlen : s.cells.length = c) (hlt : c < s.cellCount)
    (hmin : Config.minCells ≤ s.cellCount) (hmax : s.cellCount ≤ Config.maxCells) : s.BookLaw := by
  refine ⟨⟨h.waiting, fun _ => ⟨h.directory, h.queue⟩, ?_⟩, h.scan, s.directoryLaw_iff.mpr h.listed⟩
  rw [hs, hf]
  exact ⟨hlen, hlt, hmin, hmax⟩

theorem Store.Reading.bookLaw_erase (h : s.Reading) (hs : s.state = .formatting) {c : Nat}
    (hf : s.port.inFlight = some (.formatErase c)) (hscan : s.scan = []) (hlen : s.cells.length = s.cellCount)
    (hlt : c < s.cellCount) (hmin : Config.minCells ≤ s.cellCount) (hmax : s.cellCount ≤ Config.maxCells) : s.BookLaw := by
  refine ⟨⟨h.waiting, fun _ => ⟨h.directory, h.queue⟩, ?_⟩, h.scan, s.directoryLaw_iff.mpr h.listed⟩
  rw [hs, hf]
  exact ⟨hscan, hlen, hlt, hmin, hmax⟩

/-- The cell count that an identity read gives is usable (R136). -/
theorem cellCountOf_ok {size : Option Nat} {c : Nat} (h : cellCountOf size = .ok c) :
    Config.minCells ≤ c ∧ c ≤ Config.maxCells := by
  unfold cellCountOf at h
  split at h
  · cases h
  · split at h
    · cases h
    · rename_i hmin
      cases h
      have : Config.minCells ≤ Config.maxCells := by decide
      omega

/-! ### Mount, format, unmount -/

/-- A mount or format begins on a store with nothing queued (R136, R139). -/
theorem Store.Settled.beginMedia (h : s.Settled) (hq : s.queue = []) {st : StoreState}
    (hst : st = .mounting ∨ st = .formatting) : (s.beginMedia st).BookLaw := by
  refine Store.Reading.bookLaw_identity ⟨fun x hx => h.port x (Port.mem_steps.mpr (.inr hx)), rfl, hq, nofun, .nil⟩ hst rfl
    rfl rfl rfl

/-- An unmount with nothing queued (R140). -/
theorem Store.Settled.unmount (h : s.Settled) (hq : s.queue = []) : Store.Settled
    { s with state := .unmounted, cellCount := 0, cells := [], directory := [], stamp := 0 } where
  port := h.port
  scan := h.scan
  notMounting := nofun
  notFormatting := nofun
  away _ := ⟨rfl, hq, rfl, rfl⟩
  here := nofun
  listed := .of_nil rfl hq

/-- The identity read that ends in FAULT (R136, R139). -/
theorem Store.BookLaw.mediaFault (h : s.BookLaw) (hf : s.port.inFlight = some .identityRead) (r : FaultReason) :
    Store.Settled { s.endStep with state := .fault, fault := r, cellCount := 0 } := by
  obtain ⟨-, hread, -, hc, hscan⟩ := h.identity hf
  exact ⟨hread.waiting, hscan, nofun, nofun, fun _ => ⟨hread.directory, hread.queue, rfl, hc⟩, nofun,
    .of_nil hread.directory hread.queue⟩

theorem Store.BookLaw.beginScan (h : s.BookLaw) (hf : s.port.inFlight = some .identityRead) (hs : s.state ≠ .formatting)
    {c : Nat} (hmin : Config.minCells ≤ c) (hmax : c ≤ Config.maxCells) : (s.beginScan c).BookLaw := by
  obtain ⟨hst, hread, -, hc, -⟩ := h.identity hf
  have hpos : 0 < c := lt_of_lt_of_le (by decide) hmin
  refine Store.Reading.bookLaw_header ⟨hread.waiting, hread.directory, hread.queue, hread.scan⟩ (hst.resolve_right hs)
    rfl ?_ hpos hmin hmax
  show s.cells.length = 0
  rw [hc]; rfl

theorem Store.BookLaw.beginErases (h : s.BookLaw) (hf : s.port.inFlight = some .identityRead) (hs : s.state = .formatting)
    {c : Nat} (hmin : Config.minCells ≤ c) (hmax : c ≤ Config.maxCells) : (s.beginErases c).BookLaw := by
  obtain ⟨-, hread, -, -, hscan⟩ := h.identity hf
  have hpos : 0 < c := lt_of_lt_of_le (by decide) hmin
  refine Store.Reading.bookLaw_erase ⟨hread.waiting, hread.directory, hread.queue, .of_nil hscan⟩ hs rfl hscan ?_ hpos hmin hmax
  simp [Store.beginErases, Store.inFlightNext]

/-- The store with one more cell classified (R137). -/
def Store.classified (s : Store) (cell : Nat) (h : Option (List Byte)) : Store :=
  { s with cells := s.cells ++ [(classify h).1], scan := s.scan ++ (h.bind (scannedHeader cell)).toList }

theorem Store.ScanLaw.classified (hs : s.ScanLaw) {cell : Nat} (hlen : s.cells.length = cell) (h : Option (List Byte)) :
    (s.classified cell h).ScanLaw := by
  obtain ⟨hrange, hrising⟩ := hs
  have hnew : ∀ x ∈ (h.bind (scannedHeader cell)).toList, x.cell = cell := fun x hx => (scannedHeader_range hx).1
  refine ⟨fun x hx => ?_, ?_⟩
  · show _ ∧ _ ∧ _ ∧ _ ∧ _ ∧ x.cell < (s.cells ++ [_]).length
    rw [List.length_append, List.length_singleton]
    rcases List.mem_append.mp hx with hx | hx
    · obtain ⟨h1, h2, h3, h4, h5, h6⟩ := hrange x hx
      exact ⟨h1, h2, h3, h4, h5, h6.trans (Nat.lt_succ_self _)⟩
    · obtain ⟨h0, h1, h2, h3, h4, h5⟩ := scannedHeader_range hx
      exact ⟨h1, h2, h3, h4, h5, by omega⟩
  · show ((s.scan ++ (h.bind (scannedHeader cell)).toList).map (·.cell)).Pairwise (· < ·)
    rw [List.map_append, List.pairwise_append]
    refine ⟨hrising, ?_, fun a ha b hb => ?_⟩
    · cases h.bind (scannedHeader cell) <;> simp
    · obtain ⟨x, hx, rfl⟩ := List.mem_map.mp ha
      obtain ⟨y, hy, rfl⟩ := List.mem_map.mp hb
      obtain ⟨-, -, -, -, -, hlt⟩ := hrange x hx
      rw [hnew y hy]
      omega

theorem Store.BookLaw.classifiedNext (h : s.BookLaw) {cell : Nat} (hf : s.port.inFlight = some (.headerRead cell))
    (hlt : cell + 1 < s.cellCount) (read : Option (List Byte)) :
    ((s.classified cell read).inFlightNext (.headerRead (cell + 1))).BookLaw := by
  obtain ⟨hs, hread, hlen, -, hmin, hmax⟩ := h.header hf
  refine Store.Reading.bookLaw_header ⟨hread.waiting, hread.directory, hread.queue, hread.scan.classified hlen read⟩ hs rfl
    ?_ hlt hmin hmax
  show (s.cells ++ [_]).length = cell + 1
  rw [List.length_append, hlen]; rfl

/-- The end of a mount (R138). -/
theorem Store.BookLaw.finishMount (h : s.BookLaw) {cell : Nat} (hf : s.port.inFlight = some (.headerRead cell))
    (hle : ¬cell + 1 < s.cellCount) (read : Option (List Byte)) : (s.classified cell read).finishMount.Settled := by
  obtain ⟨-, hread, hlen, hlt, hmin, hmax⟩ := h.header hf
  have hscan := hread.scan.classified hlen read
  refine ⟨hread.waiting, rfl, nofun, nofun, fun hne => absurd rfl hne, fun _ => ⟨?_, hmin, hmax⟩,
    .mounted hscan rfl hread.queue⟩
  show (settledCells (s.cells ++ [_]) _).length = s.cellCount
  rw [settledCells_length, List.length_append, hlen, List.length_singleton]
  omega

theorem Store.BookLaw.eraseNext (h : s.BookLaw) {cell : Nat} (hf : s.port.inFlight = some (.formatErase cell))
    (hlt : cell + 1 < s.cellCount) (x : CellState) :
    ((((s.setCell cell x).setCell (cell + 1) .erasing).inFlightNext (.formatErase (cell + 1)))).BookLaw := by
  obtain ⟨hs, hread, hscan, hlen, -, hmin, hmax⟩ := h.erasing hf
  refine Store.Reading.bookLaw_erase ⟨hread.waiting, hread.directory, hread.queue, .of_nil hscan⟩ hs rfl hscan ?_ hlt hmin hmax
  simpa [Store.setCell, Store.inFlightNext] using hlen

/-- The end of a format (R139). -/
theorem Store.BookLaw.finishFormat (h : s.BookLaw) {cell : Nat} (hf : s.port.inFlight = some (.formatErase cell))
    (x : CellState) : (s.setCell cell x).finishFormat.Settled := by
  obtain ⟨-, hread, hscan, hlen, -, hmin, hmax⟩ := h.erasing hf
  refine ⟨hread.waiting, hscan, nofun, nofun, fun hne => absurd rfl hne, fun _ => ⟨?_, hmin, hmax⟩, .of_nil rfl hread.queue⟩
  show (s.cells.set cell x).length = s.cellCount
  rw [List.length_set, hlen]

/-! ### Lesson requests -/

/-- With fewer than 64 lessons some id 1..64 is free (R143). -/
theorem Store.freeId_range (hlen : s.directory.length < 64) :
    1 ≤ s.freeId ∧ s.freeId ≤ 64 ∧ ∀ m ∈ s.directory, m.id ≠ s.freeId := by
  have hfree : ∃ id ∈ List.range' 1 64, (!s.directory.any (·.id == id)) = true := by
    by_contra hno
    push Not at hno
    have hsub : List.range' 1 64 ⊆ s.directory.map (·.id) := fun id hid => by
      have := hno id hid
      simpa using this
    have hle := (List.nodup_range' (s := 1) (n := 64)).subperm hsub |>.length_le
    simp at hle
    omega
  obtain ⟨id, hid⟩ := Option.isSome_iff_exists.mp (List.find?_isSome.mpr hfree)
  have hfound : s.freeId = id := by rw [Store.freeId, hid]; rfl
  have hrange := List.mem_range'_1.mp (List.mem_of_find?_eq_some hid)
  have hnone := List.find?_some hid
  rw [hfound]
  refine ⟨hrange.1, by omega, fun m hm e => ?_⟩
  simp only [Bool.not_eq_true', List.any_eq_false, beq_iff_eq] at hnone
  exact hnone m hm e

theorem Store.anyOpen_eq_false : s.anyOpen = false ↔ ∀ l ∈ s.directory, l.isOpen = false := by
  simp [Store.anyOpen]

/-- A lesson opened (R143). -/
theorem Store.Settled.opened (h : s.Settled) (hr : s.state = .ready) (ho : s.anyOpen = false)
    (hlen : s.directory.length < 64) {title : List Byte} (ht : title.length ≤ 24) :
    Store.Settled { s with directory := insertLesson ⟨s.freeId, title, true, 1, false, []⟩ s.directory } := by
  obtain ⟨hpos, hle, hfree⟩ := Store.freeId_range hlen
  refine h.changed rfl rfl rfl rfl (fun _ => .inl) (fun _ _ hne => absurd hr hne) ?_
  exact h.listed.inserted rfl rfl rfl hfree (Store.anyOpen_eq_false.mp ho)
    ⟨hpos, hle, ht, le_refl 1, Nat.le_add_left 1 255, .nil, nofun, nofun, nofun⟩

theorem Store.mem_ordinalsOf {l : Lesson} {o : Nat} :
    o ∈ s.ordinalsOf l ↔ (∃ p ∈ l.pages, p.ordinal = o) ∨ o ∈ s.queuedOrdinals l.id := by
  simp [Store.ordinalsOf, Store.queuedOrdinals]

/-- A lesson resumed, its next ordinal one above all in use (R144). -/
theorem Store.Settled.resumed (h : s.Settled) (hr : s.state = .ready) (ho : s.anyOpen = false) {l : Lesson}
    (hl : l ∈ s.directory) (hd : l.deleting = false) :
    (s.changeLesson l.id fun m => { m with isOpen := true, next := highest (s.ordinalsOf l) + 1 }).Settled := by
  have hlaw := h.listed.lesson l hl
  have hclosed := Store.anyOpen_eq_false.mp ho
  have hle : highest (s.ordinalsOf l) ≤ 255 := by
    rcases eq_or_ne (s.ordinalsOf l) [] with e | hne
    · rw [e]; decide
    · rcases Store.mem_ordinalsOf.mp (highest_mem hne) with ⟨p, hp, e⟩ | hq
      · rw [← e]; exact (hlaw.page p hp).2.1
      · have := hlaw.below _ hq
        have := hlaw.next_le
        omega
  refine h.changed rfl rfl rfl rfl (fun _ => .inl) (fun _ _ hne => absurd hr hne) ?_
  refine h.listed.mapped rfl rfl (fun m => by dsimp only; split <;> rfl) (fun a ha b hb hao hbo => ?_) fun m hm => ?_
  · have hid : ∀ m ∈ s.directory, (if m.id = l.id then
        { m with isOpen := true, next := highest (s.ordinalsOf l) + 1 } else m).isOpen = true → m.id = l.id := by
      intro m hm hmo
      split at hmo
      · assumption
      · rw [hclosed m hm] at hmo; cases hmo
    exact (hid a ha hao).trans (hid b hb hbo).symm
  · split
    · rename_i e
      have hml := h.listed.lesson_eq hm hl e
      subst hml
      exact hlaw.resumed hd (Nat.succ_pos _) (Nat.succ_le_succ hle)
        (fun p hp => Nat.lt_succ_of_le (le_highest (Store.mem_ordinalsOf.mpr (.inl ⟨p, hp, rfl⟩))))
        (fun o hq => Nat.lt_succ_of_le (le_highest (Store.mem_ordinalsOf.mpr (.inr hq))))
    · exact h.listed.lesson m hm

/-- A lesson closed (R145). -/
theorem Store.Settled.closed (h : s.Settled) (id : Nat) :
    (s.changeLesson id fun l => { l with isOpen := false }).Settled := by
  refine h.changed rfl rfl rfl rfl (fun _ => .inl) (fun h1 h2 _ => ⟨?_, h2⟩) ?_
  · show List.map _ s.directory = []
    rw [h1]; rfl
  · refine h.listed.mapped rfl rfl (fun m => by dsimp only; split <;> rfl) (fun a ha b hb hao hbo => ?_) fun m hm => ?_
    · refine h.listed.oneOpen a ha b hb ?_ ?_
      · split at hao
        · cases hao
        · exact hao
      · split at hbo
        · cases hbo
        · exact hbo
    · split
      · exact (h.listed.lesson m hm).closed
      · exact h.listed.lesson m hm

/-- The store as a lesson delete begins (R155). -/
def Store.deleteBegun (s : Store) (id : Nat) : Store :=
  { s.changeLesson id fun l => { l with deleting := true } with deleteWork := some ⟨id, 0, 0⟩ }

theorem Store.Settled.deleteBegun (h : s.Settled) {l : Lesson} (hl : l ∈ s.directory) (ho : l.isOpen = false)
    (hq : s.queueNames l.id = false) (hw : s.deleteWork = none) : (s.deleteBegun l.id).Settled := by
  have hnone : s.queuedOrdinals l.id = [] := Store.queuedOrdinals_eq_nil.mpr fun e he hel => by
    rw [Store.queueNames_iff.mpr ⟨e, he, hel⟩] at hq
    cases hq
  refine h.changed rfl rfl rfl rfl (fun _ => .inl) (fun h1 h2 _ => ⟨?_, h2⟩) ?_
  · rw [h1] at hl; cases hl
  · refine h.listed.mapped rfl rfl (fun m => by dsimp only; split <;> rfl) (fun a ha b hb hao hbo => ?_) fun m hm => ?_
    · exact h.listed.oneOpen a ha b hb (by split at hao <;> exact hao) (by split at hbo <;> exact hbo)
    · have hlaw := h.listed.lesson m hm
      split
      · rename_i e
        have hml := h.listed.lesson_eq hm hl e
        subst hml
        rw [hnone] at hlaw ⊢
        exact hlaw.deleted ho
      · refine hlaw.atWork fun hd => ?_
        have := (hlaw.deleting hd).2.2
        rw [hw] at this
        cases this

end Sys2Proof.Machine
end

section
/-! SUPPORT. The store's law under a mount, a format and an unmount: outside READY nothing is in hand, a mount's USED cells are its
candidates, and a format erases in index order (R134 to R140). -/

namespace Sys2Proof.Machine

variable {s t : Store}

/-! ### Nothing in hand -/

/-- Nothing waits and nothing is in hand (R136, R139, R140). -/
structure Store.Vacant (s : Store) : Prop where
  waiting : s.port.waiting = []
  load : s.recallLoad = none
  work : s.deleteWork = none
  writer : s.writer = .idle
  attempt : s.attempt = none

theorem Store.Law.vacant (h : s.Law) (hs : s.state ≠ .ready) : s.Vacant := by
  obtain ⟨-, -, ⟨-, haway, -⟩, -⟩ := h
  obtain ⟨hw, hl, hd, hi, ha⟩ := haway hs
  exact ⟨hw, hl, hd, hi, ha⟩

/-- A READY store with no step in flight, no recall and no lesson delete has nothing in hand (R139, R140). -/
theorem Store.Law.vacant_of_ready (h : s.Law) (hr : s.state = .ready) (hw : s.atWork = false) :
    s.Vacant ∧ s.port.inFlight = none := by
  obtain ⟨⟨-, hhand⟩, hrest⟩ := h.underway hr
  simp only [Store.atWork, Bool.or_eq_false_iff, Option.isSome_eq_false_iff, Option.isNone_iff_eq_none] at hw
  obtain ⟨⟨hf, hl⟩, hd⟩ := hw
  have hwait := hrest.port hf
  have hsteps : s.port.writerSteps = [] := by simp [Port.writerSteps, Port.steps, hf, hwait]
  refine ⟨⟨hwait, hl, hd, ?_, ?_⟩, hf⟩ <;> cases hhand <;> simp_all

/-- The law of a store outside READY. -/
theorem Store.Vacant.law (h : s.Vacant) (hbook : s.BookLaw) (hcell : s.CellLaw) (hs : s.state ≠ .ready)
    (hf : s.state = .unmounted ∨ s.state = .fault → s.port.inFlight = none) : s.Law := by
  have hrank : ∀ x, s.port.inFlight = some x → x.rank = 0 := fun x hx => by
    by_contra hne
    have hset := hbook.settled_of_step hx hne
    have hst : s.state = .unmounted ∨ s.state = .fault := by
      cases hst : s.state with
      | unmounted => exact .inl rfl
      | fault => exact .inr rfl
      | ready => exact absurd hst hs
      | mounting => exact absurd hst hset.notMounting
      | formatting => exact absurd hst hset.notFormatting
    rw [hf hst] at hx
    cases hx
  have hread : s.port.recallReads = [] ∧ s.port.deletes = [] ∧ s.port.exports = 0 := by
    simp only [Port.recallReads, Port.deletes, Port.exports, Port.steps, h.waiting, List.append_nil]
    cases hx : s.port.inFlight with
    | none => exact ⟨rfl, rfl, rfl⟩
    | some x =>
      have := hrank x hx
      cases x <;> first | exact ⟨rfl, rfl, rfl⟩ | cases this
  refine ⟨hbook, hcell, ⟨fun _ => h.waiting, fun _ => ⟨h.waiting, h.load, h.work, h.writer, h.attempt⟩, hf, ?_, ?_, ?_, ?_, ?_⟩,
    fun hr => absurd hr hs⟩
  · rw [hread.1, h.load]; rfl
  · rw [hread.2.1, h.work]; rfl
  · rw [hread.2.2]; exact Nat.zero_le 1
  · rw [h.work]; exact nofun
  · rw [(hbook.1.2.1 hs).1]; exact nofun

/-! ### Mount and format, begun and given up -/

/-- A mount or format begins with nothing queued and nothing in hand (R136, R139). -/
theorem Store.Law.beginMedia (h : s.Law) (hm : s.state ≠ .mounting) (hf : s.state ≠ .formatting) (hq : s.queue = [])
    (hw : s.state = .ready → s.atWork = false) {st : StoreState} (hst : st = .mounting ∨ st = .formatting) :
    (s.beginMedia st).Law := by
  have hv : s.Vacant := by
    by_cases hr : s.state = .ready
    · exact (h.vacant_of_ready hr (hw hr)).1
    · exact h.vacant hr
  refine Store.Vacant.law ⟨hv.waiting, hv.load, hv.work, hv.writer, hv.attempt⟩ ((h.1.settled hm hf).beginMedia hq hst) ?_ ?_ ?_
  · rcases hst with rfl | rfl
    · exact ⟨nofun, nofun⟩
    · exact trivial
  · rcases hst with rfl | rfl <;> exact nofun
  · rcases hst with rfl | rfl <;> rintro (e | e) <;> cases e

theorem Store.Law.unmount (h : s.Law) (hr : s.state = .ready) (hq : s.queue = []) (hw : s.atWork = false) : Store.Law
    { s with state := .unmounted, cellCount := 0, cells := [], directory := [], stamp := 0 } := by
  obtain ⟨hv, hf⟩ := h.vacant_of_ready hr hw
  exact Store.Vacant.law ⟨hv.waiting, hv.load, hv.work, hv.writer, hv.attempt⟩
    ((h.1.settled_of_ready hr).unmount hq).bookLaw trivial nofun fun _ => hf

theorem Store.Law.mediaFault (h : s.Law) (hf : s.port.inFlight = some .identityRead) (r : FaultReason) :
    Store.Law { s.endStep with state := .fault, fault := r, cellCount := 0 } := by
  have hst := (h.1.identity hf).1
  have hv := h.vacant (by rintro e; rw [e] at hst; rcases hst with e | e <;> cases e)
  exact Store.Vacant.law ⟨hv.waiting, hv.load, hv.work, hv.writer, hv.attempt⟩ (h.1.mediaFault hf r).bookLaw trivial nofun
    fun _ => rfl

/-! ### The header scan -/

/-- The cells classified so far are those of a mount: the USED ones are the candidates kept (R137). -/
structure Store.Scanned (s : Store) : Prop where
  scan : s.ScanLaw
  known : ∀ c ∈ s.cells, c = .erased ∨ c = .used ∨ c = .dead ∨ c = .bad
  used : ∀ k : Nat, s.cells[k]? = some .used ↔ ∃ h ∈ s.scan, h.candidate = true ∧ h.cell = k

theorem Store.Scanned.cellLaw (h : s.Scanned) (hs : s.state = .mounting) : s.CellLaw := by
  unfold Store.CellLaw
  rw [hs]
  exact ⟨h.known, fun k _ => h.used k⟩

theorem Store.Law.scanned (h : s.Law) (hs : s.state = .mounting) : s.Scanned := by
  obtain ⟨⟨-, hscan, -⟩, hcell, -⟩ := h
  unfold Store.CellLaw at hcell
  rw [hs] at hcell
  obtain ⟨hknown, hused⟩ := hcell
  refine ⟨hscan, hknown, fun k => ⟨fun hk => ?_, fun hk => ?_⟩⟩
  · obtain ⟨hlt, -⟩ := List.getElem?_eq_some_iff.mp hk
    exact (hused k (List.mem_range.mpr hlt)).mp hk
  · obtain ⟨x, hx, -, rfl⟩ := id hk
    obtain ⟨-, -, -, -, -, hlt⟩ := hscan.1 x hx
    exact (hused x.cell (List.mem_range.mpr hlt)).mpr hk

/-- One more header read (R137). -/
theorem Store.Scanned.classified (h : s.Scanned) {cell : Nat} (hlen : s.cells.length = cell) (read : Option (List Byte)) :
    (s.classified cell read).Scanned := by
  have hscan := h.scan.classified hlen read
  have hnew : ∀ x ∈ (read.bind (scannedHeader cell)).toList, x.cell = cell := fun x hx => (scannedHeader_range hx).1
  refine ⟨hscan, fun c hc => ?_, fun k => ?_⟩
  · rcases List.mem_append.mp hc with hc | hc
    · exact h.known c hc
    · rw [List.mem_singleton.mp hc]
      exact classify_state read
  · show (s.cells ++ [(classify read).1])[k]? = some .used ↔
      ∃ x ∈ s.scan ++ (read.bind (scannedHeader cell)).toList, x.candidate = true ∧ x.cell = k
    rcases lt_trichotomy k s.cells.length with hk | hk | hk
    · rw [List.getElem?_append_left hk, h.used k]
      refine ⟨fun ⟨x, hx, hxk⟩ => ⟨x, List.mem_append_left _ hx, hxk⟩, fun ⟨x, hx, hc, hxk⟩ => ?_⟩
      rcases List.mem_append.mp hx with hx | hx
      · exact ⟨x, hx, hc, hxk⟩
      · have := hnew x hx
        omega
    · rw [hk, List.getElem?_concat_length, Option.some.injEq, classify_used read cell]
      refine ⟨fun ⟨x, hx, hc⟩ => ⟨x, List.mem_append_right _ hx, hc, by rw [hnew x hx, hlen]⟩, fun ⟨x, hx, hc, hxk⟩ => ?_⟩
      rcases List.mem_append.mp hx with hx | hx
      · obtain ⟨-, -, -, -, -, hlt⟩ := h.scan.1 x hx
        omega
      · exact ⟨x, hx, hc⟩
    · rw [List.getElem?_eq_none (by rw [List.length_append, List.length_singleton]; exact hk)]
      refine ⟨nofun, fun ⟨x, hx, _, hxk⟩ => ?_⟩
      rcases List.mem_append.mp hx with hx | hx
      · obtain ⟨-, -, -, -, -, hlt⟩ := h.scan.1 x hx
        omega
      · have := hnew x hx
        omega

theorem Store.Law.beginScan (h : s.Law) (hf : s.port.inFlight = some .identityRead) (hs : s.state ≠ .formatting)
    {c : Nat} (hmin : Config.minCells ≤ c) (hmax : c ≤ Config.maxCells) : (s.beginScan c).Law := by
  obtain ⟨hst, hread, -, hc, hscan⟩ := h.1.identity hf
  have hst := hst.resolve_right hs
  have hv := h.vacant (by rw [hst]; decide)
  refine Store.Vacant.law ⟨hv.waiting, hv.load, hv.work, hv.writer, hv.attempt⟩ (h.1.beginScan hf hs hmin hmax)
    (Store.Scanned.cellLaw ⟨hread.scan, ?_, ?_⟩ hst) (by show s.state ≠ _; rw [hst]; decide)
    (by show s.state = _ ∨ s.state = _ → _; rw [hst]; rintro (e | e) <;> cases e)
  · show ∀ c ∈ s.cells, _
    rw [hc]; exact nofun
  · show ∀ k : Nat, s.cells[k]? = some .used ↔ ∃ x ∈ s.scan, x.candidate = true ∧ x.cell = k
    rw [hc, hscan]
    simp

theorem Store.Law.classifiedNext (h : s.Law) {cell : Nat} (hf : s.port.inFlight = some (.headerRead cell))
    (hlt : cell + 1 < s.cellCount) (read : Option (List Byte)) :
    ((s.classified cell read).inFlightNext (.headerRead (cell + 1))).Law := by
  obtain ⟨hst, -, hlen, -⟩ := h.1.header hf
  have hv := h.vacant (by rw [hst]; decide)
  have hscanned := (h.scanned hst).classified hlen read
  exact Store.Vacant.law ⟨hv.waiting, hv.load, hv.work, hv.writer, hv.attempt⟩ (h.1.classifiedNext hf hlt read)
    (Store.Scanned.cellLaw ⟨hscanned.scan, hscanned.known, hscanned.used⟩ hst) (by show s.state ≠ _; rw [hst]; decide)
    (by show s.state = _ ∨ s.state = _ → _; rw [hst]; rintro (e | e) <;> cases e)

/-! ### The end of a mount -/

/-- The cells of the pages found are those of the headers that stay (R138). -/
theorem Store.ScanLaw.mountedCells (h : s.ScanLaw) {c : Nat} :
    (∃ l ∈ mountedDirectory (winners s.scan), ∃ p ∈ l.pages, p.cell = c) ↔ ∃ w ∈ winners s.scan, w.cell = c := by
  constructor
  · rintro ⟨l, hl, p, hp, rfl⟩
    obtain ⟨w, hw, -, rfl⟩ := h.page_iff.mp ⟨l, hl, rfl, hp⟩
    exact ⟨w, hw, rfl⟩
  · rintro ⟨w, hw, rfl⟩
    obtain ⟨l, hl, -, hp⟩ := h.page_iff.mpr ⟨w, hw, rfl, rfl⟩
    exact ⟨l, hl, w.page, hp, rfl⟩

/-- No cell is on two pages found (R138). -/
theorem Store.ScanLaw.mountedCells_nodup (h : s.ScanLaw) :
    ((mountedDirectory (winners s.scan)).flatMap Lesson.cells).Nodup := by
  refine List.nodup_flatMap.mpr ⟨fun l hl => ?_, ?_⟩
  · obtain ⟨w, -, rfl⟩ := h.mem_directory.mp hl
    have hcells : (headersOf (winners s.scan) w.lesson).map (·.cell) |>.Nodup := by
      refine (nodup_of_rising h.2).sublist (List.Sublist.map _ ?_)
      exact List.filter_sublist.trans (List.filter_sublist.trans List.filter_sublist)
    refine ((mountedLesson_pages_perm.map _).nodup_iff).mpr ?_
    rw [List.map_map]
    exact hcells
  · refine (List.pairwise_map.mp (mountedDirectory_rising (winners s.scan))).imp_of_mem fun {l m} hl hm hlt c hcl hcm => ?_
    obtain ⟨p, hp, e⟩ := List.mem_map.mp hcl
    obtain ⟨q, hq, e'⟩ := List.mem_map.mp hcm
    obtain ⟨v, hv, hvl, rfl⟩ := h.page_iff.mp ⟨l, hl, rfl, hp⟩
    obtain ⟨w, hw, hwm, rfl⟩ := h.page_iff.mp ⟨m, hm, rfl, hq⟩
    have := h.winner_cell hv hw (e.trans e'.symm)
    rw [← hvl, ← hwm, this] at hlt
    exact lt_irrefl _ hlt

/-- The USED cells after a mount are those of the headers that stay (R138). -/
theorem Store.Scanned.settled_used (h : s.Scanned) (k : Nat) :
    (settledCells s.cells s.scan)[k]? = some .used ↔ ∃ w ∈ winners s.scan, w.cell = k := by
  rw [settledCells_getElem?]
  constructor
  · intro hk
    obtain ⟨c, hc, e⟩ := Option.map_eq_some_iff.mp hk
    split at e
    · cases e
    · rename_i hno
      by_contra hnone
      exact hno ⟨e, hnone⟩
  · rintro ⟨w, hw, rfl⟩
    obtain ⟨hm, hcand, -⟩ := (mem_winners h.scan.2 w).mp hw
    rw [(h.used w.cell).mpr ⟨w, hm, hcand, rfl⟩, Option.map_some, if_neg fun hno => hno.2 ⟨w, hw, rfl⟩]

theorem Store.Scanned.settled_idle (h : s.Scanned) {k : Nat} {x : CellState}
    (hx : (settledCells s.cells s.scan)[k]? = some x) : x.busy = false := by
  rw [settledCells_getElem?] at hx
  obtain ⟨c, hc, rfl⟩ := Option.map_eq_some_iff.mp hx
  split
  · rfl
  · rcases h.known c (List.mem_of_getElem? hc) with rfl | rfl | rfl | rfl <;> rfl

theorem Store.Law.finishMount (h : s.Law) {cell : Nat} (hf : s.port.inFlight = some (.headerRead cell))
    (hle : ¬cell + 1 < s.cellCount) (read : Option (List Byte)) : (s.classified cell read).finishMount.Underway := by
  obtain ⟨hst, -, hlen, -⟩ := h.1.header hf
  have hv := h.vacant (by rw [hst]; decide)
  have hscanned := (h.scanned hst).classified hlen read
  have hsteps : (s.classified cell read).finishMount.port.steps = [] := hv.waiting
  have hempty : ∀ {β : Type} (f : PortStep → Option β),
      (s.classified cell read).finishMount.port.steps.filterMap f = [] := fun f => by rw [hsteps]; rfl
  refine ⟨⟨⟨rfl, h.1.finishMount hf hle read, hscanned.scan.mountedCells_nodup, fun c => ?_, ?_, ?_, ?_, ?_, ?_⟩, ?_, ?_⟩,
    .idle hv.writer hv.attempt ?_ ?_⟩
  · exact Store.mem_pageCells.trans (hscanned.scan.mountedCells.trans (hscanned.settled_used c).symm)
  · rw [Port.tombstones, hempty]; exact .nil
  · rw [Port.tombstones, hempty]; exact nofun
  · rw [Port.recallReads, hempty]
    exact (congrArg (fun r => (Option.map RecallLoad.cell r).toList) hv.load).symm
  · rw [Port.exports, hsteps]; exact Nat.zero_le 1
  · rw [Port.pageDeletes, hempty]; exact fun _ _ _ => List.not_mem_nil
  · rw [Port.deletes, hempty]
    exact (congrArg (fun d => (Option.map DeleteWork.lesson d).toList) hv.work).symm
  · intro d hd
    cases hv.work.symm.trans hd
  · rw [Port.writerSteps, hsteps]; rfl
  · exact Store.cellsInHand_eq_nil.mpr fun k x hx => hscanned.settled_idle hx

/-! ### The erases of a format -/

theorem Store.Law.beginErases (h : s.Law) (hf : s.port.inFlight = some .identityRead) (hs : s.state = .formatting)
    {c : Nat} (hmin : Config.minCells ≤ c) (hmax : c ≤ Config.maxCells) : (s.beginErases c).Law := by
  have hv := h.vacant (by rw [hs]; decide)
  refine Store.Vacant.law ⟨hv.waiting, hv.load, hv.work, hv.writer, hv.attempt⟩ (h.1.beginErases hf hs hmin hmax) ?_
    (by show s.state ≠ _; rw [hs]; decide) (by show s.state = _ ∨ s.state = _ → _; rw [hs]; rintro (e | e) <;> cases e)
  unfold Store.CellLaw
  rw [show (s.beginErases c).state = .formatting from hs]
  intro k hk
  simp only [Store.beginErases, Store.inFlightNext, List.length_set, List.length_replicate, List.mem_range] at hk
  have hpos : 0 < c := by omega
  refine ⟨fun hk0 => absurd hk0 (Nat.not_lt_zero k), fun hk0 => ?_, fun hk0 => ?_⟩
  · simp [Store.beginErases, Store.inFlightNext, hk0, hpos]
  · simp [Store.beginErases, Store.inFlightNext, hk, Nat.ne_of_lt hk0]

theorem Store.Law.erasing (h : s.Law) {c : Nat} (hf : s.port.inFlight = some (.formatErase c)) :
    ∀ k < s.cells.length, (k < c → s.cells[k]? = some .erased ∨ s.cells[k]? = some .bad) ∧
      (k = c → s.cells[k]? = some .erasing) ∧ (c < k → s.cells[k]? = some .dead) := by
  have hcell := h.2.1
  unfold Store.CellLaw at hcell
  rw [(h.1.erasing hf).1, hf] at hcell
  exact fun k hk => hcell k (List.mem_range.mpr hk)

/-- A cell erased, ERASED or BAD, and the next begun (R139). -/
theorem Store.Law.eraseNext (h : s.Law) {cell : Nat} (hf : s.port.inFlight = some (.formatErase cell))
    (hlt : cell + 1 < s.cellCount) {x : CellState} (hx : x = .erased ∨ x = .bad) :
    ((((s.setCell cell x).setCell (cell + 1) .erasing).inFlightNext (.formatErase (cell + 1)))).Law := by
  obtain ⟨hs, -⟩ := h.1.erasing hf
  have hv := h.vacant (by rw [hs]; decide)
  refine Store.Vacant.law ⟨hv.waiting, hv.load, hv.work, hv.writer, hv.attempt⟩ (h.1.eraseNext hf hlt x) ?_
    (by show s.state ≠ _; rw [hs]; decide) (by show s.state = _ ∨ s.state = _ → _; rw [hs]; rintro (e | e) <;> cases e)
  unfold Store.CellLaw
  rw [show (((s.setCell cell x).setCell (cell + 1) .erasing).inFlightNext (.formatErase (cell + 1))).state = .formatting
    from hs]
  intro k hk
  have hk : k < s.cells.length := by simpa [Store.inFlightNext, Store.setCell] using hk
  obtain ⟨hbelow, hat, habove⟩ := h.erasing hf k hk
  show (k < cell + 1 → ((s.setCell cell x).setCell (cell + 1) .erasing).cells[k]? = some .erased ∨
      ((s.setCell cell x).setCell (cell + 1) .erasing).cells[k]? = some .bad) ∧
    (k = cell + 1 → ((s.setCell cell x).setCell (cell + 1) .erasing).cells[k]? = some .erasing) ∧
    (cell + 1 < k → ((s.setCell cell x).setCell (cell + 1) .erasing).cells[k]? = some .dead)
  refine ⟨fun hkc => ?_, fun hkc => ?_, fun hkc => ?_⟩
  · rw [Store.setCell_getElem?_other (Nat.ne_of_lt hkc)]
    rcases eq_or_ne k cell with e | hne
    · subst e
      rw [Store.setCell_getElem?_self (hat rfl)]
      exact hx.imp (congrArg some) (congrArg some)
    · rw [Store.setCell_getElem?_other hne]
      exact hbelow (by omega)
  · subst hkc
    exact Store.setCell_getElem?_self (x := .dead) (by
      rw [Store.setCell_getElem?_other (Nat.succ_ne_self cell)]
      exact habove (Nat.lt_succ_self cell))
  · rw [Store.setCell_getElem?_other (Nat.ne_of_gt hkc), Store.setCell_getElem?_other (Nat.ne_of_gt (by omega))]
    exact habove (by omega)

/-- The last cell erased: an empty READY store (R139). -/
theorem Store.Law.finishFormat (h : s.Law) {cell : Nat} (hf : s.port.inFlight = some (.formatErase cell))
    (hle : ¬cell + 1 < s.cellCount) {x : CellState} (hx : x = .erased ∨ x = .bad) :
    (s.setCell cell x).finishFormat.Law := by
  obtain ⟨hst, hread, -, hlen, -⟩ := h.1.erasing hf
  have hv := h.vacant (by rw [hst]; decide)
  have hcells : ∀ (k : Nat) (y : CellState), (s.setCell cell x).cells[k]? = some y → y = .erased ∨ y = .bad := by
    intro k y hy
    have hk : k < s.cells.length := by
      obtain ⟨hk, -⟩ := List.getElem?_eq_some_iff.mp hy
      simpa [Store.setCell] using hk
    obtain ⟨hbelow, hat, -⟩ := h.erasing hf k hk
    rcases eq_or_ne k cell with e | hne
    · subst e
      rw [Store.setCell_getElem?_self (hat rfl)] at hy
      exact Option.some.inj hy ▸ hx
    · rw [Store.setCell_getElem?_other hne] at hy
      rw [hy] at hbelow
      exact (hbelow (by omega)).imp Option.some.inj Option.some.inj
  have hsteps : (s.setCell cell x).finishFormat.port.steps = [] := hv.waiting
  have hempty : ∀ {β : Type} (f : PortStep → Option β),
      (s.setCell cell x).finishFormat.port.steps.filterMap f = [] := fun f => by rw [hsteps]; rfl
  refine Store.Underway.law ⟨⟨⟨rfl, h.1.finishFormat hf x, .nil, fun c => ⟨nofun, fun hc => ?_⟩, ?_, ?_, ?_, ?_, nofun⟩, ?_, ?_⟩,
    .idle hv.writer hv.attempt ?_ ?_⟩ ⟨fun _ => hv.waiting, fun _ => ⟨hread.queue, fun hd => ?_⟩⟩
  · rcases hcells c _ hc with e | e <;> cases e
  · rw [Port.tombstones, hempty]; exact .nil
  · rw [Port.tombstones, hempty]; exact nofun
  · rw [Port.recallReads, hempty]
    exact (congrArg (fun r => (Option.map RecallLoad.cell r).toList) hv.load).symm
  · rw [Port.exports, hsteps]; exact Nat.zero_le 1
  · rw [Port.deletes, hempty]
    exact (congrArg (fun d => (Option.map DeleteWork.lesson d).toList) hv.work).symm
  · intro d hd
    cases hv.work.symm.trans hd
  · rw [Port.writerSteps, hsteps]; rfl
  · exact Store.cellsInHand_eq_nil.mpr fun k y hy => by rcases hcells k y hy with rfl | rfl <;> rfl
  · obtain ⟨k, hk⟩ := List.mem_iff_getElem?.mp hd
    rcases hcells k _ hk with e | e <;> cases e

end Sys2Proof.Machine
end

section
/-! SUPPORT. A READY store under way: lessons opened, resumed and closed, entries queued, the writer's steps ended (R143 to R145,
R149 to R153). -/

namespace Sys2Proof.Machine

variable {s t : Store}

/-! ### Titles of the lessons queued for -/

theorem Store.titleOf_eq (h : (s.directory.map (·.id)).Nodup) {l : Lesson} (hl : l ∈ s.directory) :
    s.titleOf l.id = l.title := by
  rw [Store.titleOf, find_by_key h hl rfl]
  rfl

theorem Store.Listed.titleOf_eq (h : s.Listed) {l : Lesson} (hl : l ∈ s.directory) : s.titleOf l.id = l.title :=
  Store.titleOf_eq h.lessonNodup hl

/-- The titles of the lessons queued for stay where those lessons stay under their titles. -/
theorem Store.Listed.titles_eq (hs : s.Listed) (ht : t.Listed)
    (h : ∀ l ∈ s.directory, (∃ e ∈ s.queue, e.lesson = l.id) → ∃ m ∈ t.directory, m.id = l.id ∧ m.title = l.title) :
    ∀ e ∈ s.queue, t.titleOf e.lesson = s.titleOf e.lesson := by
  intro e he
  obtain ⟨l, hl, e'⟩ := hs.named e he
  obtain ⟨m, hm, hid, htitle⟩ := h l hl ⟨e, he, e'.symm⟩
  rw [← e', hs.titleOf_eq hl, ← hid, ht.titleOf_eq hm, htitle]

/-! ### Lessons changed, put in and taken out -/

/-- Lessons changed but for their pages. -/
theorem map_cells {f : Lesson → Lesson} (hf : ∀ l, (f l).pages = l.pages) (d : List Lesson) :
    (d.map f).flatMap Lesson.cells = d.flatMap Lesson.cells := by
  rw [List.flatMap_map]
  exact List.flatMap_congr fun l _ => congrArg (List.map PageRecord.cell) (hf l)

/-- Lessons changed but for their ids, titles, pages and delete. -/
theorem Store.Underway.mapped (h : s.Underway) (ht : t.Settled) {f : Lesson → Lesson}
    (hd : t.directory = s.directory.map f)
    (hf : ∀ l, (f l).id = l.id ∧ (f l).title = l.title ∧ (f l).pages = l.pages ∧ (f l).deleting = l.deleting)
    (hs : t.state = s.state) (hc : t.cells = s.cells) (hq : t.queue = s.queue) (hw : t.writer = s.writer)
    (ha : t.attempt = s.attempt) (hp : t.port = s.port) (hr : t.recallLoad = s.recallLoad)
    (hdw : t.deleteWork = s.deleteWork) : t.Underway := by
  have hpages : t.pageCells = s.pageCells := by
    rw [Store.pageCells_eq, Store.pageCells_eq, hd, map_cells fun l => (hf l).2.2.1]
  refine ⟨h.sound.kept ht hs (.of_eq hpages) (fun _ => by rw [hc]) (by rw [hp]) hr hdw
    (.of_map hd (fun l => (hf l).1) (fun l => (hf l).2.2.2) fun l p hpl => by rw [(hf l).2.2.1]; exact hpl), ?_⟩
  refine h.hand.same hw ha hq hc hp (h.sound.settled.listed.titles_eq ht.listed fun l hl _ => ⟨f l, ?_, (hf l).1, (hf l).2.1⟩)
  rw [hd]
  exact List.mem_map_of_mem hl

/-- A lesson without pages opened (R143). -/
theorem Store.Underway.opened (h : s.Underway) (ho : s.anyOpen = false) (hlen : s.directory.length < 64)
    {title : List Byte} (htitle : title.length ≤ 24) :
    Store.Underway { s with directory := insertLesson ⟨s.freeId, title, true, 1, false, []⟩ s.directory } := by
  have ht := h.sound.settled.opened h.sound.ready ho hlen htitle
  have hperm := insertLesson_perm ⟨s.freeId, title, true, 1, false, []⟩ s.directory
  have hmem : ∀ m ∈ s.directory, m ∈ insertLesson ⟨s.freeId, title, true, 1, false, []⟩ s.directory :=
    fun m hm => hperm.mem_iff.mpr (List.mem_cons_of_mem _ hm)
  refine ⟨h.sound.kept ht rfl (hperm.flatMap_right _) (fun _ => .rfl) (.refl _) rfl rfl
    ⟨fun l hl _ => ⟨l, hmem l hl, rfl, rfl, fun _ => id⟩, fun m hm hd => ?_⟩,
    h.hand.same rfl rfl rfl rfl rfl (h.sound.settled.listed.titles_eq ht.listed fun l hl _ => ⟨l, hmem l hl, rfl, rfl⟩)⟩
  rcases List.mem_cons.mp (hperm.mem_iff.mp hm) with rfl | hm
  · cases hd
  · exact ⟨m, hm, rfl, hd⟩

theorem Store.Underway.prune (h : s.Underway) (id : Nat) : (s.prune id).Underway := by
  have ht := h.sound.prune id
  refine ⟨ht, h.hand.same rfl rfl rfl rfl rfl
    (h.sound.settled.listed.titles_eq ht.settled.listed fun l hl hq => ⟨l, List.mem_filter.mpr ⟨hl, ?_⟩, rfl, rfl⟩)⟩
  rw [Store.removable, Store.queueNames_iff.mpr hq]
  simp

theorem Store.Underway.resumed (h : s.Underway) (ho : s.anyOpen = false) {l : Lesson} (hl : l ∈ s.directory)
    (hd : l.deleting = false) :
    (s.changeLesson l.id fun m => { m with isOpen := true, next := highest (s.ordinalsOf l) + 1 }).Underway :=
  h.mapped (h.sound.settled.resumed h.sound.ready ho hl hd) rfl (fun m => by dsimp only; split <;> exact ⟨rfl, rfl, rfl, rfl⟩)
    rfl rfl rfl rfl rfl rfl rfl rfl

theorem Store.Underway.closed (h : s.Underway) (id : Nat) :
    (s.changeLesson id fun l => { l with isOpen := false }).Underway :=
  h.mapped (h.sound.settled.closed id) rfl (fun m => by dsimp only; split <;> exact ⟨rfl, rfl, rfl, rfl⟩)
    rfl rfl rfl rfl rfl rfl rfl rfl

/-! ### An entry queued -/

/-- A waiting reclaim erase is the writer's one step. -/
theorem Store.Hand.reclaim_of_waiting (h : s.Hand) {c : Nat} (hc : PortStep.reclaimErase c ∈ s.port.waiting) :
    s.port.writerSteps = [.reclaimErase c] ∧ s.writer = .reclaim ∧ s.attempt = none ∧ s.cellsInHand = [(c, .erasing)] := by
  have hmem : PortStep.reclaimErase c ∈ s.port.writerSteps :=
    List.mem_filter.mpr ⟨Port.mem_steps.mpr (.inr hc), rfl⟩
  cases h with
  | idle _ _ hp => rw [hp] at hmem; cases hmem
  | erase a _ _ hp => rw [hp, List.mem_singleton] at hmem; cases hmem
  | program a _ _ _ _ hp => rw [hp, List.mem_singleton] at hmem; cases hmem
  | commit a _ _ hp => rw [hp, List.mem_singleton] at hmem; cases hmem
  | reclaim d hw ha hp hc =>
    rw [hp, List.mem_singleton] at hmem
    cases hmem
    exact ⟨hp, hw, ha, hc⟩

/-- The queue grows at its tail: the writer's head entry stays; a reclaim erase then is in flight (R153). -/
theorem Store.Hand.appended (h : s.Hand) {e : SaveEntry} (hq : t.queue = s.queue ++ [e]) (hw : t.writer = s.writer)
    (ha : t.attempt = s.attempt) (hp : t.port = s.port) (hc : t.cells = s.cells)
    (ht : ∀ e ∈ s.queue, t.titleOf e.lesson = s.titleOf e.lesson)
    (hr : ∀ c, s.port.writerSteps = [.reclaimErase c] → s.port.inFlight = some (.reclaimErase c)) : t.Hand := by
  have hcells : t.cellsInHand = s.cellsInHand := by rw [Store.cellsInHand, hc]; rfl
  have hne : t.queue ≠ [] := by rw [hq]; simp
  cases h with
  | idle hw' ha' hp' hc' => exact .idle (hw.trans hw') (ha.trans ha') (hp ▸ hp') (hcells.trans hc')
  | erase a hw' ha' hp' hc' hq' hs' ht' =>
    exact .erase a (hw.trans hw') (ha.trans ha') (hp ▸ hp') (hcells.trans hc') hne hs' ht'
  | program a d rest hw' ha' hp' hc' hq' hflight hwaits ht' =>
    refine .program a d (rest ++ [e]) (hw.trans hw') (ha.trans ha') (hp ▸ hp') (hcells.trans hc')
      (by rw [hq, hq']; rfl) ?_ (by rw [hp]; exact hwaits) ht'
    rw [hp, ht d (by rw [hq']; exact List.mem_cons_self)]
    exact hflight
  | commit a hw' ha' hp' hc' hq' hs' ht' =>
    exact .commit a (hw.trans hw') (ha.trans ha') (hp ▸ hp') (hcells.trans hc') hne hs' ht'
  | reclaim c hw' ha' hp' hc' hq' =>
    exact .reclaim c (hw.trans hw') (ha.trans ha') (hp ▸ hp') (hcells.trans hc') fun _ => hp ▸ hr c hp'

/-- The waiting reclaim erase, if there is one. -/
theorem findReclaim_mem {w : List PortStep} {c : Nat}
    (h : (w.findSome? fun | .reclaimErase c => some c | _ => none) = some c) : PortStep.reclaimErase c ∈ w := by
  obtain ⟨x, hx, e⟩ := List.exists_of_findSome?_eq_some h
  cases x <;> cases e
  exact hx

/-- A waiting reclaim erase withdrawn leaves the writer with nothing (R153). -/
theorem Store.withdrawn_writerSteps {c : Nat} (hp : s.port.writerSteps = [.reclaimErase c])
    (hc : PortStep.reclaimErase c ∈ s.port.waiting) :
    Port.writerSteps ⟨s.port.inFlight, s.port.waiting.erase (.reclaimErase c)⟩ = [] := by
  have hmem : PortStep.reclaimErase c ∈ s.port.waiting.filter PortStep.isWriters := List.mem_filter.mpr ⟨hc, rfl⟩
  rw [Port.writerSteps_eq, Port.steps, List.filter_append] at hp
  have hlen := congrArg List.length hp
  rw [List.length_append, List.length_singleton] at hlen
  have hpos := List.length_pos_of_mem hmem
  have hflight : s.port.inFlight.toList.filter PortStep.isWriters = [] := List.length_eq_zero_iff.mp (by omega)
  rw [hflight, List.nil_append] at hp
  rw [Port.writerSteps_eq, Port.steps, List.filter_append, hflight, List.nil_append, ← List.erase_filter, hp]
  simp

theorem Store.withdrawn_hostSteps (s : Store) (c : Nat) :
    Port.hostSteps ⟨s.port.inFlight, s.port.waiting.erase (.reclaimErase c)⟩ = s.port.hostSteps := by
  rw [Port.hostSteps, Port.hostSteps, Port.steps, Port.steps, List.filter_append, List.filter_append, ← List.erase_filter]
  refine congrArg _ (List.erase_of_not_mem fun hm => ?_)
  obtain ⟨-, hno⟩ := List.mem_filter.mp hm
  cases hno

/-- A lesson's next ordinal raised changes nothing else of the directory (R124). -/
theorem Store.advanceOrdinal_directory (s : Store) (id : Nat) :
    ∃ f : Lesson → Lesson, (s.advanceOrdinal id).directory = s.directory.map f ∧
      ∀ l, (f l).id = l.id ∧ (f l).title = l.title ∧ (f l).pages = l.pages ∧ (f l).deleting = l.deleting :=
  ⟨_, rfl, fun l => by split <;> exact ⟨rfl, rfl, rfl, rfl⟩⟩

/-- An entry joins the queue for the open lesson (R124, R153). -/
theorem Store.Underway.append (h : s.Underway) {e : SaveEntry} {l : Lesson} (hl : s.openLesson = some l)
    (he : e.lesson = l.id) (hn : e.ordinal = l.next) (hle : l.next ≤ 255) : (s.append e).Underway := by
  have ht := h.sound.settled.append hl he hn hle
  obtain ⟨f, hd, hf⟩ := s.advanceOrdinal_directory e.lesson
  have hpages : (s.advanceOrdinal e.lesson).pageCells = s.pageCells := by
    rw [Store.pageCells_eq, Store.pageCells_eq, hd, map_cells fun m => (hf m).2.2.1]
  have hretains : ∀ {t : Store}, t.directory = (s.advanceOrdinal e.lesson).directory → s.Retains t := fun hdt =>
    .of_map (hdt.trans hd) (fun m => (hf m).1) (fun m => (hf m).2.2.2) fun m p hp => by rw [(hf m).2.2.1]; exact hp
  have htitles : ∀ {t : Store}, t.Listed → t.directory = (s.advanceOrdinal e.lesson).directory →
      ∀ d ∈ s.queue, t.titleOf d.lesson = s.titleOf d.lesson := fun hlist hdt =>
    h.sound.settled.listed.titles_eq hlist fun m hm _ =>
      ⟨_, by rw [hdt, hd]; exact List.mem_map_of_mem hm, (hf m).1, (hf m).2.1⟩
  unfold Store.append Store.withdrawReclaim at ht ⊢
  split at ht
  · rename_i c hfind
    have hwait : PortStep.reclaimErase c ∈ s.port.waiting := findReclaim_mem hfind
    obtain ⟨hp, hw, ha, hc⟩ := h.hand.reclaim_of_waiting hwait
    obtain ⟨hcell, -, -⟩ := Store.cellsInHand_eq_singleton.mp hc
    refine ⟨h.sound.kept ht rfl (.of_eq hpages) (Store.setCell_used hcell (by decide) (by decide))
      (.of_eq (s.withdrawn_hostSteps c)) rfl rfl (hretains rfl), ?_⟩
    exact .idle rfl ha (s.withdrawn_writerSteps hp hwait) (Store.cellsInHand_released hc rfl)
  · rename_i hfind
    refine ⟨h.sound.kept ht rfl (.of_eq hpages) (fun _ => .rfl) (.refl _) rfl rfl (hretains rfl),
      h.hand.appended rfl rfl rfl rfl rfl (htitles ht.listed rfl) fun c hp => ?_⟩
    have hmem : PortStep.reclaimErase c ∈ s.port.writerSteps := by rw [hp]; exact List.mem_singleton_self _
    rcases Port.mem_steps.mp (List.mem_filter.mp hmem).1 with hx | hx
    · exact hx
    · have := List.findSome?_eq_none_iff.mp hfind _ hx
      cases this

/-! ### The writer's steps ended -/

/-- A writer's step in flight is its one step. -/
theorem Store.Hand.step_eq (h : s.Hand) {x : PortStep} (hf : s.port.inFlight = some x) (hx : x.isWriters = true) :
    s.port.writerSteps = [x] := by
  have := h.steps_le_one
  rw [Store.writerSteps_endStep hf, if_pos hx] at this ⊢
  rw [List.length_cons] at this
  have hnil : s.endStep.port.writerSteps = [] := List.length_eq_zero_iff.mp (by omega)
  rw [hnil]

/-- The end of a writer's step leaves it none at the port. -/
theorem Store.Hand.endStep_writerSteps (h : s.Hand) {x : PortStep} (hf : s.port.inFlight = some x)
    (hx : x.isWriters = true) : s.endStep.port.writerSteps = [] := by
  have := h.step_eq hf hx
  rw [Store.writerSteps_endStep hf, if_pos hx] at this
  exact List.cons.inj this |>.2

/-- The end of a writer's step leaves the other steps. -/
theorem Store.endStep_hostSteps {x : PortStep} (hf : s.port.inFlight = some x) (hx : x.isWriters = true) :
    s.endStep.port.hostSteps = s.port.hostSteps := by
  rw [Store.hostSteps_endStep hf, if_pos hx]

theorem Store.Sound.endWriterStep (h : s.Sound) {x : PortStep} (hf : s.port.inFlight = some x)
    (hx : x.isWriters = true) : s.endStep.Sound :=
  h.same h.settled.endStep rfl rfl (fun _ => .rfl) (.of_eq (Store.endStep_hostSteps hf hx)) rfl rfl

/-- A save's step in flight: its attempt, its cell in hand and a head entry (R149). -/
theorem Store.Hand.saving (h : s.Hand) {x : PortStep} (hf : s.port.inFlight = some x) {c : Nat}
    (hx : x = .saveErase c ∨ x = .saveProgram c ∨ x = .saveCommit c) :
    s.queue ≠ [] ∧ ∃ v, s.cellsInHand = [(c, v)] ∧ v.busy = true := by
  have hstep := h.step_eq hf (by rcases hx with rfl | rfl | rfl <;> rfl)
  cases h with
  | idle _ _ hp => rw [hp] at hstep; cases hstep
  | erase a _ _ hp hc hq =>
    rw [hp] at hstep
    cases hstep
    have : a.cell = c := by rcases hx with e | e | e <;> cases e; rfl
    exact ⟨hq, _, this ▸ hc, rfl⟩
  | program a e rest _ _ hp hc hq =>
    rw [hp] at hstep
    cases hstep
    have : a.cell = c := by rcases hx with e | e | e <;> cases e; rfl
    exact ⟨by rw [hq]; simp, _, this ▸ hc, rfl⟩
  | commit a _ _ hp hc hq =>
    rw [hp] at hstep
    cases hstep
    have : a.cell = c := by rcases hx with e | e | e <;> cases e; rfl
    exact ⟨hq, _, this ▸ hc, rfl⟩
  | reclaim d _ _ hp =>
    rw [hp] at hstep
    cases hstep
    rcases hx with e | e | e <;> cases e

theorem CellState.busy_ne_used {v : CellState} (h : v.busy = true) : v ≠ .used := by
  rintro rfl
  cases h

/-- A save's step ended, its cell done with: nothing of the writer is at the port or in hand. -/
theorem Store.Underway.savingEnded (h : s.Underway) {x : PortStep} (hf : s.port.inFlight = some x) {c : Nat}
    (hx : x = .saveErase c ∨ x = .saveProgram c ∨ x = .saveCommit c) : (s.endStep.setCell c .bad).Loose := by
  have hw : x.isWriters = true := by rcases hx with rfl | rfl | rfl <;> rfl
  obtain ⟨-, v, hc, hv⟩ := h.hand.saving hf hx
  obtain ⟨hcell, -, -⟩ := Store.cellsInHand_eq_singleton.mp hc
  exact ⟨(h.sound.endWriterStep hf hw).setCell hcell (CellState.busy_ne_used hv) (by decide),
    h.hand.endStep_writerSteps hf hw, Store.cellsInHand_released (s := s) hc rfl⟩

/-- A save's step failed (R151). -/
theorem Store.Underway.failSave (h : s.Underway) {x : PortStep} (hf : s.port.inFlight = some x) {c : Nat}
    (hx : x = .saveErase c ∨ x = .saveProgram c ∨ x = .saveCommit c) : (s.endStep.failSave c).Underway := by
  have hloose := h.savingEnded hf hx
  obtain ⟨hq, -⟩ := h.hand.saving hf hx
  unfold Store.failSave
  split
  · rename_i ht
    exact (hloose.chooseCell hq ht).1
  · exact (hloose.dropHead hq).1

/-- A save's cell erased: its program is asked for (R149). -/
theorem Store.Underway.saveErased (h : s.Underway) {c : Nat} (hf : s.port.inFlight = some (.saveErase c)) :
    (({ s.endStep.setCell c .writing with writer := .program }).ask (.saveProgram c)).Underway := by
  have hsteps := h.hand.endStep_writerSteps hf rfl
  have hstep := h.hand.step_eq hf rfl
  have hset : Store.Settled (({ s.endStep.setCell c .writing with writer := .program }).ask (.saveProgram c)) := by
    refine Store.Settled.ask ?_ (by simp [PortStep.rank])
    exact (h.sound.settled.endStep.setCell c .writing).kept rfl rfl rfl rfl (fun _ => .inl) rfl rfl rfl
  cases h.hand with
  | erase a hw ha hp hc hq hs ht =>
    rw [hp] at hstep
    cases hstep
    obtain ⟨hcell, -, -⟩ := Store.cellsInHand_eq_singleton.mp hc
    obtain ⟨e, rest, hq⟩ := List.exists_cons_of_ne_nil hq
    refine ⟨h.sound.same hset rfl rfl (Store.setCell_used hcell (by decide) (by decide)) (.of_eq ?_) rfl rfl,
      .program a e rest rfl ha ((Store.ask_writerSteps _ _).trans (congrArg (· ++ _) hsteps))
        (Store.cellsInHand_turned (s := s) hc rfl) hq nofun (fun _ => hs) ht⟩
    exact (Store.ask_hostSteps _ _).trans ((List.append_nil _).trans (Store.endStep_hostSteps hf rfl))
  | idle _ _ hp => rw [hp] at hstep; cases hstep
  | program a _ _ _ _ hp => rw [hp] at hstep; cases hstep
  | commit a _ _ hp => rw [hp] at hstep; cases hstep
  | reclaim d _ _ hp => rw [hp] at hstep; cases hstep

/-- A save's page programmed: its commit is asked for (R149). -/
theorem Store.Underway.programmed (h : s.Underway) {c : Nat} (hf : s.port.inFlight = some (.saveProgram c)) :
    (({ s.endStep with writer := .commit }).ask (.saveCommit c)).Underway := by
  have hsteps := h.hand.endStep_writerSteps hf rfl
  have hstep := h.hand.step_eq hf rfl
  have hset : Store.Settled (({ s.endStep with writer := .commit }).ask (.saveCommit c)) := by
    refine Store.Settled.ask ?_ (by simp [PortStep.rank])
    exact h.sound.settled.endStep.kept rfl rfl rfl rfl (fun _ => .inl) rfl rfl rfl
  cases h.hand with
  | program a e rest hw ha hp hc hq hflight hwaits ht =>
    rw [hp] at hstep
    cases hstep
    obtain ⟨n, hn, -⟩ := hflight hf
    refine ⟨h.sound.same hset rfl rfl (fun _ => .rfl) (.of_eq ?_) rfl rfl,
      .commit a rfl ha ((Store.ask_writerSteps _ _).trans (congrArg (· ++ _) hsteps)) hc
        (by show s.queue ≠ []; rw [hq]; simp) (by rw [hn]; exact nofun) ht⟩
    exact (Store.ask_hostSteps _ _).trans ((List.append_nil _).trans (Store.endStep_hostSteps hf rfl))
  | idle _ _ hp => rw [hp] at hstep; cases hstep
  | erase a _ _ hp => rw [hp] at hstep; cases hstep
  | commit a _ _ hp => rw [hp] at hstep; cases hstep
  | reclaim d _ _ hp => rw [hp] at hstep; cases hstep

/-- One lesson's page list with one page more. -/
theorem addPage_cells {p : PageRecord} {id : Nat} {d : List Lesson} (hn : (d.map (·.id)).Nodup)
    (hid : ∃ l ∈ d, l.id = id) :
    ((d.map fun l => if l.id = id then { l with pages := insertPage p l.pages } else l).flatMap Lesson.cells).Perm
      (p.cell :: d.flatMap Lesson.cells) := by
  induction d with
  | nil => obtain ⟨l, hl, -⟩ := hid; cases hl
  | cons l d ih =>
    obtain ⟨hfirst, hn⟩ := List.nodup_cons.mp hn
    rw [List.map_cons, List.flatMap_cons, List.flatMap_cons]
    by_cases hl : l.id = id
    · have hrest : d.map (fun l => if l.id = id then { l with pages := insertPage p l.pages } else l) = d := by
        refine (List.map_congr_left fun m hm => ?_).trans (List.map_id d)
        exact if_neg fun hmid => hfirst (List.mem_map.mpr ⟨m, hm, hmid.trans hl.symm⟩)
      rw [hrest, if_pos hl]
      exact ((insertPage_perm p l.pages).map (·.cell)).append_right _
    · obtain ⟨m, hm, hmid⟩ := hid
      have hm : m ∈ d := (List.mem_cons.mp hm).resolve_left fun e => hl (e ▸ hmid)
      rw [if_neg hl]
      exact ((ih hn ⟨m, hm, hmid⟩).append_left _).trans List.perm_middle

/-- A page committed: its cell USED, its page listed, its entry gone (R150). -/
theorem Store.Underway.commit (h : s.Underway) {c : Nat} (hf : s.port.inFlight = some (.saveCommit c)) :
    (s.endStep.commit c).Underway := by
  obtain ⟨hq, v, hc, hv⟩ := h.hand.saving hf (.inr (.inr rfl))
  obtain ⟨hcell, -, -⟩ := Store.cellsInHand_eq_singleton.mp hc
  obtain ⟨e, rest, hq⟩ := List.exists_cons_of_ne_nil hq
  have hset := h.sound.settled.endStep.paged (e := e) (rest := rest) hq c s.attemptStamp
  have hperm := addPage_cells (p := ⟨c, e.ordinal, s.attemptStamp⟩) h.sound.settled.listed.lessonNodup
    (h.sound.settled.listed.named e (by rw [hq]; exact List.mem_cons_self))
  have hfresh : c ∉ s.pageCells := fun hm => by
    rw [h.sound.used, hcell] at hm
    exact CellState.busy_ne_used hv (Option.some.inj hm)
  have hcommit : s.endStep.commit c = Store.prune { (s.endStep.setCell c .used).addPage e.lesson
      ⟨c, e.ordinal, s.attemptStamp⟩ with queue := rest, writer := .idle, attempt := none } e.lesson := by
    unfold Store.commit
    rw [show s.endStep.queue = e :: rest from hq]
    exact Store.dropHead_cons hq
  rw [hcommit]
  refine Store.Underway.prune ⟨?_, ?_⟩ e.lesson
  case refine_2 =>
    exact .idle rfl rfl (h.hand.endStep_writerSteps hf rfl) (Store.cellsInHand_released (s := s) (v := .used) hc rfl)
  refine h.sound.changed hset rfl (hperm.nodup_iff.mpr (List.nodup_cons.mpr ⟨hfresh, h.sound.nodup⟩)) (fun k => ?_)
    (.of_eq (Store.endStep_hostSteps hf rfl)) rfl rfl
    (.of_map rfl (fun l => by split <;> rfl) (fun l => by split <;> rfl) fun l p hp => ?_)
  · refine hperm.mem_iff.trans (List.mem_cons.trans ?_)
    show k = c ∨ k ∈ s.pageCells ↔ (s.setCell c .used).cells[k]? = some .used
    by_cases hk : k = c
    · subst hk
      rw [Store.setCell_getElem?_self hcell]
      simp
    · rw [Store.setCell_getElem?_other hk, ← h.sound.used]
      simp [hk]
  · split
    · exact (insertPage_perm _ _).mem_iff.mpr (List.mem_cons_of_mem _ hp)
    · exact hp

/-- A reclaim erase ended: its cell ERASED or BAD, the writer IDLE (R152, R153). -/
theorem Store.Underway.reclaimed (h : s.Underway) {c : Nat} (hf : s.port.inFlight = some (.reclaimErase c))
    {x : CellState} (hx : x = .erased ∨ x = .bad) :
    Store.Underway { s.endStep.setCell c x with writer := .idle } := by
  have hstep := h.hand.step_eq hf rfl
  cases h.hand with
  | reclaim d hw ha hp hc hq =>
    rw [hp] at hstep
    cases hstep
    obtain ⟨hcell, -, -⟩ := Store.cellsInHand_eq_singleton.mp hc
    have hset : Store.Settled { s.endStep.setCell c x with writer := .idle } :=
      (h.sound.settled.endStep.setCell c x).kept rfl rfl rfl rfl (fun _ => .inl) rfl rfl rfl
    refine ⟨h.sound.same hset rfl rfl (Store.setCell_used hcell (by decide) (by rcases hx with rfl | rfl <;> decide))
      (.of_eq (Store.endStep_hostSteps hf rfl)) rfl rfl, .idle rfl ha (h.hand.endStep_writerSteps hf rfl)
      (Store.cellsInHand_released (s := s) hc (by rcases hx with rfl | rfl <;> rfl))⟩
  | idle _ _ hp => rw [hp] at hstep; cases hstep
  | erase a _ _ hp => rw [hp] at hstep; cases hstep
  | program a _ _ _ _ hp => rw [hp] at hstep; cases hstep
  | commit a _ _ hp => rw [hp] at hstep; cases hstep

end Sys2Proof.Machine
end

section
/-! SUPPORT. A READY store under way: tombstones, recall reads and exports asked for and ended (R155 to R159). -/

namespace Sys2Proof.Machine

variable {s t : Store} {x : PortStep}

/-! ### Readings of the port, where a step is asked for or ends -/

theorem filterMap_concat_toList {α β : Type} (f : α → Option β) (l : List α) (a : α) :
    (l ++ [a]).filterMap f = l.filterMap f ++ (f a).toList := by
  rw [List.filterMap_append]
  cases h : f a <;> simp [h]

theorem filterMap_cons_toList {α β : Type} (f : α → Option β) (a : α) (l : List α) :
    (a :: l).filterMap f = (f a).toList ++ l.filterMap f := by
  cases h : f a <;> simp [h]

section

variable (hx : x.isWriters = false)

include hx

theorem Store.ask_host (s : Store) : (s.ask x).port.hostSteps = s.port.hostSteps ++ [x] := by
  rw [Store.ask_hostSteps, hx]
  rfl

theorem Store.ask_writers (s : Store) : (s.ask x).port.writerSteps = s.port.writerSteps := by
  rw [Store.ask_writerSteps, hx]
  exact List.append_nil _

theorem Store.endStep_host (hf : s.port.inFlight = some x) : s.port.hostSteps = x :: s.endStep.port.hostSteps := by
  rw [Store.hostSteps_endStep hf, hx]
  rfl

theorem Store.endStep_writers (hf : s.port.inFlight = some x) : s.endStep.port.writerSteps = s.port.writerSteps := by
  rw [Store.writerSteps_endStep hf, hx]
  rfl

/-! Each reading, with the step asked for behind the others. -/

theorem Store.ask_tombstones (s : Store) : (s.ask x).port.tombstones = s.port.tombstones ++ x.mark.toList := by
  rw [Port.tombstones_eq, Store.ask_host hx, filterMap_concat_toList, ← Port.tombstones_eq]

theorem Store.ask_recallReads (s : Store) : (s.ask x).port.recallReads = s.port.recallReads ++ x.recallCell.toList := by
  rw [Port.recallReads_eq, Store.ask_host hx, filterMap_concat_toList, ← Port.recallReads_eq]

theorem Store.ask_deletes (s : Store) : (s.ask x).port.deletes = s.port.deletes ++ x.deleteOf.toList := by
  rw [Port.deletes_eq, Store.ask_host hx, filterMap_concat_toList, ← Port.deletes_eq]

theorem Store.ask_pageDeletes (s : Store) :
    (s.ask x).port.pageDeletes = s.port.pageDeletes ++ x.pageDeleteOf.toList := by
  rw [Port.pageDeletes_eq, Store.ask_host hx, filterMap_concat_toList, ← Port.pageDeletes_eq]

theorem Store.ask_exports (s : Store) :
    (s.ask x).port.exports = s.port.exports + if x.isExport then 1 else 0 := by
  rw [Port.exports_eq, Store.ask_host hx, List.countP_append, ← Port.exports_eq, List.countP_singleton]

theorem Store.ask_deferred (s : Store) :
    (s.ask x).port.deferred = s.port.deferred + if x.isDeferred then 1 else 0 := by
  rw [Port.deferred_eq, Store.ask_host hx, List.countP_append, ← Port.deferred_eq, List.countP_singleton]

/-! Each reading, with the step that ends before the others. -/

variable (hf : s.port.inFlight = some x)

include hf

theorem Store.endStep_tombstones : s.port.tombstones = x.mark.toList ++ s.endStep.port.tombstones := by
  rw [Port.tombstones_eq, Store.endStep_host hx hf, filterMap_cons_toList, ← Port.tombstones_eq]

theorem Store.endStep_recallReads : s.port.recallReads = x.recallCell.toList ++ s.endStep.port.recallReads := by
  rw [Port.recallReads_eq, Store.endStep_host hx hf, filterMap_cons_toList, ← Port.recallReads_eq]

theorem Store.endStep_deletes : s.port.deletes = x.deleteOf.toList ++ s.endStep.port.deletes := by
  rw [Port.deletes_eq, Store.endStep_host hx hf, filterMap_cons_toList, ← Port.deletes_eq]

theorem Store.endStep_pageDeletes : s.port.pageDeletes = x.pageDeleteOf.toList ++ s.endStep.port.pageDeletes := by
  rw [Port.pageDeletes_eq, Store.endStep_host hx hf, filterMap_cons_toList, ← Port.pageDeletes_eq]

theorem Store.endStep_exports_le : s.endStep.port.exports ≤ s.port.exports := by
  rw [Port.exports_eq s.port, Store.endStep_host hx hf, List.countP_cons, ← Port.exports_eq]
  exact Nat.le_add_right _ _

theorem Store.endStep_deferred : s.port.deferred = s.endStep.port.deferred + if x.isDeferred then 1 else 0 := by
  rw [Port.deferred_eq s.port, Store.endStep_host hx hf, List.countP_cons, ← Port.deferred_eq]

end

/-- A tombstone at the port is a lesson delete's or a page delete's. -/
theorem Port.tombstone_lesson {p : Port} {m : Nat × Nat × Nat} (h : m ∈ p.tombstones) :
    m.1 ∈ p.deletes ∨ m.1 ∈ p.pageDeletes := by
  rw [Port.tombstones_eq] at h
  obtain ⟨x, hx, e⟩ := List.mem_filterMap.mp h
  rw [Port.deletes_eq, Port.pageDeletes_eq]
  rcases x with _ | _ | _ | _ | _ | ⟨l, o, c, _ | _⟩ | _ | _ | _ | _ <;> cases e
  · exact .inl (List.mem_filterMap.mpr ⟨_, hx, rfl⟩)
  · exact .inr (List.mem_filterMap.mpr ⟨_, hx, rfl⟩)

/-! ### A step asked for -/

/-- A page of the directory. -/
def Store.Holds (s : Store) (m : Nat × Nat × Nat) : Prop :=
  ∃ l ∈ s.directory, l.id = m.1 ∧ ∃ p ∈ l.pages, p.ordinal = m.2.1 ∧ p.cell = m.2.2

/-- A step of a request or a delete asked for, with the recall it is for. -/
theorem Store.Matched.asked (h : s.Matched) (hx : x.isWriters = false) (hr : x.rank ≠ 0) {load : Option RecallLoad}
    (hm : ∀ m, x.mark = some m → m ∉ s.port.tombstones ∧ s.Holds m)
    (hl : s.port.recallReads ++ x.recallCell.toList = (load.map (·.cell)).toList)
    (he : x.isExport = true → s.port.exports = 0)
    (hd : ∀ id, x.pageDeleteOf = some id → ∀ l ∈ s.directory, l.deleting = true → l.id ≠ id) :
    (({ s with recallLoad := load }).ask x).Matched where
  ready := h.ready
  settled := by
    have hload : Store.Settled { s with recallLoad := load } :=
      h.settled.kept rfl rfl rfl rfl (fun _ => .inl) rfl rfl rfl
    exact hload.ask hr
  nodup := h.nodup
  used := h.used
  marks := by
    rw [Store.ask_tombstones hx]
    refine List.nodup_append.mpr ⟨h.marks, ?_, fun a ha b hb e => ?_⟩
    · cases x.mark <;> simp
    · exact (hm b (Option.mem_toList.mp hb)).1 (e ▸ ha)
  marked m hmem := by
    rw [Store.ask_tombstones hx] at hmem
    rcases List.mem_append.mp hmem with hmem | hmem
    · exact h.marked m hmem
    · exact (hm m (Option.mem_toList.mp hmem)).2
  loads := (Store.ask_recallReads hx _).trans hl
  exports := by
    rw [Store.ask_exports hx]
    show s.port.exports + _ ≤ 1
    split
    · rename_i hexp
      rw [he hexp]
    · exact h.exports
  undeleted l hmem hdel := by
    rw [Store.ask_pageDeletes hx]
    intro hid
    rcases List.mem_append.mp hid with hid | hid
    · exact h.undeleted l hmem hdel hid
    · exact hd l.id (Option.mem_toList.mp hid) l hmem hdel rfl

theorem Store.Hand.asked (h : s.Hand) (hx : x.isWriters = false) (load : Option RecallLoad) :
    (({ s with recallLoad := load }).ask x).Hand :=
  h.congr rfl rfl rfl (Store.ask_writers hx _) rfl (fun _ _ => .rfl) fun _ _ => rfl

/-- A step of a request asked for. -/
theorem Store.Underway.asked (h : s.Underway) (hx : x.isWriters = false) (hr : x.rank ≠ 0) {load : Option RecallLoad}
    (hm : ∀ m, x.mark = some m → m ∉ s.port.tombstones ∧ s.Holds m)
    (hl : s.port.recallReads ++ x.recallCell.toList = (load.map (·.cell)).toList)
    (he : x.isExport = true → s.port.exports = 0)
    (hd : ∀ id, x.pageDeleteOf = some id → ∀ l ∈ s.directory, l.deleting = true → l.id ≠ id)
    (hdel : x.deleteOf = none) : (({ s with recallLoad := load }).ask x).Underway := by
  refine ⟨⟨h.sound.asked hx hr hm hl he hd, ?_, h.sound.work⟩, h.hand.asked hx load⟩
  rw [Store.ask_deletes hx, hdel]
  exact (List.append_nil _).trans h.sound.deletes

/-- PAGE DELETE's tombstone asked for, with no reply deferred (R156). -/
theorem Store.Underway.askPageDelete (h : s.Underway) (hz : s.port.deferred = 0) {l : Lesson} (hl : l ∈ s.directory)
    (hd : l.deleting = false) {p : PageRecord} (hp : p ∈ l.pages) (tag : Byte) :
    (s.ask (.tombstone l.id p.ordinal p.cell (some tag))).Underway := by
  have hundel : ∀ m ∈ s.directory, m.deleting = true → m.id ≠ l.id := fun m hm hmd e => by
    rw [h.sound.settled.listed.lesson_eq hm hl e, hd] at hmd
    cases hmd
  refine h.asked rfl (by simp [PortStep.rank]) (fun m hm => ?_) ((List.append_nil _).trans h.sound.loads) nofun
    (fun id hid => ?_) rfl
  · cases hm
    refine ⟨fun hmem => ?_, l, hl, rfl, p, hp, rfl, rfl⟩
    rcases Port.tombstone_lesson hmem with hdel | hpage
    · rw [h.sound.deletes, Option.mem_toList] at hdel
      obtain ⟨d, hw, e⟩ := Option.map_eq_some_iff.mp hdel
      obtain ⟨m, hm, hid, hmd⟩ := h.sound.work d hw
      exact hundel m hm hmd (hid.trans e)
    · rw [(Port.deferred_zero hz).2] at hpage
      cases hpage
  · cases hid
    exact hundel

/-- PAGE READ's read asked for, with no reply deferred (R159). -/
theorem Store.Underway.askExport (h : s.Underway) (hz : s.port.deferred = 0) (tag : Byte) (cell offset length : Nat)
    (adjusted : Bool) : (s.ask (.exportRead tag cell offset length adjusted)).Underway :=
  h.asked rfl (by simp [PortStep.rank]) nofun ((List.append_nil _).trans h.sound.loads) (fun _ => (Port.deferred_zero hz).1)
    nofun rfl

/-- PAGE RECALL's read asked for, with no recall in hand (R157). -/
theorem Store.Underway.askRecall (h : s.Underway) (hn : s.recallLoad = none) (r : RecallLoad) :
    (({ s with recallLoad := some r }).ask (.recallRead r.cell)).Underway := by
  refine h.asked rfl (by simp [PortStep.rank]) nofun ?_ nofun nofun rfl
  rw [h.sound.loads, hn]
  rfl

/-! ### A lesson delete -/

/-- The lesson under delete is the one of its id whose deleting flag is set (R155). -/
theorem Store.underDelete_eq (h : (s.directory.map (·.id)).Nodup) {l : Lesson} (hl : l ∈ s.directory) {d : DeleteWork}
    (hid : l.id = d.lesson) (hdel : l.deleting = true) : s.underDelete d = some l := by
  have hsome : (s.underDelete d).isSome = true :=
    List.find?_isSome.mpr ⟨l, hl, by rw [hid, hdel, beq_self_eq_true]; rfl⟩
  obtain ⟨m, hm⟩ := Option.isSome_iff_exists.mp hsome
  have hpm := List.find?_some hm
  simp only [Bool.and_eq_true, beq_iff_eq] at hpm
  rw [hm, List.inj_on_of_nodup_map h (List.mem_of_find?_eq_some hm) hl (hpm.1.trans hid.symm)]

/-- The next tombstone of a lesson delete, for the first page of its list (R155). -/
theorem Store.continueDelete_cons {l : Lesson} {d : DeleteWork} (h : s.underDelete d = some l) {p : PageRecord}
    {rest : List PageRecord} (hp : l.pages = p :: rest) :
    s.continueDelete d = s.ask (.tombstone d.lesson p.ordinal p.cell none) := by
  simp [Store.continueDelete, h, hp]

/-- The end of a lesson delete, its page list empty (R155). -/
theorem Store.continueDelete_nil {l : Lesson} {d : DeleteWork} (h : s.underDelete d = some l) (hp : l.pages = []) :
    s.continueDelete d = s.endDelete d := by
  simp [Store.continueDelete, h, hp]

/-- A lesson delete goes on: its next tombstone asked for, or its lesson gone (R155). -/
theorem Store.Matched.continueDelete (h : s.Matched) {d : DeleteWork} (hw : s.deleteWork = some d)
    (hn : s.port.deletes = []) (hl : ∃ l ∈ s.directory, l.id = d.lesson ∧ l.deleting = true) :
    (s.continueDelete d).Sound := by
  have hset := h.settled.continueDelete (d := d) (by rw [hw]; rfl)
  obtain ⟨l, hl, hid, hdel⟩ := hl
  have hunder := Store.underDelete_eq h.settled.listed.lessonNodup hl hid hdel
  cases hpages : l.pages with
  | cons p rest =>
    have hp : p ∈ l.pages := by rw [hpages]; exact List.mem_cons_self
    rw [Store.continueDelete_cons hunder hpages]
    refine ⟨h.asked rfl (by simp [PortStep.rank]) (fun m hm => ?_) ((List.append_nil _).trans h.loads) nofun nofun, ?_,
      fun d' hd' => ?_⟩
    · cases hm
      refine ⟨fun hmem => ?_, l, hl, hid, p, hp, rfl, rfl⟩
      rcases Port.tombstone_lesson hmem with hdel' | hpage
      · rw [hn] at hdel'
        cases hdel'
      · exact h.undeleted l hl hdel (hid ▸ hpage)
    · rw [Store.ask_deletes rfl, hn]
      show _ = (s.deleteWork.map (·.lesson)).toList
      rw [hw]
      rfl
    · cases hw.symm.trans hd'
      exact ⟨l, hl, hid, hdel⟩
  | nil =>
    rw [Store.continueDelete_nil hunder hpages] at hset ⊢
    have hgone : ∀ m ∈ s.directory, (!(m.id == d.lesson && m.deleting)) = false → m.pages = [] := fun m hm hpm => by
      simp only [Bool.not_eq_false', Bool.and_eq_true, beq_iff_eq] at hpm
      rw [h.settled.listed.lesson_eq hm hl (hpm.1.trans hid.symm), hpages]
    have hcells : (s.endDelete d).pageCells = s.pageCells := filter_cells hgone
    exact ⟨h.changed hset rfl (hcells ▸ h.nodup) (fun c => by rw [hcells]; exact h.used c) (.refl _) rfl
      (.of_filter rfl hgone), hn, nofun⟩

theorem Store.Hand.continueDelete (h : s.Hand) (hs : s.Settled) {d : DeleteWork} (hw : s.deleteWork = some d) :
    (s.continueDelete d).Hand := by
  have hset := hs.continueDelete (d := d) (by rw [hw]; rfl)
  unfold Store.continueDelete at hset ⊢
  split at hset
  · exact h.asked rfl _
  · refine h.same rfl rfl rfl rfl rfl (hs.listed.titles_eq hset.listed fun l hl ⟨e, he, hel⟩ =>
      ⟨l, List.mem_filter.mpr ⟨hl, ?_⟩, rfl, rfl⟩)
    by_contra hno
    simp only [Bool.not_eq_true', Bool.not_eq_false, Bool.and_eq_true] at hno
    exact Store.queuedOrdinals_eq_nil.mp ((hs.listed.lesson l hl).deleting hno.2).2.1 e he hel

/-- LESSON DELETE accepted, with no reply deferred (R155). -/
theorem Store.Underway.beginDelete (h : s.Underway) (hz : s.port.deferred = 0) {l : Lesson} (hl : l ∈ s.directory)
    (ho : l.isOpen = false) (hq : s.queueNames l.id = false) (hw : s.deleteWork = none) :
    ((s.deleteBegun l.id).continueDelete ⟨l.id, 0, 0⟩).Underway := by
  have hset := h.sound.settled.deleteBegun hl ho hq hw
  have hf : ∀ m : Lesson, (if m.id = l.id then { m with deleting := true } else m).id = m.id ∧
      (if m.id = l.id then { m with deleting := true } else m).title = m.title ∧
      (if m.id = l.id then { m with deleting := true } else m).pages = m.pages := fun m => by
    split <;> exact ⟨rfl, rfl, rfl⟩
  have hmem : ∀ m ∈ s.directory, (if m.id = l.id then { m with deleting := true } else m) ∈ (s.deleteBegun l.id).directory :=
    fun m hm => List.mem_map_of_mem hm
  have hcells : (s.deleteBegun l.id).pageCells = s.pageCells := map_cells (fun m => (hf m).2.2) s.directory
  have hmatched : (s.deleteBegun l.id).Matched := by
    refine ⟨h.sound.ready, hset, hcells ▸ h.sound.nodup, fun c => by rw [hcells]; exact h.sound.used c, h.sound.marks,
      fun x hx => ?_, h.sound.loads, h.sound.exports, fun m _ _ => ?_⟩
    · obtain ⟨m, hm, e, p, hp, hpe⟩ := h.sound.marked x hx
      exact ⟨_, hmem m hm, (hf m).1.trans e, p, by rw [(hf m).2.2]; exact hp, hpe⟩
    · show m.id ∉ s.port.pageDeletes
      rw [(Port.deferred_zero hz).2]
      exact List.not_mem_nil
  have hnone : (s.deleteBegun l.id).port.deletes = [] := by
    show s.port.deletes = []
    rw [h.sound.deletes, hw]
    rfl
  have hhand : (s.deleteBegun l.id).Hand := h.hand.same rfl rfl rfl rfl rfl
    (h.sound.settled.listed.titles_eq hset.listed fun m hm _ => ⟨_, hmem m hm, (hf m).1, (hf m).2.1⟩)
  refine ⟨hmatched.continueDelete rfl hnone ⟨_, hmem l hl, (hf l).1, ?_⟩, hhand.continueDelete hset rfl⟩
  rw [if_pos rfl]

/-! ### A tombstone ended -/

/-- The page lists without the page of a tombstone (R155, R156). -/
theorem Store.Sound.tombstoned (h : s.Sound) {id o c : Nat} {tag : Option Byte}
    (hf : s.port.inFlight = some (.tombstone id o c tag)) (success : Bool) :
    (s.endStep.tombstoned id o c success).Matched := by
  have hmarks := Store.endStep_tombstones (x := .tombstone id o c tag) rfl hf
  have hnodup := h.marks
  rw [hmarks] at hnodup
  obtain ⟨hfresh, hrest⟩ := List.nodup_cons.mp hnodup
  have hmark : (id, o, c) ∈ s.port.tombstones := by rw [hmarks]; exact List.mem_cons_self
  obtain ⟨l, hl, hlid, p, hp, hpo, hpc⟩ := h.marked _ hmark
  have hcell : s.cells[c]? = some .used := (h.used c).mp (Store.mem_pageCells.mpr ⟨l, hl, p, hp, hpc⟩)
  have hsub : ∀ d : List Lesson, List.Sublist ((d.map fun l => if l.id = id then
      { l with pages := l.pages.filter fun p => !(p.ordinal == o && p.cell == c) } else l).flatMap Lesson.cells)
        (d.flatMap Lesson.cells) := by
    intro d
    induction d with
    | nil => exact .refl _
    | cons m d ih =>
      rw [List.map_cons, List.flatMap_cons, List.flatMap_cons]
      refine List.Sublist.append ?_ ih
      split
      · exact List.filter_sublist.map _
      · exact .refl _
  refine ⟨h.ready, h.settled.endStep.tombstoned id o c success, h.nodup.sublist (hsub s.directory), fun k => ?_, hrest,
    fun t ht => ?_, ?_, ?_, fun _ hm' hdel => ?_⟩
  · show k ∈ (s.endStep.tombstoned id o c success).pageCells ↔
      (s.setCell c (if success then .dead else .bad)).cells[k]? = some .used
    by_cases hk : k = c
    · subst hk
      rw [Store.setCell_getElem?_self hcell]
      refine ⟨fun hm => ?_, by cases success <;> nofun⟩
      obtain ⟨_, hm', q, hq, hqc⟩ := Store.mem_pageCells.mp hm
      obtain ⟨m, hm, rfl⟩ := List.mem_map.mp hm'
      split at hq
      · obtain ⟨hq, hno⟩ := List.mem_filter.mp hq
        obtain ⟨-, rfl⟩ := h.page_eq hm hl hq hp (hqc.trans hpc.symm)
        simp [hpo, hpc] at hno
      · rename_i hmid
        exact absurd ((h.page_eq hm hl hq hp (hqc.trans hpc.symm)).1 ▸ hlid) hmid
    · rw [Store.setCell_getElem?_other hk, ← h.used]
      refine ⟨fun hm => (hsub s.directory).subset hm, fun hm => ?_⟩
      obtain ⟨m, hm, q, hq, hqc⟩ := Store.mem_pageCells.mp hm
      refine Store.mem_pageCells.mpr ⟨_, List.mem_map_of_mem hm, q, ?_, hqc⟩
      split
      · refine List.mem_filter.mpr ⟨hq, ?_⟩
        simp [hqc, hk]
      · exact hq
  · obtain ⟨m, hm, hmid, q, hq, hqo, hqc⟩ := h.marked t (by rw [hmarks]; exact List.mem_cons_of_mem _ ht)
    refine ⟨_, List.mem_map_of_mem hm, ?_, q, ?_, hqo, hqc⟩
    · split <;> exact hmid
    · split
      · rename_i e
        refine List.mem_filter.mpr ⟨hq, ?_⟩
        by_contra hno
        simp only [Bool.not_eq_true', Bool.not_eq_false, Bool.and_eq_true, beq_iff_eq] at hno
        refine hfresh ?_
        have : t = (id, o, c) := Prod.ext (hmid.symm.trans e) (Prod.ext (hqo.symm.trans hno.1) (hqc.symm.trans hno.2))
        exact this ▸ ht
      · exact hq
  · exact (Store.endStep_recallReads (x := .tombstone id o c tag) rfl hf).symm.trans h.loads
  · exact (Store.endStep_exports_le (x := .tombstone id o c tag) rfl hf).trans h.exports
  · obtain ⟨m, hm, rfl⟩ := List.mem_map.mp hm'
    intro hmem
    refine h.undeleted m hm (by split at hdel <;> exact hdel) ?_
    rw [Store.endStep_pageDeletes rfl hf]
    refine List.mem_append_right _ ?_
    split at hmem <;> exact hmem

theorem Store.Underway.tombstoned_hand (h : s.Underway) {id o c : Nat} {tag : Option Byte}
    (hf : s.port.inFlight = some (.tombstone id o c tag)) (success : Bool) :
    (s.endStep.tombstoned id o c success).Hand := by
  have hset := h.sound.settled.endStep.tombstoned id o c success
  have hmark : (id, o, c) ∈ s.port.tombstones := by
    rw [Store.endStep_tombstones rfl hf]
    exact List.mem_cons_self
  obtain ⟨l, hl, hlid, p, hp, hpo, hpc⟩ := h.sound.marked _ hmark
  have hcell : s.cells[c]? = some .used := (h.sound.used c).mp (Store.mem_pageCells.mpr ⟨l, hl, p, hp, hpc⟩)
  refine h.hand.congr rfl rfl rfl (Store.endStep_writers rfl hf)
    (Store.cellsInHand_idle hcell rfl (by cases success <;> rfl)) (fun x hx => ⟨nofun, fun e => ?_⟩)
    (h.sound.settled.listed.titles_eq hset.listed fun m hm _ => ⟨_, List.mem_map_of_mem hm, ?_⟩)
  · rw [hf] at e
    cases e
    cases hx
  · split <;> exact ⟨rfl, rfl⟩

/-- PAGE DELETE's tombstone ended (R156). -/
theorem Store.Underway.endPageDelete (h : s.Underway) {id o c : Nat} {tag : Byte}
    (hf : s.port.inFlight = some (.tombstone id o c (some tag))) (success : Bool) :
    ((s.endStep.tombstoned id o c success).prune id).Underway := by
  refine Store.Underway.prune ⟨⟨h.sound.tombstoned hf success, ?_, fun d hd => ?_⟩, h.tombstoned_hand hf success⟩ id
  · exact (Store.endStep_deletes (x := .tombstone id o c (some tag)) rfl hf).symm.trans h.sound.deletes
  · obtain ⟨l, hl, hid, hdel⟩ := h.sound.work d hd
    refine ⟨_, List.mem_map_of_mem hl, ?_, ?_⟩
    · split <;> exact hid
    · split <;> exact hdel

/-- A lesson delete's tombstone ended (R155). -/
theorem Store.Underway.endLessonDelete (h : s.Underway) {id o c : Nat}
    (hf : s.port.inFlight = some (.tombstone id o c none)) (success : Bool) :
    ((s.endStep.tombstoned id o c success).endLessonTombstone success).Underway := by
  have hdeletes := Store.endStep_deletes (x := .tombstone id o c none) rfl hf
  rw [h.sound.deletes] at hdeletes
  obtain ⟨d, hw⟩ : ∃ d, s.deleteWork = some d := by
    cases hw : s.deleteWork with
    | none => rw [hw] at hdeletes; cases hdeletes
    | some d => exact ⟨d, rfl⟩
  rw [hw] at hdeletes
  have hnone : s.endStep.port.deletes = [] := (List.cons.inj hdeletes).2.symm
  obtain ⟨l, hl, hid, hdel⟩ := h.sound.work d hw
  have hmatched := h.sound.tombstoned hf success
  have hset : Store.Settled { s.endStep.tombstoned id o c success with deleteWork := some (d.counted success) } :=
    hmatched.settled.kept rfl rfl rfl rfl (fun _ => .inl) rfl rfl
      (by show some d.lesson = s.deleteWork.map _; rw [hw]; rfl)
  have hcounted : Store.Matched { s.endStep.tombstoned id o c success with deleteWork := some (d.counted success) } :=
    { hmatched with settled := hset }
  have hend : (s.endStep.tombstoned id o c success).endLessonTombstone success = Store.continueDelete
      { s.endStep.tombstoned id o c success with deleteWork := some (d.counted success) } (d.counted success) := by
    unfold Store.endLessonTombstone
    rw [show (s.endStep.tombstoned id o c success).deleteWork = some d from hw]
  rw [hend]
  refine ⟨hcounted.continueDelete rfl hnone ⟨_, List.mem_map_of_mem hl, ?_, ?_⟩, Store.Hand.continueDelete ?_ hset rfl⟩
  · split <;> exact hid
  · split <;> exact hdel
  · exact (h.tombstoned_hand hf success).same rfl rfl rfl rfl rfl fun _ _ => rfl

/-! ### A recall or a PAGE READ ended -/

/-- A recall's or a PAGE READ's read ended, with the recall it was for. -/
theorem Store.Underway.readEnded (h : s.Underway) (hf : s.port.inFlight = some x) (hx : x.isWriters = false)
    (hm : x.mark = none) (hd : x.deleteOf = none) {load : Option RecallLoad}
    (hl : s.endStep.port.recallReads = (load.map (·.cell)).toList) :
    Store.Underway { s.endStep with recallLoad := load } := by
  have hmarks := Store.endStep_tombstones hx hf
  rw [hm] at hmarks
  have hset : Store.Settled { s.endStep with recallLoad := load } :=
    h.sound.settled.endStep.kept rfl rfl rfl rfl (fun _ => .inl) rfl rfl rfl
  refine ⟨⟨⟨h.sound.ready, hset, h.sound.nodup, h.sound.used, ?_, fun t ht => h.sound.marked t (hmarks ▸ ht), hl,
    (Store.endStep_exports_le hx hf).trans h.sound.exports, fun l hl hdel hmem => ?_⟩, ?_, h.sound.work⟩, ?_⟩
  · have hnodup := h.sound.marks
    rw [hmarks] at hnodup
    exact hnodup
  · refine h.sound.undeleted l hl hdel ?_
    rw [Store.endStep_pageDeletes hx hf]
    exact List.mem_append_right _ hmem
  · have hdeletes := Store.endStep_deletes hx hf
    rw [hd] at hdeletes
    exact hdeletes.symm.trans h.sound.deletes
  · refine h.hand.congr rfl rfl rfl (Store.endStep_writers hx hf) rfl (fun y hy => ⟨nofun, fun e => ?_⟩) fun _ _ => rfl
    rw [hf] at e
    cases e
    rw [hx] at hy
    cases hy

theorem Store.Underway.endExport (h : s.Underway) {tag : Byte} {cell offset length : Nat} {adjusted : Bool}
    (hf : s.port.inFlight = some (.exportRead tag cell offset length adjusted)) : s.endStep.Underway :=
  h.readEnded hf rfl rfl rfl
    ((Store.endStep_recallReads (x := .exportRead tag cell offset length adjusted) rfl hf).symm.trans h.sound.loads)

theorem Store.Underway.endRecall (h : s.Underway) {cell : Nat} (hf : s.port.inFlight = some (.recallRead cell)) :
    Store.Underway { s.endStep with recallLoad := none } := by
  refine h.readEnded hf rfl rfl rfl ?_
  have hreads := Store.endStep_recallReads (x := .recallRead cell) rfl hf
  rw [h.sound.loads] at hreads
  have hlen := congrArg List.length hreads
  rw [List.length_append] at hlen
  have hle : (s.recallLoad.map (·.cell)).toList.length ≤ 1 := by cases s.recallLoad <;> simp
  exact List.length_eq_zero_iff.mp (by simp [PortStep.recallCell] at hlen; omega)

end Sys2Proof.Machine
end

section
/-! SUPPORT. What each whole act of a command makes of the store: its books and its law are kept, and the number of deferred
replies is told (R134 to R159, R169). -/

namespace Sys2Proof.Machine

variable {s t u : Store} {x : PortStep}

/-- The store keeps its books and its law, while `m` deferred replies go and `n` come. -/
structure Store.Keeps (s t : Store) (m n : Nat) : Prop where
  book : s.BookLaw → t.BookLaw
  law : s.Law → t.Law ∧ t.port.deferred + m = s.port.deferred + n

/-- The same of a request's step, which is taken with no reply deferred and leaves `n` (R166, R169). -/
structure Store.Serves (s t : Store) (n : Nat) : Prop where
  book : s.BookLaw → t.BookLaw
  law : s.Law → s.port.deferred = 0 → t.Law ∧ t.port.deferred = n

theorem Store.Keeps.refl (s : Store) : s.Keeps s 0 0 := ⟨id, fun h => ⟨h, rfl⟩⟩

theorem Store.Keeps.serves (h : s.Keeps t 0 0) : s.Serves t 0 :=
  ⟨h.book, fun hs hz => ⟨(h.law hs).1, (h.law hs).2.trans (by rw [hz])⟩⟩

/-! ### READY, and the port -/

theorem Port.deferred_of_hostSteps {p q : Port} (h : p.hostSteps = q.hostSteps) : p.deferred = q.deferred := by
  rw [Port.deferred_eq, Port.deferred_eq, h]

/-- Steps of a mount or format defer no reply (R154). -/
theorem Store.Vacant.deferred (h : s.Vacant) (hf : ∀ x, s.port.inFlight = some x → x.rank = 0) : s.port.deferred = 0 := by
  simp only [Port.deferred, Port.steps, h.waiting, List.append_nil]
  cases hx : s.port.inFlight with
  | none => rfl
  | some x =>
    have := hf x hx
    cases x <;> first | rfl | cases this

/-- A step of a class above 0 holds the port only in READY (R154). -/
theorem Store.Law.ready_of_step (h : s.Law) (hf : s.port.inFlight = some x) (hr : x.rank ≠ 0) : s.state = .ready := by
  have hset := h.1.settled_of_step hf hr
  obtain ⟨-, -, ⟨-, -, hfree, -⟩, -⟩ := h
  cases hs : s.state with
  | ready => rfl
  | unmounted => rw [hfree (.inl hs)] at hf; cases hf
  | fault => rw [hfree (.inr hs)] at hf; cases hf
  | mounting => exact absurd hs hset.notMounting
  | formatting => exact absurd hs hset.notFormatting

/-- A lawful store outside READY defers no reply. -/
theorem Store.Law.deferred_of_away (h : s.Law) (hs : s.state ≠ .ready) : s.port.deferred = 0 :=
  (h.vacant hs).deferred fun x hx => by
    by_contra hne
    exact hs (h.ready_of_step hx hne)

theorem Store.endStep_deferred_of_none (hf : s.port.inFlight = some x) (hx : x.isDeferred = false) :
    s.endStep.port.deferred = s.port.deferred := by
  cases hw : x.isWriters with
  | true => exact Port.deferred_of_hostSteps (Store.endStep_hostSteps hf hw)
  | false =>
    rw [Store.endStep_deferred hw hf, hx]
    rfl

theorem Store.dropHead_deferred (s : Store) : s.dropHead.port.deferred = s.port.deferred := by rw [s.dropHead_port]

theorem Store.chooseCell_deferred (s : Store) (tries : Nat) : (s.chooseCell tries).port.deferred = s.port.deferred :=
  Port.deferred_of_hostSteps (s.chooseCell_hostSteps tries)

theorem Store.failSave_deferred (s : Store) (cell : Nat) : (s.failSave cell).port.deferred = s.port.deferred := by
  unfold Store.failSave
  split
  · exact Store.chooseCell_deferred _ _
  · exact Store.dropHead_deferred _

theorem Store.commit_deferred (s : Store) (cell : Nat) : (s.commit cell).port.deferred = s.port.deferred := by
  unfold Store.commit
  split
  · rfl
  · exact Store.dropHead_deferred _

theorem Store.append_deferred (s : Store) (e : SaveEntry) : (s.append e).port.deferred = s.port.deferred := by
  unfold Store.append Store.withdrawReclaim
  split
  · exact Port.deferred_of_hostSteps (s.withdrawn_hostSteps _)
  · rfl

theorem Store.continueDelete_deferred (s : Store) (d : DeleteWork) :
    (s.continueDelete d).port.deferred = s.port.deferred := by
  unfold Store.continueDelete
  split
  · exact Store.ask_deferred rfl s
  · rfl

theorem Store.endLessonTombstone_deferred (s : Store) (success : Bool) :
    (s.endLessonTombstone success).port.deferred = s.port.deferred := by
  unfold Store.endLessonTombstone
  split
  · exact Store.continueDelete_deferred _ _
  · rfl

/-! ### Captures -/

/-- An entry queued for the open lesson, the writer's work and the grant (R124, R148, R154). -/
theorem Store.keeps_append {e : SaveEntry} {l : Lesson} (hl : s.openLesson = some l) (he : e.lesson = l.id)
    (hn : e.ordinal = l.next) (hle : l.next ≤ 255) : s.Keeps (s.append e).afterStep 0 0 := by
  have hr : s.state = .ready := by
    unfold Store.openLesson at hl
    split at hl
    · assumption
    · cases hl
  refine ⟨fun h => ((h.settled_of_ready hr).append hl he hn hle).afterStep.bookLaw, fun h => ⟨?_, ?_⟩⟩
  · exact ((h.underway hr).1.append hl he hn hle).afterStep_law
  · rw [Store.afterStep_deferred, Store.append_deferred]

/-! ### Mount, format and unmount -/

/-- Outside a mount and a format, with nothing queued and nothing at work. -/
def Store.Quiet (s : Store) : Prop :=
  s.state = .unmounted ∨ s.state = .fault ∨ s.state = .ready ∧ s.queue = [] ∧ s.atWork = false

theorem Store.keeps_beginMedia (hq : s.Quiet) {st : StoreState} (hst : st = .mounting ∨ st = .formatting) :
    s.Keeps (s.beginMedia st) 0 0 := by
  have hm : s.state ≠ .mounting ∧ s.state ≠ .formatting := by
    rcases hq with e | e | ⟨e, -⟩ <;> rw [e] <;> decide
  have hqueue : s.BookLaw → s.queue = [] := fun h => by
    rcases hq with e | e | ⟨-, e, -⟩
    · exact (h.1.2.1 (by rw [e]; decide)).2
    · exact (h.1.2.1 (by rw [e]; decide)).2
    · exact e
  have hwork : s.state = .ready → s.atWork = false := fun e => by
    rcases hq with e' | e' | ⟨-, -, e'⟩
    · rw [e] at e'; cases e'
    · rw [e] at e'; cases e'
    · exact e'
  refine ⟨fun h => (h.settled hm.1 hm.2).beginMedia (hqueue h) hst, fun h => ?_⟩
  have hlaw := h.beginMedia hm.1 hm.2 (hqueue h.1) hwork hst
  refine ⟨hlaw, ?_⟩
  have haway : (s.beginMedia st).state ≠ .ready := by rcases hst with rfl | rfl <;> nofun
  have hzero : s.port.deferred = 0 := by
    by_cases hr : s.state = .ready
    · obtain ⟨hv, hf⟩ := h.vacant_of_ready hr (hwork hr)
      exact hv.deferred fun x hx => by rw [hf] at hx; cases hx
    · exact h.deferred_of_away hr
  rw [hlaw.deferred_of_away haway, hzero]

theorem Store.keeps_unmount (hr : s.state = .ready) (hq : s.queue = []) (hw : s.atWork = false) : s.Keeps
    { s with state := .unmounted, cellCount := 0, cells := [], directory := [], stamp := 0 } 0 0 :=
  ⟨fun h => ((h.settled_of_ready hr).unmount hq).bookLaw, fun h => ⟨h.unmount hr hq hw, rfl⟩⟩

theorem Store.keeps_mediaFault (hf : s.port.inFlight = some .identityRead) (r : FaultReason) :
    s.Keeps { s.endStep with state := .fault, fault := r, cellCount := 0 } 0 0 :=
  ⟨fun h => (h.mediaFault hf r).bookLaw, fun h => ⟨h.mediaFault hf r, Store.endStep_deferred_of_none hf rfl⟩⟩

/-- A read or an erase of a mount or format put in flight after another (R136, R139). -/
theorem Store.keeps_media (hbook : s.BookLaw → t.BookLaw) (hlaw : s.Law → t.Law) (hs : s.BookLaw → s.state ≠ .ready)
    (ht : t.state = s.state) : s.Keeps t 0 0 :=
  ⟨hbook, fun h => ⟨hlaw h, by
    rw [(hlaw h).deferred_of_away (ht ▸ hs h.1), h.deferred_of_away (hs h.1)]⟩⟩

theorem Store.BookLaw.away (h : s.BookLaw) (hf : s.port.inFlight = some x) (hr : x.rank = 0) : s.state ≠ .ready := by
  intro hs
  have := (h.settled_of_ready hs).port x (Port.mem_steps.mpr (.inl hf))
  exact this hr

theorem Store.keeps_beginScan (hf : s.port.inFlight = some .identityRead) (hs : s.state ≠ .formatting) {c : Nat}
    (hmin : Config.minCells ≤ c) (hmax : c ≤ Config.maxCells) : s.Keeps (s.beginScan c) 0 0 :=
  Store.keeps_media (fun h => h.beginScan hf hs hmin hmax) (fun h => h.beginScan hf hs hmin hmax)
    (fun h => h.away hf rfl) rfl

theorem Store.keeps_beginErases (hf : s.port.inFlight = some .identityRead) (hs : s.state = .formatting) {c : Nat}
    (hmin : Config.minCells ≤ c) (hmax : c ≤ Config.maxCells) : s.Keeps (s.beginErases c) 0 0 :=
  Store.keeps_media (fun h => h.beginErases hf hs hmin hmax) (fun h => h.beginErases hf hs hmin hmax)
    (fun h => h.away hf rfl) rfl

theorem Store.keeps_classified {cell : Nat} (hf : s.port.inFlight = some (.headerRead cell))
    (hlt : cell + 1 < s.cellCount) (read : Option (List Byte)) :
    s.Keeps ((s.classified cell read).inFlightNext (.headerRead (cell + 1))) 0 0 :=
  Store.keeps_media (fun h => h.classifiedNext hf hlt read) (fun h => h.classifiedNext hf hlt read)
    (fun h => h.away hf rfl) rfl

theorem Store.keeps_finishMount {cell : Nat} (hf : s.port.inFlight = some (.headerRead cell))
    (hle : ¬cell + 1 < s.cellCount) (read : Option (List Byte)) :
    s.Keeps (s.classified cell read).finishMount.afterStep 0 0 := by
  refine ⟨fun h => (h.finishMount hf hle read).afterStep.bookLaw, fun h => ⟨(h.finishMount hf hle read).afterStep_law, ?_⟩⟩
  rw [Store.afterStep_deferred]
  exact Store.endStep_deferred_of_none hf rfl

theorem Store.keeps_eraseNext {cell : Nat} (hf : s.port.inFlight = some (.formatErase cell))
    (hlt : cell + 1 < s.cellCount) {x : CellState} (hx : x = .erased ∨ x = .bad) :
    s.Keeps (((s.setCell cell x).setCell (cell + 1) .erasing).inFlightNext (.formatErase (cell + 1))) 0 0 :=
  Store.keeps_media (fun h => h.eraseNext hf hlt x) (fun h => h.eraseNext hf hlt hx) (fun h => h.away hf rfl) rfl

theorem Store.keeps_finishFormat {cell : Nat} (hf : s.port.inFlight = some (.formatErase cell))
    (hle : ¬cell + 1 < s.cellCount) {x : CellState} (hx : x = .erased ∨ x = .bad) :
    s.Keeps (s.setCell cell x).finishFormat 0 0 :=
  ⟨fun h => (h.finishFormat hf x).bookLaw, fun h => ⟨h.finishFormat hf hle hx, Store.endStep_deferred_of_none hf rfl⟩⟩

/-! ### Lesson requests -/

/-- A lesson request that leaves the writer, its queue, the cells and the port alone. -/
theorem Store.keeps_ready (hr : s.state = .ready) (hset : s.Settled → t.Settled) (h : s.Underway → t.Underway)
    (hp : t.port = s.port) (hw : t.writer = s.writer) (hq : t.queue = s.queue) (hc : t.cells = s.cells) :
    s.Keeps t 0 0 := by
  refine ⟨fun hb => (hset (hb.settled_of_ready hr)).bookLaw, fun hl => ⟨?_, by rw [hp]⟩⟩
  obtain ⟨hu, hrest⟩ := hl.underway hr
  exact (h hu).law ⟨by rw [hp]; exact hrest.port, by rw [hw, hq, hc]; exact hrest.writer⟩

theorem Store.keeps_opened (hr : s.state = .ready) (ho : s.anyOpen = false) (hlen : s.directory.length < 64)
    {title : List Byte} (htitle : title.length ≤ 24) :
    s.Keeps { s with directory := insertLesson ⟨s.freeId, title, true, 1, false, []⟩ s.directory } 0 0 :=
  Store.keeps_ready hr (fun h => h.opened hr ho hlen htitle) (fun h => h.opened ho hlen htitle) rfl rfl rfl rfl

theorem Store.keeps_resumed (hr : s.state = .ready) (ho : s.anyOpen = false) {l : Lesson} (hl : l ∈ s.directory)
    (hd : l.deleting = false) :
    s.Keeps (s.changeLesson l.id fun m => { m with isOpen := true, next := highest (s.ordinalsOf l) + 1 }) 0 0 :=
  Store.keeps_ready hr (fun h => h.resumed hr ho hl hd) (fun h => h.resumed ho hl hd) rfl rfl rfl rfl

theorem Store.keeps_closed (hr : s.state = .ready) (id : Nat) :
    s.Keeps ((s.changeLesson id fun l => { l with isOpen := false }).prune id) 0 0 :=
  Store.keeps_ready hr (fun h => (h.closed id).prune id) (fun h => (h.closed id).prune id) rfl rfl rfl rfl

/-! ### Steps asked for -/

/-- A request that asks the port for a step, which is granted if the port is free (R154). -/
theorem Store.serves_asked (hr : s.state = .ready) (hset : s.Settled → t.Settled)
    (h : s.Underway → s.port.deferred = 0 → t.Underway) (hw : t.writer = s.writer) (hq : t.queue = s.queue)
    (hc : t.cells = s.cells) {n : Nat} (hn : t.port.deferred = s.port.deferred + n) : s.Serves t.arbitrate n := by
  refine ⟨fun hb => (hset (hb.settled_of_ready hr)).arbitrate.bookLaw, fun hl hz => ⟨?_, ?_⟩⟩
  · obtain ⟨hu, hrest⟩ := hl.underway hr
    exact (h hu hz).arbitrate_law (by rw [hw, hq, hc]; exact hrest.writer)
  · rw [Store.arbitrate_deferred, hn, hz, Nat.zero_add]

theorem Store.serves_beginDelete (hr : s.state = .ready) {l : Lesson} (hl : l ∈ s.directory) (ho : l.isOpen = false)
    (hq : s.queueNames l.id = false) (hw : s.deleteWork = none) :
    s.Serves ((s.deleteBegun l.id).continueDelete ⟨l.id, 0, 0⟩).arbitrate 0 := by
  have hframe : ∀ t : Store, ∀ d, (t.continueDelete d).writer = t.writer ∧ (t.continueDelete d).queue = t.queue ∧
      (t.continueDelete d).cells = t.cells := fun t d => by
    unfold Store.continueDelete
    split <;> exact ⟨rfl, rfl, rfl⟩
  obtain ⟨h1, h2, h3⟩ := hframe (s.deleteBegun l.id) ⟨l.id, 0, 0⟩
  exact Store.serves_asked hr (fun h => (h.deleteBegun hl ho hq hw).continueDelete rfl)
    (fun h hz => h.beginDelete hz hl ho hq hw) h1 h2 h3 (Store.continueDelete_deferred _ _)

theorem Store.serves_pageDelete (hr : s.state = .ready) {l : Lesson} (hl : l ∈ s.directory) (hd : l.deleting = false)
    {p : PageRecord} (hp : p ∈ l.pages) (tag : Byte) :
    s.Serves (s.ask (.tombstone l.id p.ordinal p.cell (some tag))).arbitrate 1 :=
  Store.serves_asked hr (fun h => h.ask (by simp [PortStep.rank])) (fun h hz => h.askPageDelete hz hl hd hp tag) rfl rfl rfl
    (Store.ask_deferred rfl s)

theorem Store.serves_pageRead (hr : s.state = .ready) (tag : Byte) (cell offset length : Nat) (adjusted : Bool) :
    s.Serves (s.ask (.exportRead tag cell offset length adjusted)).arbitrate 1 :=
  Store.serves_asked hr (fun h => h.ask (by simp [PortStep.rank])) (fun h hz => h.askExport hz tag cell offset length adjusted)
    rfl rfl rfl (Store.ask_deferred rfl s)

theorem Store.serves_pageRecall (hr : s.state = .ready) (hn : s.recallLoad = none) (r : RecallLoad) :
    s.Serves (({ s with recallLoad := some r }).ask (.recallRead r.cell)).arbitrate 0 := by
  refine Store.serves_asked hr (fun h => ?_) (fun h _ => h.askRecall hn r) rfl rfl rfl
    (Store.ask_deferred rfl { s with recallLoad := some r })
  have hload : Store.Settled { s with recallLoad := some r } := h.kept rfl rfl rfl rfl (fun _ => .inl) rfl rfl rfl
  exact hload.ask (by simp [PortStep.rank])

/-! ### Steps ended -/

/-- A step ended, then the writer's work and the port's grant (R148, R152, R154). -/
theorem Store.keeps_ended (hf : s.port.inFlight = some x) (hr : x.rank ≠ 0) (hset : s.Settled → t.Settled)
    (h : s.Underway → t.Underway) {m : Nat} (hm : t.port.deferred + m = s.port.deferred) : s.Keeps t.afterStep m 0 :=
  ⟨fun hb => (hset (hb.settled_of_step hf hr)).afterStep.bookLaw, fun hl =>
    ⟨(h (hl.underway (hl.ready_of_step hf hr)).1).afterStep_law, by rw [Store.afterStep_deferred]; exact hm⟩⟩

/-- A step ended that leaves the writer alone or at work, then the port's grant (R154). -/
theorem Store.keeps_granted (hf : s.port.inFlight = some x) (hr : x.rank ≠ 0) (hset : s.Settled → t.Settled)
    (h : s.Underway → t.Underway)
    (hw : t.writer ≠ .idle ∨ t.writer = s.writer ∧ t.queue = s.queue ∧ t.cells = s.cells) {m : Nat}
    (hm : t.port.deferred + m = s.port.deferred) : s.Keeps t.arbitrate m 0 := by
  refine ⟨fun hb => (hset (hb.settled_of_step hf hr)).arbitrate.bookLaw, fun hl => ⟨?_, by
    rw [Store.arbitrate_deferred]; exact hm⟩⟩
  obtain ⟨hu, hrest⟩ := hl.underway (hl.ready_of_step hf hr)
  refine (h hu).arbitrate_law fun e => ?_
  rcases hw with hw | ⟨hw, hq, hc⟩
  · exact absurd e hw
  · rw [hq, hc]
    exact hrest.writer (hw ▸ e)

theorem Store.keeps_saveErased {c : Nat} (hf : s.port.inFlight = some (.saveErase c)) :
    s.Keeps (({ s.endStep.setCell c .writing with writer := .program }).ask (.saveProgram c)).arbitrate 0 0 := by
  refine Store.keeps_granted hf (by simp [PortStep.rank]) (fun h => ?_) (fun h => h.saveErased hf) (.inl nofun) ?_
  · have hset : Store.Settled { s.endStep.setCell c .writing with writer := .program } :=
      (h.endStep.setCell c .writing).kept rfl rfl rfl rfl (fun _ => .inl) rfl rfl rfl
    exact hset.ask (by simp [PortStep.rank])
  · exact Port.deferred_of_hostSteps ((Store.ask_hostSteps _ _).trans
      ((List.append_nil _).trans (Store.endStep_hostSteps hf rfl)))

theorem Store.keeps_programmed {c : Nat} (hf : s.port.inFlight = some (.saveProgram c)) :
    s.Keeps (({ s.endStep with writer := .commit }).ask (.saveCommit c)).arbitrate 0 0 := by
  refine Store.keeps_granted hf (by simp [PortStep.rank]) (fun h => ?_) (fun h => h.programmed hf) (.inl nofun) ?_
  · have hset : Store.Settled { s.endStep with writer := .commit } :=
      h.endStep.kept rfl rfl rfl rfl (fun _ => .inl) rfl rfl rfl
    exact hset.ask (by simp [PortStep.rank])
  · exact Port.deferred_of_hostSteps ((Store.ask_hostSteps _ _).trans
      ((List.append_nil _).trans (Store.endStep_hostSteps hf rfl)))

theorem Store.keeps_failSave (hf : s.port.inFlight = some x) {c : Nat}
    (hx : x = .saveErase c ∨ x = .saveProgram c ∨ x = .saveCommit c) : s.Keeps (s.endStep.failSave c).afterStep 0 0 := by
  refine Store.keeps_ended hf ?_ (fun h => h.endStep.failSave c) (fun h => h.failSave hf hx) ?_
  · rcases hx with rfl | rfl | rfl <;> simp [PortStep.rank]
  · rw [Store.failSave_deferred]
    exact Store.endStep_deferred_of_none hf (by rcases hx with rfl | rfl | rfl <;> rfl)

theorem Store.keeps_commit {c : Nat} (hf : s.port.inFlight = some (.saveCommit c)) :
    s.Keeps (s.endStep.commit c).afterStep 0 0 := by
  refine Store.keeps_ended hf (by simp [PortStep.rank]) (fun h => h.endStep.commit c) (fun h => h.commit hf) ?_
  rw [Store.commit_deferred]
  exact Store.endStep_deferred_of_none hf rfl

theorem Store.keeps_reclaimed {c : Nat} (hf : s.port.inFlight = some (.reclaimErase c)) {v : CellState}
    (hv : v = .erased ∨ v = .bad) :
    s.Keeps (Store.afterStep { s.endStep.setCell c v with writer := .idle }) 0 0 :=
  Store.keeps_ended (t := { s.endStep.setCell c v with writer := .idle }) hf (by simp [PortStep.rank])
    (fun h => (h.endStep.setCell c v).kept rfl rfl rfl rfl (fun _ => .inl) rfl rfl rfl) (fun h => h.reclaimed hf hv)
    (Store.endStep_deferred_of_none hf rfl)

theorem Store.keeps_endPageDelete {id o c : Nat} {tag : Byte}
    (hf : s.port.inFlight = some (.tombstone id o c (some tag))) (success : Bool) :
    s.Keeps ((s.endStep.tombstoned id o c success).prune id).afterStep 1 0 :=
  Store.keeps_ended hf (by simp [PortStep.rank]) (fun h => (h.endStep.tombstoned id o c success).prune id)
    (fun h => h.endPageDelete hf success) (Store.endStep_deferred rfl hf).symm

theorem Store.keeps_endLessonDelete {id o c : Nat} (hf : s.port.inFlight = some (.tombstone id o c none))
    (success : Bool) : s.Keeps ((s.endStep.tombstoned id o c success).endLessonTombstone success).afterStep 0 0 := by
  refine Store.keeps_ended hf (by simp [PortStep.rank])
    (fun h => (h.endStep.tombstoned id o c success).endLessonTombstone success) (fun h => h.endLessonDelete hf success) ?_
  rw [Store.endLessonTombstone_deferred]
  exact Store.endStep_deferred_of_none hf rfl

theorem Store.keeps_endRecall {cell : Nat} (hf : s.port.inFlight = some (.recallRead cell)) :
    s.Keeps (Store.arbitrate { s.endStep with recallLoad := none }) 0 0 :=
  Store.keeps_granted (t := { s.endStep with recallLoad := none }) hf (by simp [PortStep.rank])
    (fun h => h.endStep.kept rfl rfl rfl rfl (fun _ => .inl) rfl rfl rfl) (fun h => h.endRecall hf) (.inr ⟨rfl, rfl, rfl⟩)
    (Store.endStep_deferred_of_none hf rfl)

theorem Store.keeps_endExport {tag : Byte} {cell offset length : Nat} {adjusted : Bool}
    (hf : s.port.inFlight = some (.exportRead tag cell offset length adjusted)) : s.Keeps s.endStep.arbitrate 1 0 :=
  Store.keeps_granted hf (by simp [PortStep.rank]) (fun h => h.endStep) (fun h => h.endExport hf) (.inr ⟨rfl, rfl, rfl⟩)
    (Store.endStep_deferred rfl hf).symm

end Sys2Proof.Machine
end

section
/-! SUPPORT. What a command's parts leave of the link, and of the store where they do not concern it. -/

namespace Sys2Proof.Machine

variable (s : State)

/-! ### The link under the store's work -/

@[simp] theorem State.runWriter_link : s.runWriter.link = s.link := by
  obtain ⟨slots, store, notices, h⟩ := s.runWriter_frame
  rw [h]

@[simp] theorem State.arbitratePort_link : s.arbitratePort.link = s.link := rfl

@[simp] theorem State.afterStep_link : s.afterStep.link = s.link := s.runWriter_link

@[simp] theorem State.raiseStoreState_link : s.raiseStoreState.link = s.link := rfl

@[simp] theorem State.raiseStoreState_store : s.raiseStoreState.store = s.store := rfl

@[simp] theorem State.chooseCell_link (tries : Nat) : (s.chooseCell tries).link = s.link := by
  obtain ⟨slots, store, notices, h⟩ := s.chooseCell_frame tries
  rw [h]

@[simp] theorem State.leaveQueue_link : s.leaveQueue.link = s.link := by
  unfold State.leaveQueue
  split <;> rfl

@[simp] theorem State.dropFailed_link (cell : Nat) : (s.dropFailed cell).link = s.link := by
  unfold State.dropFailed
  split
  · rfl
  · exact s.leaveQueue_link

@[simp] theorem State.saveStepFailed_link (cell : Nat) (k : ErrorKind) : (s.saveStepFailed cell k).link = s.link := by
  unfold State.saveStepFailed
  dsimp only
  split <;> simp

@[simp] theorem State.committed_link (cell : Nat) : (s.committed cell).link = s.link := by
  unfold State.committed
  split
  · rfl
  · exact State.leaveQueue_link _

@[simp] theorem State.tombstoned_link (id ordinal cell : Nat) (success : Bool) :
    (s.tombstoned id ordinal cell success).link = s.link := by
  unfold State.tombstoned
  cases success
  · exact State.recordError_link _ _ _ _
  · rfl

@[simp] theorem State.continueDelete_link (d : DeleteWork) : (s.continueDelete d).link = s.link := by
  unfold State.continueDelete
  split <;> rfl

@[simp] theorem State.endLessonTombstone_link (success : Bool) : (s.endLessonTombstone success).link = s.link := by
  unfold State.endLessonTombstone
  split
  · exact State.continueDelete_link _ _
  · rfl

@[simp] theorem State.completeCapture_link (r : CaptureRead) : (s.completeCapture r).1.link = s.link := by
  obtain ⟨slots, capture, store, notices, h⟩ := s.completeCapture_frame r
  rw [h]

/-! ### The store of a state, on a desk with the link's hand and replies -/

/-- The store, whether a request stands in the hand, and how many replies wait or are being sent. -/
structure Desk where
  store : Store
  hand : Bool
  replies : Nat

/-- The desk of a state. -/
def State.desk : Desk := ⟨s.store, s.link.hand.isSome, s.link.replies⟩

/-- The store's law and the answer law (R166, R169). -/
def Desk.Law (d : Desk) : Prop := d.store.Law ∧ d.store.port.deferred + d.replies = if d.hand then 1 else 0

/-- The store's books are kept, and so is the law of the desk. -/
structure Desk.Keeps (d e : Desk) : Prop where
  book : d.store.BookLaw → e.store.BookLaw
  law : d.Law → e.Law

theorem State.desk_law : s.desk.Law ↔ s.store.Law ∧ s.AnswerLaw := Iff.rfl

theorem Desk.Keeps.refl (d : Desk) : d.Keeps d := ⟨id, id⟩

theorem Desk.Keeps.of_eq {d e : Desk} (h : e = d) : d.Keeps e := h ▸ .refl d

theorem Desk.Keeps.trans {d e f : Desk} (h : d.Keeps e) (h' : e.Keeps f) : d.Keeps f :=
  ⟨h'.book ∘ h.book, h'.law ∘ h.law⟩

/-- A change of the store that tells no reply. -/
theorem Desk.Keeps.store {d : Desk} {t : Store} (h : d.store.Keeps t 0 0) : d.Keeps ⟨t, d.hand, d.replies⟩ := by
  refine ⟨h.book, fun ⟨hs, ha⟩ => ?_⟩
  obtain ⟨ht, hd⟩ := h.law hs
  refine ⟨ht, ?_⟩
  show t.port.deferred + d.replies = _
  rw [← ha]
  omega

/-- A change of the store by which a deferred reply is formed (R169). -/
theorem Desk.Keeps.formed {d : Desk} {t : Store} {n : Nat} (h : d.store.Keeps t 1 0) (hn : d.replies = 0 → n = 1) :
    d.Keeps ⟨t, d.hand, n⟩ := by
  refine ⟨h.book, fun ⟨hs, ha⟩ => ?_⟩
  obtain ⟨ht, hd⟩ := h.law hs
  have hle : d.store.port.deferred + d.replies ≤ 1 := by rw [ha]; split <;> decide
  have hzero : d.replies = 0 := by omega
  refine ⟨ht, ?_⟩
  show t.port.deferred + n = _
  rw [← ha, hn hzero, hzero]
  omega

/-- A request taken from an empty hand: its reply is formed, or deferred (R166 to R169). -/
theorem Desk.Keeps.taken {d : Desk} {t : Store} {m n : Nat} (hd : d.hand = false) (h : d.store.Serves t m)
    (hn : d.replies = 0 → n + m = 1) : d.Keeps ⟨t, true, n⟩ := by
  refine ⟨h.book, fun ⟨hs, ha⟩ => ?_⟩
  rw [hd] at ha
  have hdeferred : d.store.port.deferred = 0 := by simp only [Bool.false_eq_true, if_false] at ha; omega
  have hzero : d.replies = 0 := by simp only [Bool.false_eq_true, if_false] at ha; omega
  obtain ⟨ht, hm⟩ := h.law hs hdeferred
  refine ⟨ht, ?_⟩
  show t.port.deferred + n = 1
  rw [hm, Nat.add_comm]
  exact hn hzero

/-- The answered request's reply sent: the hand empties (R166). -/
theorem Desk.Keeps.departed {d : Desk} {n : Nat} (hn : d.replies = n + 1) : d.Keeps ⟨d.store, false, n⟩ := by
  refine ⟨id, fun ⟨hs, ha⟩ => ⟨hs, ?_⟩⟩
  have hle : d.store.port.deferred + d.replies ≤ 1 := by rw [ha]; split <;> decide
  show d.store.port.deferred + n = 0
  omega

/-! ### Parts of a command that leave the desk alone -/

@[simp] theorem State.withSlots_desk (x : Slots) : (s.withSlots x).desk = s.desk := rfl
@[simp] theorem State.withIntake_desk (x : Intake) : (s.withIntake x).desk = s.desk := rfl
@[simp] theorem State.withWatch_desk (x : Watch) : (s.withWatch x).desk = s.desk := rfl
@[simp] theorem State.withViews_desk (x : Table Window 4) : (s.withViews x).desk = s.desk := rfl
@[simp] theorem State.setWindow_desk (i : Fin 4) (x : Window) : (s.setWindow i x).desk = s.desk := rfl
@[simp] theorem State.withPipe_desk (x : Pipe) : (s.withPipe x).desk = s.desk := rfl
@[simp] theorem State.withOutput_desk (x : Output) : (s.withOutput x).desk = s.desk := rfl
@[simp] theorem State.withCapture_desk (x : Capture) : (s.withCapture x).desk = s.desk := rfl
@[simp] theorem State.withNotices_desk (x : Notices) : (s.withNotices x).desk = s.desk := rfl
@[simp] theorem State.withErrors_desk (x : ErrorTable) : (s.withErrors x).desk = s.desk := rfl
@[simp] theorem State.withOpenChoice_desk (x : Nat) : (s.withOpenChoice x).desk = s.desk := rfl
@[simp] theorem State.withSchedule_desk (x : Schedule) : (s.withSchedule x).desk = s.desk := rfl
@[simp] theorem State.raise_desk (p : NoticePayload) : (s.raise p).desk = s.desk := rfl
@[simp] theorem State.withStore_desk (x : Store) : (s.withStore x).desk = ⟨x, s.desk.hand, s.desk.replies⟩ := rfl

theorem State.desk_eq {t : State} (h : t.link = s.link) : t.desk = ⟨t.store, s.desk.hand, s.desk.replies⟩ := by
  unfold State.desk
  rw [h]

@[simp] theorem State.recordError_desk (a : ErrorSource) (b : ErrorKind) (c : Nat) :
    (s.recordError a b c).desk = s.desk := by
  obtain ⟨e, n, h⟩ := s.recordError_frame a b c
  rw [h]
  rfl

@[simp] theorem State.intakeError_desk (k : ErrorKind) (d : Nat) : (s.intakeError k d).desk = s.desk :=
  s.recordError_desk _ _ _

/-- The link where no request moves: the hand and the replies stay. -/
theorem State.withLink_desk {l : Link} (hh : l.hand = s.link.hand) (hr : l.replies = s.link.replies) :
    (s.withLink l).desk = s.desk := by
  unfold State.desk
  rw [State.withLink_link, hh, hr]
  rfl

/-- The arbiter sends a reply that waits, or begins a notice (R170). -/
@[simp] theorem State.transmit_desk : s.transmit.desk = s.desk := by
  unfold State.transmit
  split
  · rename_i hidle
    split
    · rename_i r hr
      exact s.withLink_desk rfl (by simp [Link.replies, hidle, hr])
    · rename_i hr
      split
      · unfold State.beginNotice
        dsimp only
        split
        · exact s.withLink_desk rfl (by simp [Link.replies, hidle, hr])
        · rfl
      · rfl
  · rfl

@[simp] theorem State.keepWaiting_desk (r : Request) : (s.keepWaiting r).desk = s.desk := by
  unfold State.keepWaiting
  split
  · exact s.withLink_desk rfl rfl
  · exact s.recordError_desk _ _ _

@[simp] theorem State.takeInHand_desk (r : Request) : (s.takeInHand r).desk = ⟨s.store, true, s.desk.replies⟩ := rfl

/-- A reply formed where none waits or is being sent (R169). -/
theorem State.formReply_replies (code tag : Byte) (a : Answer) (h : s.link.replies = 0) :
    (s.formReply code tag a).link.replies = 1 := by
  cases htx : s.link.transmitter <;> simp [Link.replies, State.formReply, htx] at h ⊢

theorem State.formReply_desk (code tag : Byte) (a : Answer) :
    (s.formReply code tag a).desk = ⟨s.store, s.desk.hand, (s.formReply code tag a).link.replies⟩ := rfl

@[simp] theorem State.endScan_desk : s.endScan.desk = s.desk := by
  unfold State.endScan
  split <;> rfl

@[simp] theorem State.glideStep_desk : s.glideStep.desk = s.desk := by rw [s.glideStep_eq]; rfl

@[simp] theorem State.abandonFrame_desk : s.abandonFrame.desk = s.desk := rfl

@[simp] theorem State.beginFrame_desk : s.beginFrame.desk = s.desk := by
  unfold State.beginFrame
  dsimp only
  split
  · rfl
  · exact State.intakeError_desk _ _ _

@[simp] theorem State.closeUnfinished_desk : s.closeUnfinished.desk = s.desk := by
  unfold State.closeUnfinished
  split
  · split <;> simp
  · rfl

@[simp] theorem State.takeLine_desk (f : CurrentFrame) (line : List Byte) : (s.takeLine f line).desk = s.desk := by
  unfold State.takeLine
  dsimp only
  split
  · split <;> simp
  · split
    · rfl
    · split <;> rfl

@[simp] theorem State.endDamaged_desk (f : CurrentFrame) : (s.endDamaged f).desk = s.desk := by
  unfold State.endDamaged
  dsimp only
  split <;> simp

@[simp] theorem State.discardPartial_desk (n : Nat) : (s.discardPartial n).desk = s.desk :=
  (State.recordError_desk _ _ _ _).trans (s.withLink_desk rfl rfl)

end Sys2Proof.Machine
end

section
/-! SUPPORT. Events of the sensor, the timers, the flash and the output on the desk: the store's law and the answer law are kept
(R31, R109, R124, R136 to R159). -/

namespace Sys2Proof.Machine

variable {s t u : State} {o : Host.Outcome State Fault Refusal}

/-- The command goes on, and keeps the desk's law. -/
def State.Tends (s : State) (o : Host.Outcome State Fault Refusal) : Prop := ∃ t, o = .next t ∧ s.desk.Keeps t.desk

theorem ignored_tends (s : State) : s.Tends (ignored s) := ⟨s, rfl, .refl _⟩

theorem finish_tends (h : s.desk.Keeps t.desk) : s.Tends (finish t) := ⟨_, rfl, by rw [t.transmit_desk]; exact h⟩

theorem State.Tends.after (h : s.desk.Keeps t.desk) (h' : t.Tends o) : s.Tends o := by
  obtain ⟨u, hu, hk⟩ := h'
  exact ⟨u, hu, h.trans hk⟩

theorem State.Tends.stateAfter (h : s.Tends o) : s.desk.Keeps (stateAfter o s).desk := by
  obtain ⟨t, rfl, hk⟩ := h
  exact hk

/-- What changes the store of a state and leaves its link. -/
theorem State.desk_keeps {n : Store} (h : s.store.Keeps n 0 0) (hs : t.store = n) (hl : t.link = s.link) :
    s.desk.Keeps t.desk := by
  rw [s.desk_eq hl, hs]
  exact .store h

/-! ### Captures (R121 to R126) -/

theorem State.completeCapture_keeps (s : State) (r : CaptureRead) : s.store.Keeps (s.completeCapture r).1.store 0 0 := by
  unfold State.completeCapture
  split
  · exact .refl _
  · split
    · exact .refl _
    · unfold State.jointCapture
      split
      · exact .refl _
      · rename_i l hl
        split
        · exact .refl _
        · rename_i hle
          split
          · exact .refl _
          · split
            · exact .refl _
            · split
              · exact .refl _
              · rename_i slots i _
                show s.store.Keeps (State.afterStep _).store 0 0
                rw [State.afterStep_store]
                exact Store.keeps_append (e := r.entry _ _ i l) hl rfl rfl (by omega)

theorem Desk.Keeps.trigger {d : Desk} (h : d.Keeps s.desk) (src : Trigger) (named : Option (Word × Nat)) :
    d.Keeps (s.trigger src named).desk := by
  refine h.trans ?_
  unfold State.trigger
  split
  · exact State.desk_keeps (s.completeCapture_keeps _) rfl (s.completeCapture_link _)
  · exact .refl _

/-- A capture begun before its frame is tagged: no request's, or that of the request which it put in the empty hand (R124,
R166). -/
def State.Begins (s : State) (b : State × Option BegunCapture) : Prop :=
  b.1.desk = s.desk ∧ (∀ c ∈ b.2, c.replyTag = none) ∨
    s.desk.hand = false ∧ b.1.desk = ⟨s.store, true, s.desk.replies⟩ ∧ ∃ c tag, b.2 = some c ∧ c.replyTag = some tag

theorem State.beginEarly_begins (s : State) (e : EarlyCapture) : s.Begins (s.beginEarly e) := by
  have htrigger : ∀ (u : State) (src : Trigger), ∀ c ∈ u.beginTrigger src, c.replyTag = none := fun u src c hc => by
    unfold State.beginTrigger at hc
    split at hc
    · cases hc; rfl
    · cases hc
  cases e with
  | key =>
    refine .inl ⟨rfl, fun c hc => ?_⟩
    unfold State.beginEarly at hc
    dsimp only at hc
    split at hc
    · exact htrigger _ _ c hc
    · cases hc
  | interval =>
    unfold State.beginEarly
    rcases s.takeExpiry_cases with ⟨-, h⟩ | ⟨n, -, h⟩ <;> rw [h]
    · exact .inl ⟨rfl, nofun⟩
    · exact .inl ⟨rfl, htrigger _ _⟩
  | request tag =>
    unfold State.beginEarly
    dsimp only
    split
    · rename_i hh
      exact .inr ⟨by simp [State.desk, hh], rfl, _, tag, rfl, rfl⟩
    · exact .inl ⟨s.keepWaiting_desk _, nofun⟩

theorem State.beginOvertaken_begins (s : State) : s.Begins s.beginOvertaken := by
  unfold State.beginOvertaken
  split
  · exact .inl ⟨rfl, nofun⟩
  · rename_i entry rest _
    cases entry with
    | none => exact .inl ⟨rfl, nofun⟩
    | some e => exact State.beginEarly_begins (s.withSchedule { s.schedule with overtaken := rest }) e

theorem State.endCapture_untagged (s : State) {begun : Option BegunCapture} (h : ∀ c ∈ begun, c.replyTag = none) :
    s.desk.Keeps (s.endCapture begun).desk := by
  cases begun with
  | none => exact .refl _
  | some c =>
    unfold State.endCapture
    dsimp only
    rw [h c rfl]
    exact State.desk_keeps (s.completeCapture_keeps _) rfl (s.completeCapture_link _)

/-- A capture begun, completed from a state with the same desk (R123, R124, R129). -/
theorem State.Begins.endCapture {b : State × Option BegunCapture} (h : s.Begins b) (hd : t.desk = b.1.desk) :
    s.desk.Keeps (t.endCapture b.2).desk := by
  rcases h with ⟨he, hnone⟩ | ⟨hh, he, c, tag, hc, htag⟩
  · rw [← he, ← hd]
    exact t.endCapture_untagged hnone
  · rw [he] at hd
    obtain ⟨hstore, hhand, hreplies⟩ := Desk.mk.inj hd
    have hlink := t.completeCapture_link c.read
    rw [hc]
    unfold State.endCapture
    dsimp only
    rw [htag]
    dsimp only
    rw [State.formReply_desk, State.desk_eq t hlink]
    show s.desk.Keeps ⟨_, t.link.hand.isSome, _⟩
    rw [hhand]
    have hkeeps := t.completeCapture_keeps c.read
    rw [hstore] at hkeeps
    refine .taken hh hkeeps.serves fun hz => ?_
    rw [State.formReply_replies _ _ _ _ (by rw [hlink, hreplies]; exact hz)]

/-! ### Frames of the sensor (R27 to R33) -/

theorem execFrameStart_tends (s : State) : s.Tends (execFrameStart s) := by
  unfold execFrameStart
  split
  · exact ignored_tends s
  · exact finish_tends (.of_eq s.beginFrame_desk)
  · exact finish_tends (.of_eq (State.beginFrame_desk _))
  · exact finish_tends (.of_eq ((State.beginFrame_desk _).trans s.closeUnfinished_desk))
  · exact finish_tends (.of_eq s.beginFrame_desk)

theorem execLineArrival_tends (line : List Byte) (s : State) : s.Tends (execLineArrival line s) := by
  unfold execLineArrival
  split
  · exact finish_tends (.of_eq (s.takeLine_desk _ _))
  · exact ignored_tends s

theorem Desk.Keeps.takeSample {d : Desk} (h : d.Keeps s.desk) (frame : Word) (focus : Nat) (means : Table Nat 192) :
    d.Keeps (s.takeSample frame focus means).desk := by
  unfold State.takeSample
  dsimp only
  split
  · exact h
  · exact Desk.Keeps.trigger (by exact h) _ _
  · exact h

theorem State.endGood_keeps {b : State × Option BegunCapture} (h : s.Begins b) (f : CurrentFrame) :
    s.desk.Keeps (b.1.endGood f b.2).desk := by
  have hand : ∀ t : State, t.desk = b.1.desk → s.desk.Keeps (t.handOn f b.2).desk := fun t ht =>
    Desk.Keeps.takeSample (by exact h.endCapture ht) _ _ _
  cases hi : f.slot with
  | some i => rw [State.endGood_some hi]; exact hand _ rfl
  | none => rw [State.endGood_none hi]; exact hand _ rfl

theorem execFrameEnd_tends (s : State) : s.Tends (execFrameEnd s) := by
  unfold execFrameEnd
  split
  · exact finish_tends (State.endGood_keeps s.beginOvertaken_begins _)
  · split
    · exact finish_tends (.of_eq (s.endDamaged_desk _))
    · exact finish_tends (.refl _)
    · exact finish_tends (.refl _)
    · exact ignored_tends s

theorem execLossTimeout_tends (s : State) : s.Tends (execLossTimeout s) := by
  unfold execLossTimeout
  split
  · exact finish_tends (.refl _)
  · exact ignored_tends s

theorem execKeySample_tends (pressed : Bool) (s : State) : s.Tends (execKeySample pressed s) := by
  unfold execKeySample
  dsimp only
  split
  · exact finish_tends (Desk.Keeps.trigger (by exact .refl _) _ _)
  · exact finish_tends (.refl _)

theorem execIntervalExpiry_tends (s : State) : s.Tends (execIntervalExpiry s) := by
  unfold execIntervalExpiry
  rcases s.takeExpiry_cases with ⟨-, h⟩ | ⟨n, -, h⟩ <;> rw [h]
  · exact ignored_tends s
  · exact finish_tends (Desk.Keeps.trigger (by exact .refl _) _ _)

/-! ### The flash events of a mount or format (R136 to R139) -/

theorem execIdentityReadEnd_tends (size : Option Nat) (s : State) : s.Tends (execIdentityReadEnd size s) := by
  unfold execIdentityReadEnd
  split
  · rename_i hf
    split
    · exact finish_tends (State.desk_keeps (Store.keeps_mediaFault hf _) rfl rfl)
    · rename_i c hc
      obtain ⟨hmin, hmax⟩ := cellCountOf_ok hc
      split
      · rename_i hs
        exact finish_tends (State.desk_keeps (Store.keeps_beginErases hf hs hmin hmax) rfl rfl)
      · rename_i hs
        exact finish_tends (State.desk_keeps (Store.keeps_beginScan hf hs hmin hmax) rfl rfl)
  · exact ignored_tends s

theorem execHeaderReadEnd_tends (h : Option (List Byte)) (s : State) : s.Tends (execHeaderReadEnd h s) := by
  unfold execHeaderReadEnd
  split
  · rename_i cell hf
    dsimp only
    have hread : ∀ x : State, x.store = s.store.classified cell h → x.link = s.link → s.Tends
        (if cell + 1 < s.store.cellCount then finish (x.withStore (x.store.inFlightNext (.headerRead (cell + 1))))
        else finish (x.withStore x.store.finishMount).raiseStoreState.runWriter.arbitratePort) := by
      intro x hx hl
      split
      · rename_i hlt
        exact finish_tends (State.desk_keeps (Store.keeps_classified hf hlt h) (by rw [State.withStore_store, hx]) hl)
      · rename_i hle
        refine finish_tends (State.desk_keeps (Store.keeps_finishMount hf hle h) ?_ ?_)
        · show (State.afterStep _).store = _
          rw [State.afterStep_store, State.raiseStoreState_store, State.withStore_store, hx]
        · show (State.afterStep _).link = _
          rw [State.afterStep_link]
          exact hl
    cases he : (classify h).2 with
    | some k => exact hread _ (State.recordError_store _ _ _ _) (State.recordError_link _ _ _ _)
    | none => exact hread _ rfl rfl
  · exact ignored_tends s

theorem execFormatEraseEnd_tends (success : Bool) (s : State) : s.Tends (execFormatEraseEnd success s) := by
  unfold execFormatEraseEnd
  split
  · rename_i cell hf
    dsimp only
    have hnext : ∀ (x : State) (v : CellState), v = .erased ∨ v = .bad → x.store = s.store.setCell cell v →
        x.link = s.link → s.Tends
        (if cell + 1 < s.store.cellCount then
          finish (x.withStore ((x.store.setCell (cell + 1) .erasing).inFlightNext (.formatErase (cell + 1))))
        else finish (x.withStore x.store.finishFormat).raiseStoreState) := by
      intro x v hv hx hl
      split
      · rename_i hlt
        exact finish_tends (State.desk_keeps (Store.keeps_eraseNext hf hlt hv) (by rw [State.withStore_store, hx]) hl)
      · rename_i hle
        exact finish_tends (State.desk_keeps (Store.keeps_finishFormat hf hle hv)
          (by rw [State.raiseStoreState_store, State.withStore_store, hx]) hl)
    cases success with
    | true => exact hnext _ .erased (.inl rfl) rfl rfl
    | false => exact hnext _ .bad (.inr rfl) (State.recordError_store _ _ _ _) (State.recordError_link _ _ _ _)
  · exact ignored_tends s

/-! ### The flash events of saves and reclaim (R149 to R152) -/

theorem State.saveStepFailed_tends {x : PortStep} (hf : s.store.port.inFlight = some x) {c : Nat}
    (hx : x = .saveErase c ∨ x = .saveProgram c ∨ x = .saveCommit c) (k : ErrorKind) :
    s.Tends (finish (s.endStep.saveStepFailed c k).afterStep) :=
  finish_tends (State.desk_keeps (Store.keeps_failSave hf hx) (by simp) (by simp; rfl))

theorem execSaveEraseEnd_tends (success : Bool) (s : State) : s.Tends (execSaveEraseEnd success s) := by
  unfold execSaveEraseEnd
  split
  · rename_i cell hf
    dsimp only
    split
    · exact finish_tends (State.desk_keeps (Store.keeps_saveErased hf) rfl rfl)
    · exact State.saveStepFailed_tends hf (.inl rfl) _
  · exact ignored_tends s

theorem execProgramEnd_tends (success : Bool) (s : State) : s.Tends (execProgramEnd success s) := by
  unfold execProgramEnd
  split
  · rename_i cell hf
    dsimp only
    split
    · exact finish_tends (State.desk_keeps (Store.keeps_programmed hf) rfl rfl)
    · exact State.saveStepFailed_tends hf (.inr (.inl rfl)) _
  · exact ignored_tends s

theorem execCommitEnd_tends (success : Bool) (s : State) : s.Tends (execCommitEnd success s) := by
  unfold execCommitEnd
  split
  · rename_i cell hf
    dsimp only
    split
    · exact finish_tends (State.desk_keeps (Store.keeps_commit hf) (by simp) (by simp; rfl))
    · exact State.saveStepFailed_tends hf (.inr (.inr rfl)) _
  · exact ignored_tends s

theorem execReclaimEraseEnd_tends (success : Bool) (s : State) : s.Tends (execReclaimEraseEnd success s) := by
  unfold execReclaimEraseEnd
  split
  · rename_i cell hf
    cases success with
    | true => exact finish_tends (State.desk_keeps (Store.keeps_reclaimed hf (.inl rfl)) (by simp) (by simp))
    | false => exact finish_tends (State.desk_keeps (Store.keeps_reclaimed hf (.inr rfl)) (by simp) (by simp))
  · exact ignored_tends s

/-! ### The flash events of pages (R155 to R159) -/

theorem execTombstoneEnd_tends (success : Bool) (s : State) : s.Tends (execTombstoneEnd success s) := by
  unfold execTombstoneEnd
  split
  · rename_i id ordinal cell replyTag hf
    dsimp only
    split
    · rename_i tag
      refine finish_tends ?_
      have hlink : (((s.endStep.tombstoned id ordinal cell success).endPageDelete id tag success).afterStep).link =
          ((s.endStep.tombstoned id ordinal cell success).endPageDelete id tag success).link := State.afterStep_link _
      rw [State.desk_eq _ hlink, State.afterStep_store, State.endPageDelete_store, State.tombstoned_store]
      have hbefore : (s.endStep.tombstoned id ordinal cell success).link = s.link := by simp; rfl
      have hhand : ((s.endStep.tombstoned id ordinal cell success).endPageDelete id tag success).desk.hand = s.desk.hand := by
        show (s.endStep.tombstoned id ordinal cell success).link.hand.isSome = _
        rw [hbefore]
        rfl
      rw [hhand]
      refine .formed (Store.keeps_endPageDelete hf success) fun hz => ?_
      exact State.formReply_replies _ _ _ _ (by rw [State.withStore_link, hbefore]; exact hz)
    · exact finish_tends (State.desk_keeps (Store.keeps_endLessonDelete hf success) (by simp) (by simp; rfl))
  · exact ignored_tends s

theorem State.recallDone_desk (s : State) (r : RecallLoad) (c : CellRead) :
    (s.recallDone r c).desk = ⟨{ s.store with recallLoad := none }, s.desk.hand, s.desk.replies⟩ := by
  unfold State.recallDone
  dsimp only
  split <;> rfl

theorem State.recallFailed_desk (s : State) (r : RecallLoad) :
    (s.recallFailed r).desk = ⟨{ s.store with recallLoad := none }, s.desk.hand, s.desk.replies⟩ := by
  unfold State.recallFailed
  rw [State.raise_desk, State.recordError_desk]
  rfl

theorem execRecallReadEnd_tends (read : Option CellRead) (s : State) : s.Tends (execRecallReadEnd read s) := by
  unfold execRecallReadEnd
  split
  · rename_i cell r hf _
    have hend : ∀ x : State, x.desk = ⟨{ s.store.endStep with recallLoad := none }, s.desk.hand, s.desk.replies⟩ →
        s.Tends (finish x.arbitratePort) := fun x hx => by
      obtain ⟨hstore, hhand, hreplies⟩ := Desk.mk.inj hx
      refine finish_tends ?_
      show s.desk.Keeps ⟨x.store.arbitrate, x.link.hand.isSome, x.link.replies⟩
      rw [hstore, hhand, hreplies]
      exact .store (Store.keeps_endRecall hf)
    dsimp only
    split
    · split
      · exact hend _ (State.recallDone_desk _ _ _)
      · exact hend _ (State.recallFailed_desk _ _)
    · exact hend _ (State.recallFailed_desk _ _)
  · exact ignored_tends s

theorem execExportReadEnd_tends (data : Option (List Byte)) (s : State) : s.Tends (execExportReadEnd data s) := by
  unfold execExportReadEnd
  split
  · rename_i tag cell offset length adjusted hf
    have hformed : ∀ (x : State) (a : Answer), x.desk = s.endStep.desk →
        s.Tends (finish (x.formReply pageReadCode tag a).arbitratePort) := fun x a hx => by
      obtain ⟨hstore, hhand, hreplies⟩ := Desk.mk.inj hx
      refine finish_tends ?_
      show s.desk.Keeps ⟨x.store.arbitrate, x.link.hand.isSome, (x.formReply pageReadCode tag a).link.replies⟩
      rw [hstore, hhand]
      refine .formed (Store.keeps_endExport hf) fun hz => ?_
      exact State.formReply_replies _ _ _ _ (hreplies.trans hz)
    dsimp only
    split
    · exact hformed _ _ rfl
    · exact hformed _ _ (State.recordError_desk _ _ _ _)
  · exact ignored_tends s

end Sys2Proof.Machine
end

section
/-! SUPPORT. The requests on the desk: each taken from an empty hand leaves one reply formed or deferred (R134 to R159, R166 to
R169). -/

namespace Sys2Proof.Machine

variable {s t u : State} {o : Host.Outcome State Fault Refusal}

/-! ### Requests in general -/

/-- A request's step leaves the link alone, and serves the store with `n` replies deferred. -/
structure State.Served (s t : State) (n : Nat) : Prop where
  link : t.link = s.link
  store : s.store.Serves t.store n

theorem State.Served.refl (s : State) : s.Served s 0 := ⟨rfl, (Store.Keeps.refl _).serves⟩

/-- A request of another block. -/
theorem State.Served.of_eq (hs : t.store = s.store) (hl : t.link = s.link) : s.Served t 0 :=
  ⟨hl, by rw [hs]; exact (Store.Keeps.refl _).serves⟩

theorem State.Served.of_keeps (h : s.store.Keeps t.store 0 0) (hl : t.link = s.link) : s.Served t 0 := ⟨hl, h.serves⟩

/-- What a deferring request leaves is told by its answer: a reply at once, or one deferred (R169). -/
def State.Attends (s : State) (k : State × Option Answer) : Prop := s.Served k.1 (if k.2.isSome then 0 else 1)

theorem respondOrDefer_tends {i : Instr} {step : State → State × Option Answer} (h : s.Attends (step s)) :
    s.Tends (respondOrDefer i s step) := by
  obtain ⟨hlink, hstore⟩ := h
  unfold respondOrDefer
  split
  · rename_i r _ hh
    have hhand : s.desk.hand = false := by
      show s.link.hand.isSome = false
      rw [hh]; rfl
    split
    · rename_i v a e
      rw [e] at hlink hstore
      refine finish_tends ?_
      rw [State.formReply_desk, State.takeInHand_desk]
      refine .taken hhand hstore fun hz => ?_
      rw [State.formReply_replies _ _ _ _ (by show v.link.replies = 0; rw [hlink]; exact hz)]
      rfl
    · rename_i v e
      rw [e] at hlink hstore
      refine finish_tends ?_
      rw [State.takeInHand_desk]
      refine .taken hhand hstore fun hz => ?_
      show v.link.replies + 1 = 1
      rw [hlink, show s.link.replies = 0 from hz]
  · exact finish_tends (.of_eq (s.keepWaiting_desk _))
  · exact ignored_tends s

/-- A request answered at once. -/
theorem respond_tends {i : Instr} {step : State → State × Answer} (h : s.Served (step s).1 0) :
    s.Tends (respond i s step) := respondOrDefer_tends (by exact h)

/-! ### Requests that do not concern the store -/

variable (s)

theorem freezeStep_served (which source : Byte) : s.Served (freezeStep which source s).1 0 := by
  unfold freezeStep
  split
  · split <;> exact .of_eq rfl rfl
  · exact .refl s

theorem unfreezeStep_served (which : Byte) : s.Served (unfreezeStep which s).1 0 := by
  unfold unfreezeStep
  split <;> exact .of_eq rfl rfl

theorem intakeEnableStep_served : s.Served (intakeEnableStep s).1 0 := by
  unfold intakeEnableStep
  split <;> exact .of_eq rfl rfl

theorem intakeDisableStep_served : s.Served (intakeDisableStep s).1 0 := by
  unfold intakeDisableStep
  dsimp only
  split <;> exact .of_eq rfl rfl

theorem viewSetStep_served (w : Byte) (z x y r : Half) : s.Served (viewSetStep w z x y r s).1 0 := by
  unfold viewSetStep onWindow
  split <;> exact .of_eq rfl rfl

theorem viewNudgeStep_served (w : Byte) (x y : Half) : s.Served (viewNudgeStep w x y s).1 0 := by
  unfold viewNudgeStep onWindow
  split <;> exact .of_eq rfl rfl

theorem profileSetStep_served (p g h l : Byte) : s.Served (profileSetStep p g h l s).1 0 := by
  unfold profileSetStep
  split <;> exact .of_eq rfl rfl

theorem State.endScan_served : s.Served s.endScan 0 := by
  unfold State.endScan
  split <;> exact .of_eq rfl rfl

theorem outputStartStep_served (m : Byte) : s.Served (outputStartStep m s).1 0 := by
  unfold outputStartStep
  split
  · exact ⟨s.endScan_served.link, s.endScan_served.store⟩
  · exact .refl s

theorem outputStopStep_served : s.Served (outputStopStep s).1 0 := by
  unfold outputStopStep
  split
  · exact .refl s
  · exact ⟨s.endScan_served.link, s.endScan_served.store⟩

theorem paneSetStep_served (n e : Byte) (x y w h : Half) (o k v p a b c : Byte) :
    s.Served (paneSetStep n e x y w h o k v p a b c s).1 0 := by
  unfold paneSetStep
  split
  · exact .refl s
  · split
    · exact .refl s
    · split
      · exact .refl s
      · split <;> exact .of_eq rfl rfl

theorem paneCommitStep_served : s.Served (paneCommitStep s).1 0 := by
  unfold paneCommitStep
  split <;> exact .of_eq rfl rfl

theorem captureSetStep_served (m k : Byte) (f : Half) (h r : Byte) : s.Served (captureSetStep m k f h r s).1 0 := by
  unfold captureSetStep
  split <;> exact .of_eq rfl rfl

theorem captureArmStep_served : s.Served (captureArmStep s).1 0 := by
  unfold captureArmStep
  split <;> exact .of_eq rfl rfl

theorem errorClearStep_served (r : Nat) : s.Served (errorClearStep r s).1 0 := by
  unfold errorClearStep
  split
  · exact .of_eq rfl rfl
  · split <;> exact .of_eq rfl rfl

/-! ### Mount, format and unmount (R134 to R140) -/

variable {s}

/-- A store request by its own rule in READY, or refused (R134). -/
theorem whenReady_served {k : State × Answer} (h : s.store.state = .ready → s.Served k.1 0) :
    s.Served (whenReady s k).1 0 := by
  rcases whenReady_cases s k with e | ⟨hr, e⟩ <;> rw [e]
  · exact .refl s
  · exact h hr

theorem storeMountStep_served : s.Served (storeMountStep s).1 0 := by
  unfold storeMountStep
  split
  · exact .refl s
  · exact .refl s
  · rename_i hs
    exact .of_keeps (Store.keeps_beginMedia (.inl hs) (.inl rfl)) rfl
  · rename_i hs
    exact .of_keeps (Store.keeps_beginMedia (.inr (.inl hs)) (.inl rfl)) rfl
  · exact .refl s

theorem storeFormatStep_served : s.Served (storeFormatStep s).1 0 := by
  have haccepted : s.store.Quiet → s.Served (s.withStore (s.store.beginMedia .formatting)) 0 := fun hq =>
    .of_keeps (Store.keeps_beginMedia hq (.inr rfl)) rfl
  unfold storeFormatStep
  dsimp only
  split
  · exact .refl s
  · exact .refl s
  · rename_i hs
    exact haccepted (.inl hs)
  · rename_i hs
    exact haccepted (.inr (.inl hs))
  · rename_i hs
    split
    · exact .refl s
    · split
      · exact .refl s
      · rename_i hq
        split
        · exact .refl s
        · rename_i hw
          exact haccepted (.inr (.inr ⟨hs, by simpa using hq, by simpa using hw⟩))

theorem storeUnmountStep_served : s.Served (storeUnmountStep s).1 0 := by
  refine whenReady_served fun hr => ?_
  split
  · exact .refl s
  · rename_i hbusy
    simp only [Bool.or_eq_true, Bool.not_eq_true', List.isEmpty_eq_false_iff, not_or, not_not] at hbusy
    obtain ⟨hq, hw⟩ := hbusy
    exact .of_keeps (Store.keeps_unmount hr hq (by simpa using hw)) rfl

/-! ### Lessons and pages (R142 to R159) -/

theorem lessonOpenStep_served (title : List Byte) : s.Served (lessonOpenStep title s).1 0 := by
  refine whenReady_served fun hr => ?_
  split
  · exact .refl s
  · rename_i ho
    split
    · exact .refl s
    · rename_i hlen
      exact .of_keeps (Store.keeps_opened hr (by simpa using ho) (by omega) (List.length_take_le 24 title)) rfl

/-- A lesson found by its id (R142). -/
theorem Store.mem_of_lesson {x : Store} {id : Nat} {l : Lesson} (h : x.lesson id = some l) : l ∈ x.directory ∧ l.id = id :=
  ⟨List.mem_of_find?_eq_some h, by simpa using List.find?_some h⟩

theorem lessonResumeStep_served (id : Nat) : s.Served (lessonResumeStep id s).1 0 := by
  refine whenReady_served fun hr => ?_
  split
  · exact .refl s
  · rename_i l hl
    obtain ⟨hmem, rfl⟩ := Store.mem_of_lesson hl
    split
    · exact .refl s
    · rename_i hd
      split
      · exact .refl s
      · rename_i ho
        exact .of_keeps (Store.keeps_resumed hr (by simpa using ho) hmem (by simpa using hd)) rfl

theorem lessonCloseStep_served : s.Served (lessonCloseStep s).1 0 := by
  refine whenReady_served fun hr => ?_
  split
  · exact .refl s
  · exact .of_keeps (Store.keeps_closed hr _) rfl

theorem lessonPagesStep_served (id first : Nat) : s.Served (lessonPagesStep id first s).1 0 := by
  refine whenReady_served fun _ => ?_
  split <;> exact .refl s

theorem lessonDeleteStep_served (id : Nat) : s.Served (lessonDeleteStep id s).1 0 := by
  refine whenReady_served fun hr => ?_
  split
  · exact .refl s
  · rename_i l hl
    obtain ⟨hmem, rfl⟩ := Store.mem_of_lesson hl
    split
    · exact .refl s
    · rename_i ho
      split
      · exact .refl s
      · rename_i hq
        split
        · exact .refl s
        · split
          · exact .refl s
          · rename_i hw
            refine ⟨State.continueDelete_link _ _, ?_⟩
            rw [State.arbitratePort_store, State.continueDelete_store, State.withStore_store]
            exact Store.serves_beginDelete hr hmem (by simpa using ho) (by simpa using hq) (by simpa using hw)

/-- A page found is of a lesson of the directory that is not under delete (R156, R157, R159). -/
theorem Store.mem_of_findPage {x : Store} {id ordinal : Nat} {p : PageRecord} (h : x.findPage id ordinal = .ok p) :
    ∃ l ∈ x.directory, l.id = id ∧ l.deleting = false ∧ p ∈ l.pages ∧ p.ordinal = ordinal := by
  unfold Store.findPage at h
  split at h
  · cases h
  · rename_i l hl
    obtain ⟨hmem, hid⟩ := Store.mem_of_lesson hl
    split at h
    · cases h
    · rename_i hd
      split at h
      · rename_i q hq
        cases h
        exact ⟨l, hmem, hid, by simpa using hd, List.mem_of_find?_eq_some hq, by simpa using List.find?_some hq⟩
      · cases h

/-- A deferring store request by its own rule in READY, or refused at once (R134, R169). -/
theorem whenReadyDeferring_attends {k : State × Option Answer} (h : s.store.state = .ready → s.Attends k) :
    s.Attends (whenReadyDeferring s k) := by
  unfold whenReadyDeferring
  split
  · exact .refl s
  · exact .refl s
  · exact .refl s
  · exact .refl s
  · rename_i hr
    exact h hr

theorem pageDeleteStep_attends (tag : Byte) (id ordinal : Nat) : s.Attends (pageDeleteStep tag id ordinal s) := by
  refine whenReadyDeferring_attends fun hr => ?_
  split
  · exact .refl s
  · rename_i p hp
    obtain ⟨l, hl, rfl, hd, hmem, rfl⟩ := Store.mem_of_findPage hp
    exact ⟨rfl, Store.serves_pageDelete hr hl hd hmem tag⟩

theorem pageReadStep_attends (tag : Byte) (id ordinal offset length : Nat) :
    s.Attends (pageReadStep tag id ordinal offset length s) := by
  refine whenReadyDeferring_attends fun hr => ?_
  split
  · exact .refl s
  · split
    · exact .refl s
    · exact ⟨rfl, Store.serves_pageRead hr _ _ _ _ _⟩

theorem pageRecallStep_served (id ordinal : Nat) (restoreView : Bool) :
    s.Served (pageRecallStep id ordinal restoreView s).1 0 := by
  refine whenReady_served fun hr => ?_
  split
  · exact .refl s
  · rename_i p _
    split
    · exact .refl s
    · rename_i hload
      split
      · exact .refl s
      · exact .refl s
      · rename_i i _
        exact ⟨rfl, Store.serves_pageRecall hr (by simpa using hload) ⟨id, ordinal, p.cell, i, restoreView⟩⟩

/-! ### Every request -/

/-- Every request's step keeps the desk's law (R167). -/
theorem runRequest_tends (i : Instr) (s : State) : s.Tends (runRequest i s) := by
  have reads : ∀ {i : Instr} {step : State → State × Answer}, (step s).1 = s → s.Tends (respond i s step) := fun e =>
    respond_tends (by rw [e]; exact .refl s)
  cases i with
  | ping | status | linkRate | restart | slotList | watchRead | captureRead | storeStatus | noticeLevelsRead
  | errorRead =>
    simp only [runRequest, execPing, execStatus, execLinkRate, execRestart, execSlotList, execWatchRead,
      execCaptureRead, execStoreStatus, execNoticeLevelsRead, execErrorRead]
    exact respond_tends (by exact .refl s)
  | freeze _ which source => exact respond_tends (freezeStep_served s which source)
  | unfreeze _ which => exact respond_tends (unfreezeStep_served s which)
  | intakeEnable _ => exact respond_tends (intakeEnableStep_served s)
  | intakeDisable _ => exact respond_tends (intakeDisableStep_served s)
  | statsRead _ => exact respond_tends (.of_eq rfl rfl)
  | focusAreaSet _ x y w h => exact respond_tends (.of_eq rfl rfl)
  | watchSet _ e m r l q => exact respond_tends (.of_eq rfl rfl)
  | viewSet _ w z x y r => exact respond_tends (viewSetStep_served s w z x y r)
  | viewNudge _ w x y => exact respond_tends (viewNudgeStep_served s w x y)
  | viewRead _ w => exact reads (viewReadStep_reads w s)
  | profileSet _ p g h l => exact respond_tends (profileSetStep_served s p g h l)
  | profileRead _ p => exact reads (profileReadStep_reads p s)
  | outputStart _ m => exact respond_tends (outputStartStep_served s m)
  | outputStop _ => exact respond_tends (outputStopStep_served s)
  | paneSet _ n e x y w h o k v p a b c => exact respond_tends (paneSetStep_served s n e x y w h o k v p a b c)
  | paneCommit _ => exact respond_tends (paneCommitStep_served s)
  | paneRead _ n => exact reads (paneReadStep_reads n s)
  | backgroundSet _ y b r => exact respond_tends (.of_eq rfl rfl)
  | captureSet _ m k f h r => exact respond_tends (captureSetStep_served s m k f h r)
  | captureArm _ => exact respond_tends (captureArmStep_served s)
  | captureNow _ => exact respond_tends (.of_keeps (s.completeCapture_keeps _) (s.completeCapture_link _))
  | intervalSet _ p q => exact respond_tends (.of_eq rfl rfl)
  | storeMount _ => exact respond_tends storeMountStep_served
  | storeFormat _ => exact respond_tends storeFormatStep_served
  | storeUnmount _ => exact respond_tends storeUnmountStep_served
  | lessonOpen _ title => exact respond_tends (lessonOpenStep_served title)
  | lessonResume _ l => exact respond_tends (lessonResumeStep_served _)
  | lessonClose _ => exact respond_tends lessonCloseStep_served
  | lessonList _ f => exact respond_tends (whenReady_served fun _ => .refl s)
  | lessonPages _ l f => exact respond_tends (lessonPagesStep_served _ _)
  | lessonDelete _ l => exact respond_tends (lessonDeleteStep_served _)
  | pageDelete t l o => exact respondOrDefer_tends (pageDeleteStep_attends t _ _)
  | pageRecall _ l o r => exact respond_tends (pageRecallStep_served _ _ _)
  | pageRead t l o f n => exact respondOrDefer_tends (pageReadStep_attends t _ _ _ _)
  | noticeLevelsSet => exact respond_tends (.of_eq rfl rfl)
  | errorClear _ r => exact respond_tends (errorClearStep_served s _)
  | _ => exact ignored_tends s

end Sys2Proof.Machine
end

section
/-! SUPPORT. Tag moves, output frames, the link and the whole of a step on the desk (R100, R109, R162 to R175). -/

namespace Sys2Proof.Machine

variable {s t u : State} {o : Host.Outcome State Fault Refusal}

/-! ### The projector output (R99 to R101, R109) -/

theorem runMove_keeps (m : TagMove) (s : State) : s.desk.Keeps (runMove m s).desk := by
  cases m with
  | frameEnd => exact (execFrameEnd_tends s).stateAfter
  | recallReadEnd read => exact (execRecallReadEnd_tends read s).stateAfter
  | freeze tag which source => exact (respond_tends (freezeStep_served s which source)).stateAfter
  | unfreeze tag which => exact (respond_tends (unfreezeStep_served s which)).stateAfter

theorem runMoves_keeps (moves : List TagMove) (s : State) : s.desk.Keeps (runMoves moves s).desk := by
  induction moves generalizing s with
  | nil => exact .refl _
  | cons m rest ih => exact (runMove_keeps m s).trans (ih _)

theorem resolvePanes_keeps (mode : Fin 4) (page : PageState) (panes : Table Pane 4) (between : Between) (s : State) :
    s.desk.Keeps (resolvePanes mode page panes between s).1.desk := by
  have hturn : ∀ (p : Pane) (moves : List TagMove) (s : State), s.desk.Keeps (resolveTurn mode page p moves s).1.desk :=
    fun p moves s => runMoves_keeps moves (s.withSlots (resolvePane mode page s.slots p).1)
  exact (hturn _ _ s).trans ((hturn _ _ _).trans ((hturn _ _ _).trans (hturn _ _ _)))

theorem State.runFrame_keeps (s : State) (between : Between) : s.desk.Keeps (s.runFrame between).desk := by
  have hpanes := resolvePanes_keeps s.output.mode s.watch.page s.output.active between s
  unfold State.runFrame
  dsimp only
  generalize resolvePanes s.output.mode s.watch.page s.output.active between s = r at hpanes ⊢
  rw [State.countInterval_eq, State.withCapture_desk, State.withPipe_desk, State.glideStep_desk]
  exact hpanes

theorem State.runScheduled_keeps (s : State) : s.desk.Keeps s.runScheduled.desk := by
  obtain ⟨schedule, h⟩ := s.takeBetween_frame
  have hrun := State.runFrame_keeps s.takeBetween.2 s.takeBetween.1
  rw [h] at hrun
  unfold State.runScheduled
  dsimp only
  rw [h]
  exact hrun

theorem execOutputFrameStart_tends (s : State) : s.Tends (execOutputFrameStart s) := by
  have hbegun : (s.endScan.withOutput s.endScan.output.startFrame).desk = s.desk := s.endScan_desk
  unfold execOutputFrameStart
  dsimp only
  split
  · exact ignored_tends s
  · split
    · exact finish_tends (.of_eq ((State.glideStep_desk _).trans hbegun))
    · exact finish_tends ((Desk.Keeps.of_eq hbegun).trans
        (State.runScheduled_keeps (s.endScan.withOutput s.endScan.output.startFrame).enterRun))
  · exact finish_tends ((Desk.Keeps.of_eq hbegun).trans (State.runScheduled_keeps _))

theorem execOutputFrameEnd_tends (s : State) : s.Tends (execOutputFrameEnd s) := by
  unfold execOutputFrameEnd
  split
  · exact finish_tends (.of_eq s.endScan_desk)
  · exact ignored_tends s

/-! ### The link (R162 to R175) -/

/-- A reset leaves a lawful store and no request. -/
theorem State.resetBlocks_keeps (s : State) (d : Desk) (rate : Fin 4) : d.Keeps (s.resetBlocks rate).desk :=
  ⟨fun _ => Store.reset_law.1, fun _ => ⟨Store.reset_law, rfl⟩⟩

theorem State.dispatch_tends (h : s.link.hand = none) (r : Request) : s.Tends (s.dispatch r) := by
  have hanswer : ∀ a, s.Tends (finish ((s.takeInHand r).formReply r.code r.tag a)) := fun a => by
    refine finish_tends ?_
    rw [State.formReply_desk, State.takeInHand_desk]
    refine .taken (by show s.link.hand.isSome = false; rw [h]; rfl) (Store.Keeps.refl _).serves fun hz => ?_
    rw [State.formReply_replies _ _ _ _ (by exact hz)]
  unfold State.dispatch
  split
  · exact hanswer _
  · exact hanswer _
  · exact runRequest_tends _ s

theorem State.place_tends (s : State) (r : Request) : s.Tends (s.place r) := by
  unfold State.place
  split
  · exact State.dispatch_tends ‹_› r
  · exact finish_tends (.of_eq (s.keepWaiting_desk r))

theorem State.completeFrame_tends (s : State) (frame : List Byte) : s.Tends (s.completeFrame frame) := by
  have hhunting : (s.withLink s.link.hunting).desk = s.desk := s.withLink_desk rfl rfl
  refine .after (Desk.Keeps.of_eq hhunting) ?_
  unfold State.completeFrame
  dsimp only
  split
  · exact finish_tends (.of_eq (State.recordError_desk _ _ _ _))
  · split
    · exact finish_tends (.refl _)
    · exact State.place_tends _ _

theorem State.goodCharacter_tends (s : State) (b : Byte) : s.Tends (s.goodCharacter b) := by
  have hreceiving : ∀ r frame, s.Tends (finish (s.receiving r frame)) := fun r frame =>
    finish_tends (.of_eq (s.withLink_desk rfl rfl))
  unfold State.goodCharacter
  dsimp only
  split
  · split
    · exact hreceiving _ _
    · exact ignored_tends s
  · split
    · exact hreceiving _ _
    · unfold State.checkLength
      dsimp only
      split
      · exact finish_tends (.of_eq (s.discardPartial_desk _))
      · split <;> exact hreceiving _ _
  · split <;> exact hreceiving _ _
  · split
    · exact hreceiving _ _
    · exact s.completeFrame_tends _

theorem execCharacterArrival_tends (c : Character) (s : State) : s.Tends (execCharacterArrival c s) := by
  cases c with
  | good b => exact s.goodCharacter_tends b
  | faulty =>
    unfold execCharacterArrival
    dsimp only
    split
    · exact ignored_tends s
    · exact finish_tends (.of_eq (s.discardPartial_desk _))

theorem execFrameCompletion_tends (crcLow : Byte) (s : State) : s.Tends (execFrameCompletion crcLow s) := by
  unfold execFrameCompletion
  split
  · exact s.completeFrame_tends _
  · exact ignored_tends s

theorem execInterByteTimeout_tends (s : State) : s.Tends (execInterByteTimeout s) := by
  unfold execInterByteTimeout
  split
  · exact finish_tends (.of_eq (s.discardPartial_desk _))
  · exact ignored_tends s

/-- The departure of a request whose reply is sent: what is kept up to there, then the next request's dispatch (R166). -/
theorem State.depart_tends {d : Desk} (h : d.Keeps ⟨s.store, false, s.link.replies⟩) :
    ∃ t, s.depart = .next t ∧ d.Keeps t.desk := by
  unfold State.depart
  dsimp only
  split
  · rename_i r _
    obtain ⟨t, ht, hk⟩ := State.dispatch_tends (s := s.withLink { s.link with hand := none, waitingPlace := none }) rfl r
    exact ⟨t, ht, h.trans hk⟩
  · exact ⟨_, rfl, by rw [State.transmit_desk]; exact h⟩

@[simp] theorem State.switchRate_desk (s : State) (index : Fin 4) : (s.switchRate index).desk = s.desk := by
  unfold State.switchRate
  split
  · rfl
  · dsimp only
    have hrate : (s.withLink { s.link with rateIndex := index }).desk = s.desk := s.withLink_desk rfl rfl
    split
    · exact (State.discardPartial_desk _ _).trans hrate
    · exact hrate

theorem execTransmitterFree_tends (s : State) : s.Tends (execTransmitterFree s) := by
  unfold execTransmitterFree
  dsimp only
  split
  · exact ignored_tends s
  · rename_i b htx
    exact finish_tends (.of_eq (s.withLink_desk rfl (by simp [Link.replies, htx])))
  · rename_i r htx
    have hsent : s.desk.replies = (s.withLink { s.link with transmitter := .idle }).link.replies + 1 := by
      show s.link.replies = _
      cases hw : s.link.waitingReply <;> simp [Link.replies, htx, hw]
    split
    · exact State.depart_tends (Desk.Keeps.departed hsent)
    · rename_i index _
      obtain ⟨hstore, -, hreplies⟩ :=
        Desk.mk.inj ((s.withLink { s.link with transmitter := .idle }).switchRate_desk index)
      refine State.depart_tends ?_
      rw [hstore, hreplies]
      exact Desk.Keeps.departed hsent
    · exact finish_tends (State.resetBlocks_keeps _ _ _)

/-! ### The whole of a step -/

theorem exec_tends (i : Instr) (s : State) : s.Tends (exec i s) := by
  cases hr : encodeRequest i with
  | some r => rw [exec_eq_runRequest hr]; exact runRequest_tends i s
  | none =>
    cases i with
    | powerOnReset => exact ⟨_, rfl, s.resetBlocks_keeps _ 3⟩
    | frameStart => exact execFrameStart_tends s
    | lineArrival line => exact execLineArrival_tends line s
    | frameEnd => exact execFrameEnd_tends s
    | lossTimeout => exact execLossTimeout_tends s
    | outputFrameStart => exact execOutputFrameStart_tends s
    | outputFrameEnd => exact execOutputFrameEnd_tends s
    | intervalExpiry => exact execIntervalExpiry_tends s
    | keySample pressed => exact execKeySample_tends pressed s
    | interByteTimeout => exact execInterByteTimeout_tends s
    | frameCompletion crcLow => exact execFrameCompletion_tends crcLow s
    | transmitterFree => exact execTransmitterFree_tends s
    | identityReadEnd size => exact execIdentityReadEnd_tends size s
    | headerReadEnd header => exact execHeaderReadEnd_tends header s
    | formatEraseEnd success => exact execFormatEraseEnd_tends success s
    | saveEraseEnd success => exact execSaveEraseEnd_tends success s
    | programEnd success => exact execProgramEnd_tends success s
    | commitEnd success => exact execCommitEnd_tends success s
    | reclaimEraseEnd success => exact execReclaimEraseEnd_tends success s
    | tombstoneEnd success => exact execTombstoneEnd_tends success s
    | recallReadEnd read => exact execRecallReadEnd_tends read s
    | exportReadEnd data => exact execExportReadEnd_tends data s
    | characterArrival c => exact execCharacterArrival_tends c s
    | _ => cases hr

/-- Every step keeps the books and the law of the desk. -/
theorem step_keeps (h : step s = .next t) : s.desk.Keeps t.desk := by
  unfold step at h
  split at h
  · cases h
    exact .refl _
  · rename_i c rest _
    obtain ⟨u, hu, hk⟩ := exec_tends c (s.withPending rest)
    rw [hu] at h
    cases h
    exact hk

/-- Every step keeps the store's law and the answer law. -/
theorem step_desk_law (hs : s.Law) (h : step s = .next t) : t.store.Law ∧ t.AnswerLaw := by
  obtain ⟨-, -, -, -, -, hstore, hanswer⟩ := hs
  exact (step_keeps h).law ⟨hstore, hanswer⟩

end Sys2Proof.Machine
end

section
/-! The laws of the lesson store are kept by every step. -/

open Sys2Proof Sys2Proof.Machine

/-- Settles O57: each act of a command keeps the books, in READY by the directory law of the lessons and entries it moves, in a
mount or format by the law of the flash's next step. -/
theorem storeLawKept : Obligations.StoreLawKept := fun _ _ hs h => (step_keeps h).book hs

/-- Settles O58: the cell law is part of the store's law, which every act of a command keeps. -/
theorem cellLawKept : Obligations.CellLawKept := fun _ _ hs h => (step_desk_law hs h).1.2.1

/-- Settles O59: writer law and port law are part of the store's law; the replies formed are told beside those deferred. -/
theorem writerPortAndAnswersAgree : Obligations.WriterPortAndAnswersAgree := by
  intro s t hs h
  obtain ⟨⟨-, -, hport, hwriter⟩, hanswer⟩ := step_desk_law hs h
  exact ⟨hwriter, hport, hanswer⟩

end

section
/-! SUPPORT. What the port's arbiter grants (R149, R154). -/

namespace Sys2Proof.Machine

/-- A search through rising keys stops at the key that has an answer, where no lower key has one. -/
theorem findSome?_lowest {α : Type} {f : Nat → Option α} {x : α} {c : Nat} (hx : f c = some x)
    (hlow : ∀ d < c, f d = none) : ∀ {l : List Nat}, l.Pairwise (· < ·) → c ∈ l → l.findSome? f = some x
  | d :: l, hl, hc => by
    rcases List.mem_cons.mp hc with rfl | hc
    · rw [List.findSome?_cons, hx]
    · have hd : d < c := (List.pairwise_cons.mp hl).1 c hc
      rw [List.findSome?_cons, hlow d hd]
      exact findSome?_lowest hx hlow (List.pairwise_cons.mp hl).2 hc

/-- Of the steps waiting the one of the lowest class is granted, the oldest within its class (R154). -/
theorem nextGrant_append {front back : List PortStep} {x : PortStep} (hf : ∀ y ∈ front, x.rank < y.rank)
    (hb : ∀ y ∈ back, x.rank ≤ y.rank) : nextGrant (front ++ x :: back) = some x := by
  refine findSome?_lowest (c := x.rank) ?_ (fun d hd => ?_) (by decide) (by have := x.rank_le; simp; omega)
  · rw [List.find?_eq_some_iff_append]
    exact ⟨beq_self_eq_true _, front, back, rfl, fun y hy => by simpa using (hf y hy).ne'⟩
  · rw [List.find?_eq_none]
    intro y hy
    have hle : x.rank ≤ y.rank := by
      rcases List.mem_append.mp hy with hy | hy
      · exact (hf y hy).le
      · rcases List.mem_cons.mp hy with rfl | hy
        · exact le_rfl
        · exact hb y hy
    simpa using (hd.trans_le hle).ne'

/-- The port free, the arbiter grants the step that stands first of the lowest class, and it waits no longer (R154). -/
theorem Store.arbitrate_append {s : Store} {front back : List PortStep} {x : PortStep} (hfree : s.port.inFlight = none)
    (hw : s.port.waiting = front ++ x :: back) (hf : ∀ y ∈ front, x.rank < y.rank)
    (hb : ∀ y ∈ back, x.rank ≤ y.rank) :
    s.arbitrate = s.grant x ∧ s.port.waiting.erase x = front ++ back := by
  have hx : x ∉ front := fun h => (hf x h).false
  constructor
  · simp only [Store.arbitrate, hfree, hw, nextGrant_append hf hb]
  · rw [hw, List.erase_append_right _ hx, List.erase_cons_head]

end Sys2Proof.Machine
end

section
/-! What the store port's arbiter grants. -/

open Sys2Proof Sys2Proof.Machine

/-- Settles O45, from the step that the arbiter finds: the first of the lowest class waiting. -/
theorem portGrantsLowestClass : Obligations.PortGrantsLowestClass := by
  intro s class_
  have hclass : ∀ x, class_ x = x.rank := fun x => by cases x <;> rfl
  refine ⟨fun hf => ?_, fun hw => ?_, fun front back x hfree hw hfront hback => ?_⟩
  · obtain ⟨x, hx⟩ := Option.ne_none_iff_exists'.mp hf
    rw [Store.arbitrate, hx]
  · rcases s.arbitrate_cases with ⟨h, -⟩ | ⟨x, -, hx, -⟩
    · exact h
    · rw [hw] at hx
      cases hx
  · simp only [hclass] at hfront hback
    obtain ⟨hgrant, hwait⟩ := Store.arbitrate_append hfree hw hfront hback
    refine ⟨fun hx => ?_, fun c e rest a l hx hq ha hl hid hnodup => ?_⟩
    · rw [hgrant, ← hwait]
      cases x with
      | saveProgram c => exact absurd rfl (hx c)
      | _ => rfl
    · subst hx
      rw [hgrant, ← hwait, ← Store.titleOf_eq hnodup hl, hid]
      simp only [Store.grant, Store.grantProgram, ha, hq, Option.map_some]
      rfl

end

section
/-! SUPPORT. What the writer does: the entry that leaves the queue, the cell chosen for the next one, and the entries begun
(R142, R147, R148, R152). -/

namespace Sys2Proof.Machine

variable {s : State} {e : SaveEntry} {rest : List SaveEntry}

/-! ### The head entry leaves the queue -/

/-- A slot after it loses a tag: FREE where nothing else holds it, and otherwise without the tag alone (R4, R8). -/
theorem Slot.withoutTag_eq (x : Slot) (tag : Tag) : x.withoutTag tag =
    if x.carries tag = true ∧ x.phase = .ready ∧ x.tags.put tag false = TagSet.empty ∧ x.pins = 0 then
      { x with tags := x.tags.put tag false, phase := .free, origin := none, focus := none }
    else { x with tags := x.tags.put tag false } := by
  cases hc : x.carries tag with
  | true => simp [Slot.withoutTag, Slot.reclaimed, Slot.freed, hc]
  | false =>
    have hput : x.tags.put tag false = x.tags := by
      unfold Slot.carries TagSet.has at hc
      cases tag <;> simp only [TagSet.put, ← hc]
    simp [Slot.withoutTag, hc, hput]

/-- The removable entry of one lesson (R142), once the queue is `rest`. -/
theorem Store.prune_directory (s : Store) (id : Nat) : (s.prune id).directory =
    s.directory.filter fun l =>
      decide ¬(l.id = id ∧ l.isOpen = false ∧ l.pages = [] ∧ ∀ f ∈ s.queue, f.lesson ≠ l.id) := by
  refine List.filter_congr fun l _ => ?_
  rw [Bool.eq_iff_iff]
  simp [Store.removable, Store.queueNames, or_assoc]

/-- The head entry leaves: its slot loses CAPTURE, the writer stands IDLE, and its lesson's entry goes if R142 calls for it. -/
theorem State.leaveQueue_cons (hq : s.store.queue = e :: rest) : s.leaveQueue =
    { s with
      slots := s.slots.set e.slot ((s.slots.get e.slot).withoutTag .capture)
      store := Store.prune { s.store with queue := rest, writer := .idle, attempt := none } e.lesson } := by
  rw [State.leaveQueue, hq]
  rfl

theorem State.dropFull_cons (hq : s.store.queue = e :: rest) :
    s.dropFull = s.leaveQueue.raise (.storeFull e.lesson e.ordinal e.frame e.outputCount) := by
  rw [State.dropFull, hq]

theorem State.dropFailed_cons (hq : s.store.queue = e :: rest) (cell : Nat) :
    s.dropFailed cell = s.leaveQueue.raise (.saveFailed e.lesson e.ordinal e.frame cell) := by
  rw [State.dropFailed, hq]

/-! ### The choice of a cell -/

/-- A stamp is left to give, and a cell to write (R148). -/
def Store.usable (s : Store) : Prop := s.stamp ≠ 0 ∧ (.erased ∈ s.cells ∨ .dead ∈ s.cells)

/-- For want of a stamp or a cell the head entry is dropped (R148). -/
theorem State.chooseCell_of_not_usable (h : ¬s.store.usable) (tries : Nat) : s.chooseCell tries = s.dropFull := by
  unfold State.chooseCell
  by_cases hstamp : s.store.stamp = 0
  · rw [if_pos hstamp]
  · have hcells : .erased ∉ s.store.cells ∧ .dead ∉ s.store.cells := not_or.mp fun hc => h ⟨hstamp, hc⟩
    rw [if_neg hstamp, Store.lowestCell_eq_none.mpr hcells.1, Store.lowestCell_eq_none.mpr hcells.2]

theorem State.chooseCell_of_erased (hstamp : s.store.stamp ≠ 0) {c : Nat} (hc : s.store.lowestCell .erased = some c)
    (tries : Nat) : s.chooseCell tries = s.withStore (s.store.takeCell c tries true) := by
  rw [State.chooseCell, if_neg hstamp, hc]

theorem State.chooseCell_of_dead (hstamp : s.store.stamp ≠ 0) (hnone : .erased ∉ s.store.cells) {c : Nat}
    (hc : s.store.lowestCell .dead = some c) (tries : Nat) :
    s.chooseCell tries = s.withStore (s.store.takeCell c tries false) := by
  rw [State.chooseCell, if_neg hstamp, Store.lowestCell_eq_none.mpr hnone, hc]

/-- With a stamp and a cell to be had, the writer has the head entry's cell in hand (R148). -/
theorem State.chooseCell_busy (h : s.store.usable) (tries : Nat) : (s.chooseCell tries).store.writer ≠ .idle := by
  obtain ⟨hstamp, hcells⟩ := h
  cases he : s.store.lowestCell .erased with
  | some c => rw [State.chooseCell_of_erased hstamp he]; nofun
  | none =>
    have hnone := Store.lowestCell_eq_none.mp he
    cases hd : s.store.lowestCell .dead with
    | some c => rw [State.chooseCell_of_dead hstamp hnone hd]; nofun
    | none => exact absurd (hcells.resolve_left hnone) (Store.lowestCell_eq_none.mp hd)

/-! ### The entries begun -/

theorem Store.writerFree_iff {s : Store} : s.writerFree = true ↔ s.state = .ready ∧ s.writer = .idle := by
  simp [Store.writerFree]

theorem beginSaves_of_not_free (h : s.store.writerFree = false) (n : Nat) : beginSaves n s = s := by
  cases n <;> simp [beginSaves, h]

theorem State.runWriter_of_not_free (h : s.store.writerFree = false) : s.runWriter = s := by
  rw [State.runWriter, beginSaves_of_not_free h, Store.beginReclaim, h]
  rfl

/-- With nothing queued the writer begins at most a reclaim (R152). -/
theorem State.runWriter_of_nil (hq : s.store.queue = []) : s.runWriter = s.withStore s.store.beginReclaim := by
  rw [State.runWriter, hq]
  rfl

/-- With an entry queued, and a stamp and a cell for it, the writer begins that entry and no other (R148). -/
theorem State.runWriter_of_usable (hfree : s.store.writerFree = true) (hq : s.store.queue ≠ []) (h : s.store.usable) :
    s.runWriter = s.chooseCell 0 := by
  obtain ⟨e, rest, hq⟩ := List.exists_cons_of_ne_nil hq
  have hbusy : (s.chooseCell 0).store.writerFree = false :=
    Bool.eq_false_iff.mpr fun hf => s.chooseCell_busy h 0 (Store.writerFree_iff.mp hf).2
  have hbegun : beginSaves s.store.queue.length s = s.chooseCell 0 := by
    rw [hq, List.length_cons, beginSaves, hq, hfree]
    exact beginSaves_of_not_free hbusy _
  rw [State.runWriter, hbegun, Store.beginReclaim, hbusy]
  rfl

@[simp] theorem Store.beginReclaim_queue (s : Store) : s.beginReclaim.queue = s.queue := by
  rcases s.beginReclaim_cases with ⟨h, -⟩ | ⟨c, -, -, -, -, h⟩ <;> rw [h]
  rfl

/-- What STORE_FULL tells of an entry dropped (R148). -/
def SaveEntry.fullNotice (e : SaveEntry) : NoticePayload := .storeFull e.lesson e.ordinal e.frame e.outputCount

/-- With no stamp or no cell to be had, the writer drops every entry of the queue with STORE_FULL, in turn (R148). -/
theorem beginSaves_of_not_usable (hfree : s.store.writerFree = true) (h : ¬s.store.usable) :
    (beginSaves s.store.queue.length s).store.queue = [] ∧
      (beginSaves s.store.queue.length s).notices =
        s.store.queue.foldl (fun n e => n.raise e.fullNotice) s.notices := by
  induction hq : s.store.queue generalizing s with
  | nil => exact ⟨hq, rfl⟩
  | cons e rest ih =>
    have hdrop : s.chooseCell 0 = s.leaveQueue.raise e.fullNotice :=
      (s.chooseCell_of_not_usable h 0).trans (s.dropFull_cons hq)
    have hbegun : beginSaves (rest.length + 1) s = beginSaves rest.length (s.chooseCell 0) := by
      rw [beginSaves, hfree, hq]
      rfl
    have hstore : (s.chooseCell 0).store =
        Store.prune { s.store with queue := rest, writer := .idle, attempt := none } e.lesson := by
      rw [hdrop, State.leaveQueue_cons hq]
      rfl
    have hnotices : (s.chooseCell 0).notices = s.notices.raise e.fullNotice := by
      rw [hdrop, State.leaveQueue_cons hq]
      rfl
    rw [List.length_cons, hbegun, List.foldl_cons, ← hnotices]
    refine ih ?_ ?_ ?_
    · rw [hstore]
      exact Store.writerFree_iff.mpr ⟨(Store.writerFree_iff.mp hfree).1, rfl⟩
    · rw [hstore]
      exact h
    · rw [hstore]
      rfl

end Sys2Proof.Machine
end

section
/-! The writer's choice of cells and entries. -/

open Sys2Proof Sys2Proof.Machine

/-- Settles O44: the writer's acts case by case, and for the entries dropped one after another, by induction on the queue. -/
theorem writerChoosesCells : Obligations.WriterChoosesCells := by
  refine ⟨fun s e rest tries hq => ?_, fun s => ?_⟩
  · intro x bare left dropped taking
    have hleft : s.leaveQueue = left := by
      rw [State.leaveQueue_cons hq, Slot.withoutTag_eq]
      congr 1
      exact congrArg (fun d => { s.store with queue := rest, writer := .idle, attempt := none, directory := d })
        (Store.prune_directory _ e.lesson)
    have hdropped : s.dropFull = dropped :=
      (s.dropFull_cons hq).trans (congrArg (State.raise · e.fullNotice) hleft)
    refine ⟨hleft, fun hstamp => ?_, fun hstamp => ⟨fun c hc hlow => ?_, fun hnone => ⟨fun c hc hlow => ?_,
      fun hdead => ?_⟩⟩⟩
    · exact (s.chooseCell_of_not_usable (fun h => h.1 hstamp) tries).trans hdropped
    · exact s.chooseCell_of_erased hstamp (Store.lowestCell_eq_some.mpr ⟨hc, hlow⟩) tries
    · exact s.chooseCell_of_dead hstamp hnone (Store.lowestCell_eq_some.mpr ⟨hc, hlow⟩) tries
    · exact (s.chooseCell_of_not_usable (fun h => h.2.elim hnone hdead) tries).trans hdropped
  · intro free usable
    refine ⟨fun hfree => ?_, fun hfree hq => ⟨fun hdead => ?_, fun c hc hlow => ?_⟩, fun hfree hq hu => ?_,
      fun last hfree hlast hu => ?_⟩
    · exact s.runWriter_of_not_free (Bool.eq_false_iff.mpr fun h => hfree (Store.writerFree_iff.mp h))
    · rw [s.runWriter_of_nil hq, Store.beginReclaim, Store.lowestCell_eq_none.mpr hdead]
      exact congrArg s.withStore (ite_self _)
    · rw [s.runWriter_of_nil hq, Store.beginReclaim, Store.lowestCell_eq_some.mpr ⟨hc, hlow⟩,
        Store.writerFree_iff.mpr hfree, hq]
      rfl
    · exact s.runWriter_of_usable (Store.writerFree_iff.mpr hfree) hq hu
    · obtain ⟨before, hbefore⟩ := List.getLast?_eq_some_iff.mp hlast
      obtain ⟨hqueue, hnotices⟩ := beginSaves_of_not_usable (Store.writerFree_iff.mpr hfree) hu
      constructor
      · exact (Store.beginReclaim_queue _).trans hqueue
      · refine hnotices.trans ?_
        rw [Notices.raises_eq (k := 9) (f := SaveEntry.fullNotice) (fun _ => rfl), hbefore,
          NoticeRecord.raises_concat, List.length_append]
        rfl

end

section
/-! SUPPORT. The ends of a save's steps and of a reclaim erase (R149 to R152). -/

namespace Sys2Proof.Machine

variable {s : State} {e : SaveEntry} {rest : List SaveEntry}

/-- A failed step of a save: its cell BAD and told of, then another cell while fewer than three have failed, and otherwise the
entry dropped (R151). -/
theorem State.saveStepFailed_eq {a : Attempt} (hq : s.store.queue = e :: rest) (ha : s.store.attempt = some a) (cell : Nat)
    (k : ErrorKind) : s.saveStepFailed cell k =
      if a.tries < 3 then ((s.withStore (s.store.setCell cell .bad)).recordError .store k cell).chooseCell a.tries
      else ((s.withStore (s.store.setCell cell .bad)).recordError .store k cell).leaveQueue.raise
        (.saveFailed e.lesson e.ordinal e.frame cell) := by
  have hqueue : ((s.withStore (s.store.setCell cell .bad)).recordError .store k cell).store.queue = e :: rest := by
    rw [State.recordError_store]
    exact hq
  rw [← State.dropFailed_cons hqueue, State.saveStepFailed, ha]
  rfl

/-- One page list with a page more stands by ordinal (R142, R150): the entry's ordinal is not among those of its lesson. -/
theorem Store.Listed.addPage_directory {s : Store} (h : s.Listed) (hq : s.queue = e :: rest) (cell : Nat) (stamp : Word) :
    (s.addPage e.lesson ⟨cell, e.ordinal, stamp⟩).directory = s.directory.map fun l =>
      if l.id = e.lesson then
        { l with
          pages := l.pages.filter (fun p => decide (p.ordinal < e.ordinal)) ++
            ⟨cell, e.ordinal, stamp⟩ :: l.pages.filter (fun p => decide (e.ordinal < p.ordinal)) }
      else l := by
  refine List.map_congr_left fun l hl => ite_congr rfl (fun hid => ?_) fun _ => rfl
  have hlaw := h.lesson l hl
  have hqueued : e.ordinal ∈ s.queuedOrdinals l.id :=
    mem_queuedOrdinals.mpr ⟨e, by rw [hq]; exact List.mem_cons_self, hid.symm, rfl⟩
  have hnew : e.ordinal ∉ l.pages.map (·.ordinal) := fun hm => by
    obtain ⟨p, hp, hpe⟩ := List.mem_map.mp hm
    exact (hlaw.page p hp).2.2.2 (hpe ▸ hqueued)
  rw [insertPage_eq_filter hlaw.rising hnew]

/-- A lesson just given a page is not removable (R142). -/
theorem Store.prune_addPage (s : Store) (id : Nat) (p : PageRecord) :
    ((s.addPage id p).prune id) = s.addPage id p := by
  have hkept : (s.addPage id p).directory.filter (fun l => !(l.id == id && (s.addPage id p).removable l)) =
      (s.addPage id p).directory := by
    refine List.filter_eq_self.mpr fun m hm => ?_
    obtain ⟨l, -, rfl⟩ := List.mem_map.mp hm
    by_cases hl : l.id = id
    · have hpages : (insertPage p l.pages).isEmpty = false :=
        List.isEmpty_eq_false_iff.mpr fun hnil => by
          have := (insertPage_perm p l.pages).length_eq
          rw [hnil] at this
          exact absurd this (by simp)
      simp [hl, Store.removable, hpages]
    · simp [hl]
  exact congrArg (fun d => { s.addPage id p with directory := d }) hkept

/-- A commit that succeeded: the cell USED, the page in its lesson's list, the entry gone, SAVE_DONE (R150). -/
theorem State.committed_eq {a : Attempt} (h : s.store.Listed) (hq : s.store.queue = e :: rest) (ha : s.store.attempt = some a)
    {stamp : Word} (hstamp : a.stamp = some stamp) (cell : Nat) : s.committed cell =
      State.raise { s with
        slots := s.slots.set e.slot ((s.slots.get e.slot).withoutTag .capture)
        store :=
          { s.store with
            cells := s.store.cells.set cell .used, queue := rest, writer := .idle, attempt := none
            directory := s.store.directory.map fun l =>
              if l.id = e.lesson then
                { l with
                  pages := l.pages.filter (fun p => decide (p.ordinal < e.ordinal)) ++
                    ⟨cell, e.ordinal, stamp⟩ :: l.pages.filter (fun p => decide (e.ordinal < p.ordinal)) }
              else l } }
        (.saveDone e.lesson e.ordinal cell stamp e.frame e.outputCount) := by
  have hgiven : s.store.attemptStamp = stamp := by
    rw [Store.attemptStamp, ha, Option.bind_some, hstamp]
    rfl
  have hleft := State.leaveQueue_cons (e := e) (rest := rest)
    (s := s.withStore ((s.store.setCell cell .used).addPage e.lesson ⟨cell, e.ordinal, stamp⟩)) hq
  have hkept := Store.prune_addPage { s.store.setCell cell .used with queue := rest, writer := .idle, attempt := none }
    e.lesson ⟨cell, e.ordinal, stamp⟩
  have hpages := h.addPage_directory hq cell stamp
  rw [← hpages, State.committed, hq]
  dsimp only
  rw [hgiven, hleft]
  exact congrArg (fun x => State.raise { s with
    slots := s.slots.set e.slot ((s.slots.get e.slot).withoutTag .capture), store := x }
    (.saveDone e.lesson e.ordinal cell stamp e.frame e.outputCount)) hkept

end Sys2Proof.Machine
end

section
/-! How the steps of a save and of reclaim end. -/

open Sys2Proof Sys2Proof.Machine

/-- Settles O46: each end by the step it is the end of, its failures by the writer's next choice. -/
theorem saveAndReclaimStepsEnd : Obligations.SaveAndReclaimStepsEnd := by
  intro s cell ok landed goOn asked failed again
  have hagain : ∀ {e rest a} (k : ErrorKind), s.store.queue = e :: rest → s.store.attempt = some a →
      s.endStep.saveStepFailed cell k = again k e a.tries := fun k hq ha =>
    State.saveStepFailed_eq (s := s.endStep) hq ha cell k
  refine ⟨fun hf => ?_, fun hf => ?_, fun e rest a hq ha => ⟨fun hf => ?_, fun hf => ?_, fun hf => ⟨?_,
      fun stamp hlaw hstamp => ?_⟩⟩,
    fun hf => ?_, fun hf => ?_, fun hf => ?_, fun hf => ?_, fun hf => ?_⟩
  · show execSaveEraseEnd true s = _
    rw [execSaveEraseEnd, hf]
    rfl
  · show execProgramEnd true s = _
    rw [execProgramEnd, hf]
    rfl
  · show execSaveEraseEnd false s = _
    rw [execSaveEraseEnd, hf, ← hagain .eraseFail hq ha]
    rfl
  · show execProgramEnd false s = _
    rw [execProgramEnd, hf, ← hagain .programFail hq ha]
    rfl
  · show execCommitEnd false s = _
    rw [execCommitEnd, hf, ← hagain .programFail hq ha]
    rfl
  · intro saved
    have hlisted : s.endStep.store.Listed := ((Store.directoryLaw_iff _).mp hlaw).congr rfl rfl rfl
    have hdone : s.endStep.committed cell =
        saved.raise (.saveDone e.lesson e.ordinal cell stamp e.frame e.outputCount) := by
      rw [State.committed_eq hlisted hq ha hstamp]
      dsimp only [saved]
      rw [State.leaveQueue_cons hq]
      rfl
    show execCommitEnd true s = _
    rw [execCommitEnd, hf, ← hdone]
    rfl
  · intro done
    show execReclaimEraseEnd ok s = _
    rw [execReclaimEraseEnd, hf]
    cases ok <;> rfl
  · show execSaveEraseEnd ok s = _
    unfold execSaveEraseEnd
    split
    exacts [absurd ‹_› (hf _), rfl]
  · show execProgramEnd ok s = _
    unfold execProgramEnd
    split
    exacts [absurd ‹_› (hf _), rfl]
  · show execCommitEnd ok s = _
    unfold execCommitEnd
    split
    exacts [absurd ‹_› (hf _), rfl]
  · show execReclaimEraseEnd ok s = _
    unfold execReclaimEraseEnd
    split
    exacts [absurd ‹_› (hf _), rfl]

end

section
/-! SUPPORT. How the store state receives a request (R134, R136, R139, R140). -/

namespace Sys2Proof.Machine

variable {s : State}

/-! ### Every store request -/

/-- A store request's step as R134 has it: BUSY while the store mounts or formats, and NOT_MOUNTED without a mounted flash. -/
def ReceivedByState (step : State → State × Option Answer) : Prop :=
  (∀ s : State, s.store.state = .mounting ∨ s.store.state = .formatting → step s = (s, some Answer.busy)) ∧
    ∀ s : State, s.store.state = .unmounted ∨ s.store.state = .fault → step s = (s, some (Answer.refused .notMounted))

theorem whenReady_received (k : State → State × Answer) :
    ReceivedByState fun s => ((whenReady s (k s)).1, some (whenReady s (k s)).2) := by
  constructor <;> rintro s (h | h) <;> simp [whenReady, h]

theorem whenReadyDeferring_received (k : State → State × Option Answer) :
    ReceivedByState fun s => whenReadyDeferring s (k s) := by
  constructor <;> rintro s (h | h) <;> simp [whenReadyDeferring, h]

theorem storeMountStep_busy (h : s.store.state = .mounting ∨ s.store.state = .formatting) :
    storeMountStep s = (s, Answer.busy) := by
  rcases h with h | h <;> simp [storeMountStep, h]

theorem storeFormatStep_busy (h : s.store.state = .mounting ∨ s.store.state = .formatting) :
    storeFormatStep s = (s, Answer.busy) := by
  rcases h with h | h <;> simp [storeFormatStep, h]

/-- The step of a store request: BUSY in MOUNTING and FORMATTING, and but for a mount and a format received by the store state in
UNMOUNTED and FAULT too (R134). -/
def StoreRequestStep (i : Instr) (step : State → State × Option Answer) : Prop :=
  (∀ s, exec i s = respondOrDefer i s step) ∧
    (∀ s : State, s.store.state = .mounting ∨ s.store.state = .formatting → step s = (s, some Answer.busy)) ∧
    ((∀ tag, i ≠ .storeMount tag ∧ i ≠ .storeFormat tag) → ReceivedByState step)

theorem storeRequest_step {i : Instr} (hi : isStoreRequest i = true) : ∃ step, StoreRequestStep i step := by
  have answering : ∀ k : State → State × Answer, (∀ s, exec i s = respond i s fun s => whenReady s (k s)) →
      ∃ step, StoreRequestStep i step :=
    fun k h => ⟨_, h, (whenReady_received k).1, fun _ => whenReady_received k⟩
  have deferring : ∀ k : State → State × Option Answer,
      (∀ s, exec i s = respondOrDefer i s fun s => whenReadyDeferring s (k s)) → ∃ step, StoreRequestStep i step :=
    fun k h => ⟨_, h, (whenReadyDeferring_received k).1, fun _ => whenReadyDeferring_received k⟩
  cases i with
  | storeMount tag =>
    exact ⟨fun s => ((storeMountStep s).1, some (storeMountStep s).2), fun _ => rfl,
      fun s h => by simp only [storeMountStep_busy h], fun h => absurd rfl (h tag).1⟩
  | storeFormat tag =>
    exact ⟨fun s => ((storeFormatStep s).1, some (storeFormatStep s).2), fun _ => rfl,
      fun s h => by simp only [storeFormatStep_busy h], fun h => absurd rfl (h tag).2⟩
  | storeUnmount | lessonOpen | lessonResume | lessonClose | lessonList | lessonPages | lessonDelete | pageRecall =>
    exact answering _ fun _ => rfl
  | pageDelete | pageRead => exact deferring _ fun _ => rfl
  | _ => cases hi

/-! ### Mount, format and unmount -/

/-- In READY a request follows its own rule (R134). -/
theorem whenReady_ready (h : s.store.state = .ready) (k : State × Answer) : whenReady s k = k := by
  rw [whenReady, h]

theorem whenReadyDeferring_ready (h : s.store.state = .ready) (k : State × Option Answer) :
    whenReadyDeferring s k = k := by
  rw [whenReadyDeferring, h]

theorem Store.atWork_iff {s : Store} :
    s.atWork = true ↔ s.port.inFlight ≠ none ∨ s.recallLoad ≠ none ∨ s.deleteWork ≠ none := by
  simp [Store.atWork, Option.isSome_iff_ne_none, or_assoc]

theorem Store.anyOpen_iff {s : Store} : s.anyOpen = true ↔ ∃ l ∈ s.directory, l.isOpen = true := List.any_eq_true

/-- A mount of a store that knows no flash begins with the identity read (R136). -/
theorem storeMountStep_begins (h : s.store.state = .unmounted ∨ s.store.state = .fault) :
    storeMountStep s = (s.withStore (s.store.beginMedia .mounting), Answer.accepted []) := by
  rcases h with h | h <;> simp [storeMountStep, h]

theorem storeMountStep_ready (h : s.store.state = .ready) : storeMountStep s = (s, Answer.ok []) := by
  simp [storeMountStep, h]

/-- So does a format (R139). -/
theorem storeFormatStep_begins (h : s.store.state = .unmounted ∨ s.store.state = .fault) :
    storeFormatStep s = (s.withStore (s.store.beginMedia .formatting), Answer.accepted []) := by
  rcases h with h | h <;> simp [storeFormatStep, h]

/-- A format in READY is refused for an open lesson, then for queued saves, then for work in hand (R139). -/
theorem storeFormatStep_ready (h : s.store.state = .ready) : storeFormatStep s =
    if s.store.anyOpen = true then (s, Answer.refused .lessonOpen)
    else if s.store.queue ≠ [] then (s, Answer.refused .savesPending)
    else if s.store.atWork = true then (s, Answer.busy)
    else (s.withStore (s.store.beginMedia .formatting), Answer.accepted []) := by
  simp [storeFormatStep, h, Store.anyOpen]

/-- An unmount in READY is BUSY for queued saves or work in hand, and forgets the flash otherwise (R140). -/
theorem storeUnmountStep_ready (h : s.store.state = .ready) : storeUnmountStep s =
    if s.store.queue ≠ [] ∨ s.store.atWork = true then (s, Answer.busy)
    else ((s.withStore { s.store with
        state := .unmounted, cellCount := 0, cells := [], directory := [], stamp := 0 }).raiseStoreState,
      Answer.ok []) := by
  simp [storeUnmountStep, whenReady_ready h]

end Sys2Proof.Machine
end

section
/-! How each store state receives its requests. -/

open Sys2Proof Sys2Proof.Machine

/-- Settles O40, by the step of each request and the store state it finds. -/
theorem storeStatesReceiveRequests : Obligations.StoreStatesReceiveRequests := by
  refine ⟨fun i r s hi hr hlink => ?_, fun tag s hlink => ?_⟩
  · obtain ⟨step, hexec, hbusy, hreceived⟩ := storeRequest_step hi
    rw [hexec]
    exact ⟨fun h => respondOrDefer_some hr hlink.1 (hbusy s h),
      fun h hother => respondOrDefer_some hr hlink.1 ((hreceived hother).2 s h)⟩
  · intro mount format unmount working anyOpen formatting
    refine ⟨fun h => ⟨?_, ?_⟩, fun h => ⟨?_, fun ho => ?_, fun ho hq => ?_, fun ho hq hw => ?_, fun ho hq hw => ?_,
      fun hw => ?_, fun hw => ?_⟩⟩
    · exact respond_next (i := .storeMount tag) rfl hlink (storeMountStep_begins h) rfl
    · exact respond_next (i := .storeFormat tag) rfl hlink (storeFormatStep_begins h) rfl
    · exact respond_next (i := .storeMount tag) rfl hlink (storeMountStep_ready h) rfl
    · have hstep : storeFormatStep s = (s, Answer.refused .lessonOpen) := by
        rw [storeFormatStep_ready h, if_pos (Store.anyOpen_iff.mpr ho)]
      exact respond_next (i := .storeFormat tag) rfl hlink hstep rfl
    · have hstep : storeFormatStep s = (s, Answer.refused .savesPending) := by
        rw [storeFormatStep_ready h, if_neg (mt Store.anyOpen_iff.mp ho), if_pos hq]
      exact respond_next (i := .storeFormat tag) rfl hlink hstep rfl
    · have hstep : storeFormatStep s = (s, Answer.busy) := by
        rw [storeFormatStep_ready h, if_neg (mt Store.anyOpen_iff.mp ho), if_neg (not_not.mpr hq),
          if_pos (Store.atWork_iff.mpr hw)]
      exact respond_next (i := .storeFormat tag) rfl hlink hstep rfl
    · have hstep : storeFormatStep s = (s.withStore (s.store.beginMedia .formatting), Answer.accepted []) := by
        rw [storeFormatStep_ready h, if_neg (mt Store.anyOpen_iff.mp ho), if_neg (not_not.mpr hq),
          if_neg (mt Store.atWork_iff.mp hw)]
      exact respond_next (i := .storeFormat tag) rfl hlink hstep rfl
    · have hstep : storeUnmountStep s = (s, Answer.busy) := by
        rw [storeUnmountStep_ready h, if_pos (hw.imp_right Store.atWork_iff.mpr)]
      exact respond_next (i := .storeUnmount tag) rfl hlink hstep rfl
    · have hstep := (storeUnmountStep_ready h).trans (if_neg fun hb => hw (hb.imp_right Store.atWork_iff.mp))
      exact respond_next (i := .storeUnmount tag) rfl hlink hstep rfl

end

section
/-! SUPPORT. Identity reads, header reads and format erases (R136, R137, R139). -/

namespace Sys2Proof.Machine

variable {s : State}

/-! ### The identity read -/

theorem cellCountOf_small {size : Nat} (h : size < 64 * 16777216) : cellCountOf (some size) = .error .tooSmall :=
  if_pos (Nat.div_lt_of_lt_mul (by rwa [Nat.mul_comm]))

theorem cellCountOf_large {size : Nat} (h : 64 * 16777216 ≤ size) :
    cellCountOf (some size) = .ok (min (size / 16777216) 1024) :=
  if_neg (Nat.not_lt.mpr ((Nat.le_div_iff_mul_le (by decide)).mpr h))

/-! ### A header read -/

/-- The first 16 bytes read 0xFF (R137). -/
theorem headerErased_iff {h : List Byte} :
    headerErased h = true ↔ (List.range 16).map (headerByte h) = List.replicate 16 0xFF := by
  rw [headerErased, List.all_eq_true, List.eq_replicate_iff]
  simp

/-- The magic and the CRC (R195). -/
theorem headerSound_iff {h : List Byte} : headerSound h = true ↔
    [headerByte h 0, headerByte h 1, headerByte h 2, headerByte h 3] = [0x57, 0x58, 0x50, 0x31] ∧
      crcBytes ((List.range 48).map (headerByte h)) = [headerByte h 48, headerByte h 49] := by
  have hmagic : (List.range 4).all (fun i => headerByte h i == headerMagic.getD i 0) = true ↔
      [headerByte h 0, headerByte h 1, headerByte h 2, headerByte h 3] = [0x57, 0x58, 0x50, 0x31] := by
    simp [List.range_succ, headerMagic]
  rw [headerSound, Bool.and_eq_true, hmagic, beq_iff_eq]

/-- The checks of R137's third row; an ordinal is at most 255 because a byte is. -/
theorem headerPasses_iff {h : List Byte} : headerPasses h = true ↔
    headerSound h = true ∧ 1 ≤ (headerByte h 4).toNat ∧ (headerByte h 4).toNat ≤ 64 ∧ 1 ≤ (headerByte h 5).toNat := by
  have hbyte : (headerByte h 5).toNat ≤ 255 := Nat.le_of_lt_succ (headerByte h 5).isLt
  rw [headerPasses, Bool.and_eq_true, Bool.and_eq_true, decide_eq_true_eq, decide_eq_true_eq, and_assoc, and_assoc]
  exact and_congr_right' (and_congr_right' (and_congr_right' (and_iff_left hbyte)))

theorem headerPage_iff {h : List Byte} :
    (headerCommitted h && !headerTombstoned h) = true ↔ headerByte h 50 = 0 ∧ headerByte h 51 = 0xFF := by
  simp [headerCommitted, headerTombstoned, bne]

/-- The rows of R137 for a header that was read: the cell's state. -/
theorem classify_some_state (h : List Byte) : (classify (some h)).1 =
    if headerErased h = true then .erased
    else if headerPasses h = true ∧ (headerCommitted h && !headerTombstoned h) = true then .used else .dead := by
  unfold classify
  dsimp only
  cases headerErased h <;> cases headerPasses h <;> cases headerCommitted h <;> cases headerTombstoned h <;> rfl

/-- The rows of R137 for a header that was read: the error told of. -/
theorem classify_some_error (h : List Byte) : (classify (some h)).2 =
    if ¬headerErased h = true ∧ ¬headerPasses h = true then some .storeHeaderBad else none := by
  unfold classify
  dsimp only
  cases headerErased h <;> cases headerPasses h <;> cases headerCommitted h <;> cases headerTombstoned h <;> rfl

/-- The part once a header read is classified and its error told of (R137). -/
def State.scanned (s : State) (cell : Nat) (read : Option (List Byte)) : State :=
  match (classify read).2 with
  | some k => (s.withStore (s.store.classified cell read)).recordError .store k cell
  | none => s.withStore (s.store.classified cell read)

@[simp] theorem State.scanned_store (s : State) (cell : Nat) (read : Option (List Byte)) :
    (s.scanned cell read).store = s.store.classified cell read := by
  unfold State.scanned
  cases (classify read).2 with
  | some k => exact State.recordError_store _ _ _ _
  | none => rfl

/-- A header read ends: the next begins, or the mount is finished (R136 to R138). -/
theorem execHeaderReadEnd_eq {cell : Nat} (hf : s.store.port.inFlight = some (.headerRead cell)) (read : Option (List Byte)) :
    execHeaderReadEnd read s =
      if cell + 1 < s.store.cellCount then
        finish ((s.scanned cell read).withStore ((s.scanned cell read).store.inFlightNext (.headerRead (cell + 1))))
      else
        finish (((s.scanned cell read).withStore
          (s.scanned cell read).store.finishMount).raiseStoreState.runWriter.arbitratePort) := by
  rw [execHeaderReadEnd, hf]
  rfl

/-! ### A format's erase -/

/-- The part once a format's erase has left its cell ERASED or BAD, a failure told of (R139). -/
def State.formatErased (s : State) (cell : Nat) (ok : Bool) : State :=
  if ok then s else s.recordError .store .eraseFail cell

theorem execFormatEraseEnd_eq {cell : Nat} (hf : s.store.port.inFlight = some (.formatErase cell)) (ok : Bool) :
    execFormatEraseEnd ok s =
      if cell + 1 < s.store.cellCount then
        finish ((s.formatErased cell ok).withStore
          (((s.store.setCell cell (if ok then .erased else .bad)).setCell (cell + 1) .erasing).inFlightNext
            (.formatErase (cell + 1))))
      else
        finish ((s.formatErased cell ok).withStore
          (s.store.setCell cell (if ok then .erased else .bad)).finishFormat).raiseStoreState := by
  rw [execFormatEraseEnd, hf]
  cases ok with
  | true => rfl
  | false =>
    dsimp only
    rw [if_neg Bool.false_ne_true, State.recordError_withStore]
    rfl

end Sys2Proof.Machine
end

section
/-! The flash events of a mount and a format. -/

open Sys2Proof Sys2Proof.Machine

/-- Settles O41: the cell count of an identity read, R137's rows for a header read, and a format's erase, each with what it asks
for next. -/
theorem mediaReadsAndErases : Obligations.MediaReadsAndErases := by
  intro s flying landed
  refine ⟨fun hf => ?_, fun cell read hf => ?_, fun cell ok hf => ?_, fun size hf => ?_, fun read hf => ?_, fun ok hf => ?_⟩
  · intro fault
    refine ⟨?_, fun size => ⟨fun hs => ?_, fun hs hst => ?_, fun hs hst => ?_⟩⟩
    · show execIdentityReadEnd none s = _
      rw [execIdentityReadEnd, hf]
      rfl
    · show execIdentityReadEnd (some size) s = _
      rw [execIdentityReadEnd, hf, cellCountOf_small hs]
      rfl
    · show execIdentityReadEnd (some size) s = _
      rw [execIdentityReadEnd, hf, cellCountOf_large hs, hst]
      rfl
    · have hpos : 1 ≤ min (size / 16777216) 1024 := by omega
      have hcells : (List.replicate (min (size / 16777216) 1024) CellState.dead).set 0 .erasing =
          .erasing :: List.replicate (min (size / 16777216) 1024 - 1) .dead := by
        conv_lhs => rw [← Nat.sub_add_cancel hpos, List.replicate_succ, List.set_cons_zero]
      show execIdentityReadEnd (some size) s = _
      rw [execIdentityReadEnd, hf, cellCountOf_large hs, hst]
      dsimp only
      rw [← hcells]
      rfl
  · cases read with
    | none =>
      intro b blank passes page found kept judged told
      have hfound : found = .bad := if_pos rfl
      have hkept : kept = [] := if_neg fun h => h.1 rfl
      have htold : told = s.scanned cell none := by
        refine (if_pos rfl).trans ?_
        dsimp only [judged]
        rw [hfound, hkept]
        rfl
      show execHeaderReadEnd none s = _
      rw [execHeaderReadEnd_eq hf, htold, State.scanned_store]
      rfl
    | some h =>
      intro b blank passes page found kept judged told
      have hblank : headerErased h = true ↔ blank := headerErased_iff
      have hpasses : headerPasses h = true ↔ passes :=
        headerPasses_iff.trans ((and_congr_left' headerSound_iff).trans and_assoc)
      have hpage : (headerCommitted h && !headerTombstoned h) = true ↔ page := headerPage_iff
      have hfound : found = (classify (some h)).1 := by
        rw [classify_some_state]
        exact (if_neg nofun).trans (if_congr hblank.symm rfl (if_congr (and_congr hpasses hpage).symm rfl rfl))
      have hkept : kept = (scannedHeader cell h).toList := by
        by_cases h2 : passes
        · rw [scannedHeader, if_pos (hpasses.mpr h2)]
          refine (if_pos ⟨nofun, h2⟩).trans ?_
          have hmark : decide page = (headerCommitted h && !headerTombstoned h) := by
            rw [Bool.eq_iff_iff, hpage, decide_eq_true_eq]
          rw [hmark]
          rfl
        · rw [scannedHeader, if_neg (mt hpasses.mp h2)]
          exact if_neg fun h => h2 h.2
      have htold : told = s.scanned cell (some h) := by
        have hjudged : judged = s.withStore (s.store.classified cell (some h)) := by
          dsimp only [judged]
          rw [hfound, hkept]
          rfl
        refine (if_neg nofun).trans ?_
        have herror : (classify (some h)).2 = if ¬blank ∧ ¬passes then some .storeHeaderBad else none :=
          (classify_some_error h).trans (if_congr (and_congr (not_congr hblank) (not_congr hpasses)) rfl rfl)
        rw [State.scanned, ← hjudged, herror]
        by_cases hbad : ¬blank ∧ ¬passes
        · rw [if_pos hbad, if_pos hbad]
        · rw [if_neg hbad, if_neg hbad]
      show execHeaderReadEnd (some h) s = _
      rw [execHeaderReadEnd_eq hf, htold, State.scanned_store]
      rfl
  · intro cells told
    show execFormatEraseEnd ok s = _
    rw [execFormatEraseEnd_eq hf]
    rfl
  · show execIdentityReadEnd size s = _
    unfold execIdentityReadEnd
    split
    exacts [absurd ‹_› hf, rfl]
  · show execHeaderReadEnd read s = _
    unfold execHeaderReadEnd
    split
    exacts [absurd ‹_› (hf _), rfl]
  · show execFormatEraseEnd ok s = _
    unfold execFormatEraseEnd
    split
    exacts [absurd ‹_› (hf _), rfl]

end

section
/-! SUPPORT. The steps of PAGE DELETE, PAGE RECALL and PAGE READ in READY (R156, R157, R159). -/

namespace Sys2Proof.Machine

variable {s : State} {l : Lesson} {p : PageRecord} {id ordinal : Nat}

/-! ### The checks the page requests share -/

theorem Store.lesson_eq_none {s : Store} (h : ∀ l ∈ s.directory, l.id ≠ id) : s.lesson id = none :=
  List.find?_eq_none.mpr fun l hl => by simpa using h l hl

theorem Store.findPage_noLesson {s : Store} (h : ∀ l ∈ s.directory, l.id ≠ id) (ordinal : Nat) :
    s.findPage id ordinal = .error .noSuchLesson := by
  rw [Store.findPage, Store.lesson_eq_none h]

theorem Store.Listed.findPage_deleting {s : Store} (h : s.Listed) (hl : l ∈ s.directory) (hd : l.deleting = true)
    (ordinal : Nat) : s.findPage l.id ordinal = .error .deleting := by
  rw [Store.findPage, h.lesson_eq_some hl]
  exact if_pos hd

theorem Store.Listed.findPage_noPage {s : Store} (h : s.Listed) (hl : l ∈ s.directory) (hd : l.deleting = false)
    (ho : ∀ p ∈ l.pages, p.ordinal ≠ ordinal) : s.findPage l.id ordinal = .error .noSuchPage := by
  have hnone : l.pages.find? (·.ordinal == ordinal) = none :=
    List.find?_eq_none.mpr fun p hp => by simpa using ho p hp
  rw [Store.findPage, h.lesson_eq_some hl]
  dsimp only
  rw [hd, hnone]
  rfl

theorem Store.Listed.findPage_ok {s : Store} (h : s.Listed) (hl : l ∈ s.directory) (hd : l.deleting = false)
    (hp : p ∈ l.pages) : s.findPage l.id p.ordinal = .ok p := by
  have hsome : l.pages.find? (·.ordinal == p.ordinal) = some p :=
    find_by_key (nodup_of_rising (h.lesson l hl).rising) hp rfl
  rw [Store.findPage, h.lesson_eq_some hl]
  dsimp only
  rw [hd, hsome]
  rfl

/-! ### Recall's allocation (R6) -/

theorem Slots.allocateLoading_none {t : Slots} (hload : ∀ i, (t.get i).phase ≠ .loading)
    (hfree : ∀ i, (t.get i).phase ≠ .free) (lesson ordinal : Nat) : t.allocateLoading lesson ordinal = (t, .none) := by
  rcases t.allocateLoading_cases lesson ordinal with ⟨⟨i, hi⟩, -⟩ | ⟨-, ⟨i, hi, -⟩ | ⟨-, h⟩⟩
  · exact absurd hi (hload i)
  · exact absurd (by simpa using Table.lowest_eq_some hi) (hfree i)
  · exact h

theorem Slots.allocateLoading_lowest {t : Slots} (hload : ∀ i, (t.get i).phase ≠ .loading) {i : Fin 12}
    (hi : (t.get i).phase = .free) (hlow : ∀ j, (t.get j).phase = .free → i ≤ j) (lesson ordinal : Nat) :
    t.allocateLoading lesson ordinal = (t.set i ((t.get i).allocated .loading (.store lesson ordinal)), .slot i) := by
  have hlowest : t.lowestFree = some i :=
    Table.lowest_eq_of (beq_iff_eq.mpr hi) fun j hj => beq_eq_false_iff_ne.mpr fun h => absurd (hlow j h) (not_le.mpr hj)
  rcases t.allocateLoading_cases lesson ordinal with ⟨⟨i, hi⟩, -⟩ | ⟨-, ⟨j, hj, h⟩ | ⟨hnone, -⟩⟩
  · exact absurd hi (hload i)
  · cases hlowest.symm.trans hj
    exact h
  · cases hlowest.symm.trans hnone

/-! ### Their steps -/

theorem pageDeleteStep_ready (h : s.store.state = .ready) (hp : s.store.findPage id ordinal = .ok p) (tag : Byte) :
    pageDeleteStep tag id ordinal s =
      ((s.withStore (s.store.ask (.tombstone id ordinal p.cell (some tag)))).arbitratePort, none) := by
  rw [pageDeleteStep, whenReadyDeferring_ready h, hp]

theorem pageReadStep_ready (h : s.store.state = .ready) (hp : s.store.findPage id ordinal = .ok p) (tag : Byte)
    (offset length : Nat) : pageReadStep tag id ordinal offset length s =
      if 10077696 ≤ offset then (s, some ⟨.adjusted, [0, 0, 0, 0, 0, 0], .nothing⟩)
      else
        ((s.withStore (s.store.ask (.exportRead tag p.cell offset (exportLength offset length)
          (exportLength offset length != length)))).arbitratePort, none) := by
  rw [pageReadStep, whenReadyDeferring_ready h, hp]
  rfl

/-- A recall accepted does not bear on the port's grant. -/
theorem Store.arbitrate_loading (s : Store) (r : Option RecallLoad) :
    Store.arbitrate { s with recallLoad := r } = { s.arbitrate with recallLoad := r } := by
  unfold Store.arbitrate
  dsimp only
  cases s.port.inFlight with
  | some x => rfl
  | none =>
    cases nextGrant s.port.waiting with
    | none => rfl
    | some x => cases x <;> rfl

theorem pageRecallStep_ready (h : s.store.state = .ready) (hp : s.store.findPage id ordinal = .ok p) (restoreView : Bool) :
    pageRecallStep id ordinal restoreView s =
      if s.store.recallLoad ≠ none then (s, Answer.busy)
      else
        match s.slots.allocateLoading id ordinal with
        | (_, .busy) => (s, Answer.busy)
        | (_, .none) => (s, Answer.refused .noSlot)
        | (slots, .slot i) =>
          (((s.withSlots slots).withStore
            (Store.ask { s.store with recallLoad := some ⟨id, ordinal, p.cell, i, restoreView⟩ }
              (.recallRead p.cell))).arbitratePort, Answer.accepted [lowByte i.val]) := by
  rw [pageRecallStep, whenReady_ready h, hp]
  cases s.store.recallLoad <;> rfl

/-- The checks of a page request refuse it (R156, R157, R159). -/
theorem exec_pageRequest_refused (hlink : s.link.Free) (h : s.store.state = .ready) {c : Instr} {r : Request}
    {tag lesson ordinal restoreView : Byte} {offset : Word} {length : Half} {reason : Reason}
    (hc : c = .pageDelete tag lesson ordinal ∨ c = .pageRecall tag lesson ordinal restoreView ∨
      c = .pageRead tag lesson ordinal offset length)
    (hr : encodeRequest c = some r) (hp : s.store.findPage lesson.toNat ordinal.toNat = .error reason) :
    exec c s = .next { s with link := s.link.answered r .refused [reason.code] } := by
  rcases hc with rfl | rfl | rfl
  · refine respondOrDefer_some (a := Answer.refused reason) hr hlink.1 ?_
    rw [pageDeleteStep, whenReadyDeferring_ready h, hp]
  · refine respond_next (a := Answer.refused reason) hr hlink ?_ rfl
    rw [pageRecallStep, whenReady_ready h, hp]
  · refine respondOrDefer_some (a := Answer.refused reason) hr hlink.1 ?_
    rw [pageReadStep, whenReadyDeferring_ready h, hp]

end Sys2Proof.Machine
end

section
/-! PAGE DELETE, PAGE RECALL and PAGE READ. -/

open Sys2Proof Sys2Proof.Machine

/-- Settles O49: the shared refusals by the search for the page, and each request's step on the page found. -/
theorem pageRequests : Obligations.PageRequests := by
  intro tag lesson ordinal restoreView offset length s hlink hst hlaw delete load read dir
  have hlisted := (Store.directoryLaw_iff _).mp hlaw
  refine ⟨fun c r hc hr => ⟨fun hno => ?_, fun l hl hid => ⟨fun hd => ?_, fun hd ho => ?_⟩⟩,
    fun l hl p hp hid hd ho => ?_⟩
  · exact exec_pageRequest_refused hlink hst hc hr (Store.findPage_noLesson hno _)
  · exact exec_pageRequest_refused hlink hst hc hr (hid ▸ hlisted.findPage_deleting hl hd _)
  · exact exec_pageRequest_refused hlink hst hc hr (hid ▸ hlisted.findPage_noPage hl hd ho)
  · intro asked n answerLoad readRequest
    have hfound : s.store.findPage lesson.toNat ordinal.toNat = .ok p := hid ▸ ho ▸ hlisted.findPage_ok hl hd hp
    have hn : exportLength offset.toNat length.toNat = n := by
      rw [exportLength, clamp_eq (by decide)]
      rfl
    refine ⟨?_, fun hpast => ?_, fun hpast => ?_, fun hload => ?_, fun hload hnone => ⟨fun hfull => ?_,
      fun i hi hlow => ?_⟩⟩
    · rw [hid, ho]
      exact respondOrDefer_none (i := delete) rfl hlink.1 (pageDeleteStep_ready hst hfound tag)
    · refine respondOrDefer_some (i := read) rfl hlink.1 ((pageReadStep_ready hst hfound tag _ _).trans (if_pos hpast))
    · have hstep := (pageReadStep_ready hst hfound tag offset.toNat length.toNat).trans (if_neg (Nat.not_le.mpr hpast))
      rw [hn, show (n != length.toNat) = decide (n ≠ length.toNat) by simp [bne, beq_eq_decide]] at hstep
      exact respondOrDefer_none (i := read) rfl hlink.1 hstep
    · exact respond_next (i := load) rfl hlink ((pageRecallStep_ready hst hfound _).trans (if_pos hload)) rfl
    · have hstep := (pageRecallStep_ready hst hfound (onOff restoreView)).trans (if_neg (not_not.mpr hload))
      rw [Slots.allocateLoading_none hnone hfull] at hstep
      exact respond_next (i := load) rfl hlink hstep rfl
    · have hstep := (pageRecallStep_ready hst hfound (onOff restoreView)).trans (if_neg (not_not.mpr hload))
      rw [Slots.allocateLoading_lowest hnone hi hlow] at hstep
      rw [hid, ho, ← onOff_eq, ← Store.arbitrate_loading]
      exact respond_next (i := load) rfl hlink hstep rfl

end

section
/-! SUPPORT. The steps of the lesson requests in READY (R142 to R146, R155). -/

namespace Sys2Proof.Machine

variable {s : State} {l : Lesson} {id : Nat}

/-! ### LESSON OPEN and LESSON RESUME -/

theorem lessonOpenStep_ready (h : s.store.state = .ready) (title : List Byte) : lessonOpenStep title s =
    if s.store.anyOpen = true then (s, Answer.refused .alreadyOpen)
    else if 64 ≤ s.store.directory.length then (s, Answer.refused .directoryFull)
    else
      (s.withStore { s.store with
          directory := insertLesson ⟨s.store.freeId, title.take 24, true, 1, false, []⟩ s.store.directory },
        Answer.inForce (decide (title.length ≤ 24)) ([lowByte s.store.freeId] ++ titleBytes (title.take 24))) := by
  rw [lessonOpenStep, whenReady_ready h]
  rfl

/-- The id given to a new lesson is the lowest that no lesson has (R143). -/
theorem Store.freeId_eq {s : Store} (hlen : s.directory.length < 64) (hpos : 1 ≤ id)
    (hfree : ∀ l ∈ s.directory, l.id ≠ id)
    (hlow : ∀ k, 1 ≤ k → k < id → ∃ l ∈ s.directory, l.id = k) : s.freeId = id := by
  obtain ⟨hone, hle, hnone⟩ := Store.freeId_range hlen
  have hid : id ≤ 64 := by
    by_contra hgt
    obtain ⟨l, hl, e⟩ := hlow s.freeId hone (by omega)
    exact hnone l hl e
  have hfound : (List.range' 1 64).find? (fun id => !s.directory.any (·.id == id)) = some id := by
    rw [List.find?_range'_eq_some]
    refine ⟨by simpa using hfree, List.mem_range'_1.mpr ⟨hpos, by omega⟩, fun k hk hlt => ?_⟩
    simpa using hlow k hk hlt
  rw [Store.freeId, hfound]
  rfl

theorem lessonResumeStep_none (h : s.store.state = .ready) (hno : ∀ l ∈ s.store.directory, l.id ≠ id) :
    lessonResumeStep id s = (s, Answer.refused .noSuchLesson) := by
  rw [lessonResumeStep, whenReady_ready h, Store.lesson_eq_none hno]

theorem lessonResumeStep_some (h : s.store.state = .ready) (hl : s.store.lesson id = some l) : lessonResumeStep id s =
    if l.deleting = true then (s, Answer.refused .deleting)
    else if s.store.anyOpen = true then (s, Answer.refused .alreadyOpen)
    else
      (s.withStore (s.store.changeLesson id fun m =>
          { m with isOpen := true, next := highest (s.store.ordinalsOf l) + 1 }),
        Answer.ok ([lowByte id] ++ titleBytes l.title ++ le16 (highest (s.store.ordinalsOf l) + 1))) := by
  rw [lessonResumeStep, whenReady_ready h, hl]

/-! ### LESSON LIST and LESSON PAGES -/

theorem lessonPagesStep_none (h : s.store.state = .ready) (hno : ∀ l ∈ s.store.directory, l.id ≠ id) (first : Nat) :
    lessonPagesStep id first s = (s, Answer.refused .noSuchLesson) := by
  rw [lessonPagesStep, whenReady_ready h, Store.lesson_eq_none hno]

theorem lessonPagesStep_some (h : s.store.state = .ready) (hl : s.store.lesson id = some l) (first : Nat) :
    lessonPagesStep id first s = (s, Answer.ok (lessonPagesBytes l.pages first)) := by
  rw [lessonPagesStep, whenReady_ready h, hl]

theorem lessonPagesBytes_eq (pages : List PageRecord) (first : Nat) : lessonPagesBytes pages first =
    [BitVec.ofNat 8 pages.length, BitVec.ofNat 8 (min (pages.length - first) 40)] ++
      (((pages.drop first).take 40).map fun p =>
        [BitVec.ofNat 8 p.ordinal] ++ le16 p.cell ++ le32 p.stamp.toNat).flatten := by
  have hlen : ((pages.drop first).take 40).length = min (pages.length - first) 40 := by simp [min_comm]
  rw [← hlen]
  rfl

theorem Lesson.flags_eq (l : Lesson) : l.flags = (if l.isOpen then 1 else 0) + (if l.deleting then 2 else 0) := by
  unfold Lesson.flags
  cases l.isOpen <;> cases l.deleting <;> rfl

theorem lessonEntryBytes_eq (ht : l.title.length ≤ 24) : lessonEntryBytes l =
    [BitVec.ofNat 8 l.id, BitVec.ofNat 8 l.title.length] ++ l.title ++ List.replicate (24 - l.title.length) 0 ++
      [BitVec.ofNat 8 l.pages.length] ++ le16 l.next ++
      [(if l.isOpen then 1 else 0) + (if l.deleting then 2 else 0)] := by
  rw [lessonEntryBytes, Lesson.flags_eq, titleField, List.take_of_length_le ht]
  simp only [lowByte, List.append_assoc]

theorem Store.Listed.listBytes_eq {s : Store} (h : s.Listed) (first : Nat) : lessonListBytes s.directory first =
    [BitVec.ofNat 8 s.directory.length, BitVec.ofNat 8 (min (s.directory.length - first) 32)] ++
      (((s.directory.drop first).take 32).map fun l =>
        [BitVec.ofNat 8 l.id, BitVec.ofNat 8 l.title.length] ++ l.title ++ List.replicate (24 - l.title.length) 0 ++
          [BitVec.ofNat 8 l.pages.length] ++ le16 l.next ++
          [(if l.isOpen then 1 else 0) + (if l.deleting then 2 else 0)]).flatten := by
  have hlen : ((s.directory.drop first).take 32).length = min (s.directory.length - first) 32 := by simp [min_comm]
  have hentries : ((s.directory.drop first).take 32).map lessonEntryBytes = _ :=
    List.map_congr_left fun l hl => lessonEntryBytes_eq (h.lesson l (List.mem_of_mem_drop (List.mem_of_mem_take hl))).title
  rw [← hlen, ← hentries]
  rfl

/-! ### LESSON CLOSE -/

theorem lessonCloseStep_none (h : s.store.state = .ready) (ho : ¬∃ l ∈ s.store.directory, l.isOpen = true) :
    lessonCloseStep s = (s, Answer.ok [0]) := by
  have hnone : s.store.directory.find? (·.isOpen) = none :=
    List.find?_eq_none.mpr fun l hl hopen => ho ⟨l, hl, hopen⟩
  rw [lessonCloseStep, whenReady_ready h, hnone]

/-- A lesson as the close of the lesson `id` leaves it (R145). -/
def Lesson.closedAs (m : Lesson) (id : Nat) : Lesson := if m.id = id then { m with isOpen := false } else m

/-- The lesson closed: its entry goes if it holds no page and no entry names it, and is closed otherwise (R142, R145). -/
theorem Store.closed_directory {s : Store} (h : (s.directory.map (·.id)).Nodup) (hl : l ∈ s.directory) :
    ((s.changeLesson l.id fun m => { m with isOpen := false }).prune l.id).directory =
      if l.pages = [] ∧ s.queuedOrdinals l.id = [] then s.directory.filter (fun m => decide (m.id ≠ l.id))
      else s.directory.map fun m => m.closedAs l.id := by
  have hone : ∀ m ∈ s.directory, m.id = l.id → m = l := fun m hm e => List.inj_on_of_nodup_map h hm hl e
  have hgone : ∀ m ∈ s.directory,
      (decide ¬((m.closedAs l.id).id = l.id ∧ (m.closedAs l.id).isOpen = false ∧ (m.closedAs l.id).pages = [] ∧
        ∀ f ∈ s.queue, f.lesson ≠ (m.closedAs l.id).id)) =
      decide ¬(m.id = l.id ∧ l.pages = [] ∧ s.queuedOrdinals l.id = []) := fun m hm => by
    refine decide_eq_decide.mpr (not_congr ?_)
    rw [Store.queuedOrdinals_eq_nil]
    by_cases hml : m.id = l.id
    · obtain rfl := hone m hm hml
      simp [Lesson.closedAs]
    · simp [Lesson.closedAs, hml]
  have hdirectory : ((s.changeLesson l.id fun m => { m with isOpen := false }).prune l.id).directory =
      (s.directory.filter fun m => decide ¬(m.id = l.id ∧ l.pages = [] ∧ s.queuedOrdinals l.id = [])).map fun m =>
        m.closedAs l.id := by
    rw [Store.prune_directory]
    refine (List.filter_map (f := fun m => Lesson.closedAs m l.id)).trans ?_
    exact congrArg _ (List.filter_congr hgone)
  rw [hdirectory]
  by_cases hbare : l.pages = [] ∧ s.queuedOrdinals l.id = []
  · simp only [hbare, and_true, if_pos]
    refine (List.map_congr_left fun m hm => if_neg ?_).trans (List.map_id _)
    simpa using (List.mem_filter.mp hm).2
  · simp only [hbare, and_false, not_false_eq_true, decide_true, List.filter_true, if_false]

theorem lessonCloseStep_some (h : s.store.state = .ready) (hlisted : s.store.Listed) (hl : l ∈ s.store.directory)
    (ho : l.isOpen = true) : lessonCloseStep s =
      (s.withStore ((s.store.changeLesson l.id fun m => { m with isOpen := false }).prune l.id),
        Answer.ok [lowByte l.id]) := by
  have hsome : (s.store.directory.find? (·.isOpen)).isSome = true := List.find?_isSome.mpr ⟨l, hl, ho⟩
  obtain ⟨m, hm⟩ := Option.isSome_iff_exists.mp hsome
  have hml : m = l := hlisted.lesson_eq (List.mem_of_find?_eq_some hm) hl
    (hlisted.oneOpen m (List.mem_of_find?_eq_some hm) l hl (List.find?_some hm) ho)
  rw [lessonCloseStep, whenReady_ready h, hm, hml]

/-! ### LESSON DELETE -/

theorem lessonDeleteStep_none (h : s.store.state = .ready) (hno : ∀ l ∈ s.store.directory, l.id ≠ id) :
    lessonDeleteStep id s = (s, Answer.refused .noSuchLesson) := by
  rw [lessonDeleteStep, whenReady_ready h, Store.lesson_eq_none hno]

theorem Store.queueNames_iff_queuedOrdinals {s : Store} : s.queueNames id = true ↔ s.queuedOrdinals id ≠ [] := by
  rw [Store.queueNames_iff, Ne, Store.queuedOrdinals_eq_nil]
  push Not
  rfl

theorem lessonDeleteStep_some (h : s.store.state = .ready) (hl : s.store.lesson id = some l) : lessonDeleteStep id s =
    if l.isOpen = true then (s, Answer.refused .lessonOpen)
    else if s.store.queuedOrdinals id ≠ [] then (s, Answer.refused .savesPending)
    else if l.deleting = true then (s, Answer.refused .deleting)
    else if s.store.deleteWork ≠ none then (s, Answer.busy)
    else (((s.withStore (s.store.deleteBegun id)).continueDelete ⟨id, 0, 0⟩).arbitratePort, Answer.accepted []) := by
  rw [lessonDeleteStep, whenReady_ready h, hl]
  simp only [Store.queueNames_iff_queuedOrdinals, Option.isSome_iff_ne_none]
  rfl

theorem State.continueDelete_cons {d : DeleteWork} (h : s.store.underDelete d = some l) {p : PageRecord}
    {more : List PageRecord} (hp : l.pages = p :: more) :
    s.continueDelete d = s.withStore (s.store.ask (.tombstone d.lesson p.ordinal p.cell none)) := by
  simp [State.continueDelete, h, hp]

theorem State.continueDelete_nil {d : DeleteWork} (h : s.store.underDelete d = some l) (hp : l.pages = []) :
    s.continueDelete d = s.endDelete d := by
  simp [State.continueDelete, h, hp]

/-- The lesson whose delete begins is the one under delete. -/
theorem Store.deleteBegun_underDelete {s : Store} (h : (s.directory.map (·.id)).Nodup) (hl : l ∈ s.directory)
    (hid : l.id = id) : (s.deleteBegun id).underDelete ⟨id, 0, 0⟩ = some { l with deleting := true } := by
  have hmem : { l with deleting := true } ∈ (s.deleteBegun id).directory :=
    List.mem_map.mpr ⟨l, hl, if_pos hid⟩
  refine Store.underDelete_eq ?_ hmem hid rfl
  refine Eq.mpr (congrArg List.Nodup ?_) h
  rw [Store.deleteBegun, Store.changeLesson, List.map_map]
  exact List.map_congr_left fun m _ => by dsimp only [Function.comp]; split <;> rfl

end Sys2Proof.Machine
end

section
/-! The lesson requests. -/

open Sys2Proof Sys2Proof.Machine

/-- Settles O48, by the step of each request on the lesson it names. -/
theorem lessonRequests : Obligations.LessonRequests := by
  intro tag lesson first title s hlink hst hlaw dir anyOpen answerOpen answerResume answerPages answerDelete withDir
    saying changed
  have hlisted := (Store.directoryLaw_iff _).mp hlaw
  have hany : s.store.anyOpen = true ↔ anyOpen := Store.anyOpen_iff
  have hdelete : ∀ l ∈ dir, l.id = lesson.toNat → lessonDeleteStep lesson.toNat s = _ := fun l hl hid =>
    lessonDeleteStep_some (l := l) hst (hid ▸ hlisted.lesson_eq_some hl)
  refine ⟨fun ho => ?_, fun ho hfull => ?_, fun ho hlen id hpos hfree hlow => ?_, fun hno => ⟨?_, ?_, ?_⟩,
    fun l hl hid => ⟨fun hd => ?_, fun hd ho => ?_, fun hd ho next hlt hnext => ?_, ?_, fun ho => ?_,
      fun ho hq => ?_, fun ho hq hd => ?_, fun ho hq hd => ⟨fun hw => ?_, fun p more hw hp => ?_⟩⟩,
    fun ho => ?_, fun l hl ho => ?_, ?_⟩
  · have hstep := (lessonOpenStep_ready hst title).trans (if_pos (hany.mpr ho))
    exact respond_next (i := .lessonOpen tag title) rfl hlink hstep rfl
  · have hstep := (lessonOpenStep_ready hst title).trans ((if_neg (mt hany.mp ho)).trans (if_pos hfull))
    exact respond_next (i := .lessonOpen tag title) rfl hlink hstep rfl
  · have hstep := (lessonOpenStep_ready hst title).trans
      ((if_neg (mt hany.mp ho)).trans (if_neg (not_le.mpr hlen)))
    have hnew : id ∉ dir.map (·.id) := fun hm => by
      obtain ⟨l, hl, e⟩ := List.mem_map.mp hm
      exact hfree l hl e
    rw [Store.freeId_eq hlen hpos hfree hlow, insertLesson_eq_filter hlisted.rising hnew, titleBytes, List.length_take,
      min_comm] at hstep
    have hstatus : Status.ofUnchanged (decide (title.length ≤ 24)) = okIf (title.length ≤ 24) :=
      Status.ofUnchanged_eq decide_eq_true_iff
    rw [← hstatus]
    exact respond_next (i := .lessonOpen tag title) rfl hlink hstep rfl
  · exact respond_next (i := .lessonResume tag lesson) rfl hlink (lessonResumeStep_none hst hno) rfl
  · exact respond_next (i := .lessonPages tag lesson first) rfl hlink (lessonPagesStep_none hst hno _) rfl
  · exact respond_next (i := .lessonDelete tag lesson) rfl hlink (lessonDeleteStep_none hst hno) rfl
  · have hstep := (lessonResumeStep_some hst (hid ▸ hlisted.lesson_eq_some hl)).trans (if_pos hd)
    exact respond_next (i := .lessonResume tag lesson) rfl hlink hstep rfl
  · have hstep := (lessonResumeStep_some hst (hid ▸ hlisted.lesson_eq_some hl)).trans
      ((if_neg (ne_true_of_eq_false hd)).trans (if_pos (hany.mpr ho)))
    exact respond_next (i := .lessonResume tag lesson) rfl hlink hstep rfl
  · have hstep := (lessonResumeStep_some hst (hid ▸ hlisted.lesson_eq_some hl)).trans
      ((if_neg (ne_true_of_eq_false hd)).trans (if_neg (mt hany.mp ho)))
    have hhighest : highest (s.store.ordinalsOf l) + 1 = next := highest_add_one hlt hnext
    rw [hhighest, lowByte_toNat] at hstep
    rw [hid]
    exact respond_next (i := .lessonResume tag lesson) rfl hlink hstep rfl
  · have hstep := lessonPagesStep_some hst (hid ▸ hlisted.lesson_eq_some hl) first.toNat
    rw [lessonPagesBytes_eq] at hstep
    exact respond_next (i := .lessonPages tag lesson first) rfl hlink hstep rfl
  · have hstep := (hdelete l hl hid).trans (if_pos ho)
    exact respond_next (i := .lessonDelete tag lesson) rfl hlink hstep rfl
  · rw [hid] at hq
    have hstep := (hdelete l hl hid).trans ((if_neg (ne_true_of_eq_false ho)).trans (if_pos hq))
    exact respond_next (i := .lessonDelete tag lesson) rfl hlink hstep rfl
  · rw [hid] at hq
    have hstep := (hdelete l hl hid).trans
      ((if_neg (ne_true_of_eq_false ho)).trans ((if_neg (not_not.mpr hq)).trans (if_pos hd)))
    exact respond_next (i := .lessonDelete tag lesson) rfl hlink hstep rfl
  · rw [hid] at hq
    have hstep := (hdelete l hl hid).trans ((if_neg (ne_true_of_eq_false ho)).trans
      ((if_neg (not_not.mpr hq)).trans ((if_neg (ne_true_of_eq_false hd)).trans (if_pos hw))))
    exact respond_next (i := .lessonDelete tag lesson) rfl hlink hstep rfl
  · rw [hid] at hq
    have hstep := (hdelete l hl hid).trans ((if_neg (ne_true_of_eq_false ho)).trans
      ((if_neg (not_not.mpr hq)).trans ((if_neg (ne_true_of_eq_false hd)).trans (if_neg (not_not.mpr hw)))))
    have hunder := Store.deleteBegun_underDelete hlisted.lessonNodup hl hid
    rw [State.continueDelete_cons (l := { l with deleting := true }) hunder hp] at hstep
    rw [hid]
    exact respond_next (i := .lessonDelete tag lesson) rfl hlink hstep rfl
  · exact respond_next (i := .lessonClose tag) rfl hlink (lessonCloseStep_none hst ho) rfl
  · have hstep := lessonCloseStep_some hst hlisted hl ho
    have hclosed := Store.closed_directory hlisted.lessonNodup hl
    refine (respond_next (i := .lessonClose tag) rfl hlink hstep rfl).trans ?_
    exact congrArg (fun d => withDir d (s.link.answered ⟨0x5A, tag, []⟩ .ok [BitVec.ofNat 8 l.id])) hclosed
  · have hstep : lessonListStep first.toNat s = _ := whenReady_ready hst _
    rw [hlisted.listBytes_eq] at hstep
    exact respond_next (i := .lessonList tag first) rfl hlink hstep rfl

end

section
/-! SUPPORT. The ends of a tombstone, a recall read and a PAGE READ's read (R155, R156, R158, R159). -/

namespace Sys2Proof.Machine

variable {s : State} {l : Lesson}

/-! ### A tombstone -/

/-- A tombstone's effect: its cell DEAD or BAD, a failure told of, and its page out of its lesson's list (R155, R156). -/
theorem State.tombstoned_eq (s : State) (id ordinal cell : Nat) (ok : Bool) : s.tombstoned id ordinal cell ok =
    State.withStore (if ok then s else s.recordError .store .programFail cell) { s.store with
      cells := s.store.cells.set cell (if ok then .dead else .bad)
      directory := s.store.directory.map fun l =>
        if l.id = id then { l with pages := l.pages.filter fun p => decide ¬(p.ordinal = ordinal ∧ p.cell = cell) }
        else l } := by
  have htest : (fun p : PageRecord => !(p.ordinal == ordinal && p.cell == cell)) =
      fun p => decide ¬(p.ordinal = ordinal ∧ p.cell = cell) := by
    funext p
    rw [Bool.eq_iff_iff]
    simp
  rw [State.tombstoned, htest]
  cases ok with
  | true => rfl
  | false =>
    dsimp only
    rw [if_neg Bool.false_ne_true, State.recordError_withStore]
    rfl

/-- The same once its step has left the port. -/
theorem State.endStep_tombstoned (s : State) (id ordinal cell : Nat) (ok : Bool) :
    s.endStep.tombstoned id ordinal cell ok =
      State.withStore (if ok then s else s.recordError .store .programFail cell) { s.store.endStep with
        cells := s.store.cells.set cell (if ok then .dead else .bad)
        directory := s.store.directory.map fun l =>
          if l.id = id then { l with pages := l.pages.filter fun p => decide ¬(p.ordinal = ordinal ∧ p.cell = cell) }
          else l } := by
  rw [State.tombstoned_eq]
  cases ok with
  | true => rfl
  | false =>
    rw [if_neg Bool.false_ne_true, if_neg Bool.false_ne_true, State.endStep, State.recordError_withStore]
    rfl

/-- The page delete's reply tells whether the lesson's entry went with its last page (R142, R156). -/
theorem State.endPageDelete_eq (s : State) (id : Nat) (tag : Byte) (ok : Bool) : s.endPageDelete id tag ok =
    { s with
      store :=
        { s.store with
          directory := s.store.directory.filter fun l =>
            decide ¬(l.id = id ∧ l.isOpen = false ∧ l.pages = [] ∧ ∀ f ∈ s.store.queue, f.lesson ≠ l.id) }
      link := { s.link with waitingReply := some ⟨0x60, tag, .ok,
        [if ∃ l ∈ s.store.directory,
            l.id = id ∧ l.isOpen = false ∧ l.pages = [] ∧ ∀ f ∈ s.store.queue, f.lesson ≠ l.id
          then 1 else 0, if ok then 1 else 0], .nothing⟩ } } := by
  have hgone : s.store.directory.any (fun l => l.id == id && s.store.removable l) = true ↔
      ∃ l ∈ s.store.directory, l.id = id ∧ l.isOpen = false ∧ l.pages = [] ∧ ∀ f ∈ s.store.queue, f.lesson ≠ l.id := by
    simp [Store.removable, Store.queueNames, and_assoc]
  rw [← Store.prune_directory, ← if_congr hgone rfl rfl]
  rfl

/-- A lesson delete's entry goes (R155). -/
theorem Store.endDelete_directory {s : Store} (h : (s.directory.map (·.id)).Nodup) (hl : l ∈ s.directory)
    {d : DeleteWork} (hid : l.id = d.lesson) (hdel : l.deleting = true) :
    (s.endDelete d).directory = s.directory.filter fun m => decide (m.id ≠ d.lesson) := by
  refine List.filter_congr fun m hm => ?_
  by_cases hm' : m.id = d.lesson
  · rw [List.inj_on_of_nodup_map h hm hl (hm'.trans hid.symm)]
    simp [hid, hdel]
  · simp [hm']

/-! ### A recall -/

/-- A number in two bytes (R189). -/
theorem half_toNat (lo hi : Byte) : (half lo hi).toNat = lo.toNat + 256 * hi.toNat := by
  rw [half, BitVec.toNat_append, Nat.shiftLeft_eq, Nat.mul_comm, ← Nat.two_pow_add_eq_or_of_lt lo.isLt, Nat.add_comm]

/-- The header of a recalled cell is the one recorded (R158). -/
theorem recallMatches_iff {r : RecallLoad} {h : List Byte} : recallMatches r h = true ↔
    headerSound h = true ∧ (headerByte h 4).toNat = r.lesson ∧ (headerByte h 5).toNat = r.ordinal := by
  simp [recallMatches, headerLesson, headerOrdinal, and_assoc]

/-- The recalled slot READY with its image, and RECALL moved to it (R16). -/
theorem Slots.completeLoading_eq (t : Slots) (i : Fin 12) (image : Image) : t.completeLoading i image =
    t.mapIdx fun j x =>
      if j = i then { x with phase := .ready, image := image, tags := { x.tags with recalled := true } }
      else
        if x.tags.recalled = true ∧ x.phase = .ready ∧
            { x.tags with recalled := false } = TagSet.empty ∧ x.pins = 0 then
          { x with tags := { x.tags with recalled := false }, phase := .free, origin := none, focus := none }
        else { x with tags := { x.tags with recalled := false } } := by
  refine Table.ext_get fun j => ?_
  rw [Slots.completeLoading, Slots.get_moveTag, Table.get_mapIdx]
  by_cases hj : j = i
  · subst hj
    rw [if_pos rfl, if_pos rfl, Table.get_set_same]
    rfl
  · rw [if_neg hj, if_neg hj, Table.get_set_other _ _ (Ne.symm hj), Slot.withoutTag_eq]
    rfl

/-- The restore-view write (R74). -/
theorem State.restoreView_eq (s : State) (zoom cx cy : Nat) : s.restoreView zoom cx cy =
    s.withViews (s.views.set 0 { s.views.get 0 with
      target := max 256 (min zoom 2048), cx := min cx 2591, cy := min cy 1943 }) := by
  rw [State.restoreView, zoomInRange, columnInRange, rowInRange, clamp_eq (by decide), clamp_eq (Nat.zero_le _),
    clamp_eq (Nat.zero_le _), Nat.zero_max, Nat.zero_max]
  rfl

/-- A number of a header, least significant byte first (R189). -/
theorem headerHalf_eq (h : List Byte) (i : Nat) :
    headerHalf h i = (headerByte h i).toNat + 256 * (headerByte h (i + 1)).toNat := half_toNat _ _

/-- A recall that succeeded (R16, R74, R158). -/
theorem State.recallDone_eq (s : State) (r : RecallLoad) (c : CellRead) : s.recallDone r c =
    State.raise
      { s with
        slots := s.slots.completeLoading r.slot c.image
        store := { s.store with recallLoad := none }
        views :=
          if r.restoreView then
            s.views.set 0 { s.views.get 0 with
              target := max 256 (min (headerHalf c.header 18) 2048)
              cx := min (headerHalf c.header 20) 2591
              cy := min (headerHalf c.header 22) 1943 }
          else s.views }
      (.recallDone r.lesson r.ordinal r.slot false r.restoreView) := by
  rw [State.recallDone, State.restoreView_eq]
  cases r.restoreView <;> rfl

end Sys2Proof.Machine
end

section
/-! How the page steps end. -/

open Sys2Proof Sys2Proof.Machine

/-- Settles O50: each end by what it does to its cell, its page or its slot, and by whom it answers. -/
theorem pageStepsEnd : Obligations.PageStepsEnd := by
  intro s landed goOn reply
  refine ⟨fun id ordinal cell replyTag ok hf => ?_, fun c r hf hr => ?_, fun tag cell offset length adjusted hf => ?_,
    fun ok hf => ?_, fun got hf => ?_, fun data hf => ?_⟩
  · intro told dir store bare
    have htold : s.endStep.tombstoned id ordinal cell ok = told.withStore store :=
      s.endStep_tombstoned id ordinal cell ok
    have hlink : told.link = s.link := by
      dsimp only [told]
      split
      · rfl
      · exact State.recordError_link _ _ _ _
    refine ⟨fun tag htag => ?_, fun d l htag hd hl hid hdel hnodup => ?_⟩
    · subst htag
      show execTombstoneEnd ok s = _
      rw [execTombstoneEnd, hf]
      dsimp only
      rw [htold, State.endPageDelete_eq]
      dsimp only [reply]
      rw [← hlink]
      rfl
    · subst htag
      have hunder : ∀ w, ({ store with deleteWork := w } : Store).underDelete (d.counted ok) = some l := fun w =>
        Store.underDelete_eq hnodup hl hid hdel
      have hend : execTombstoneEnd ok s =
          finish ((told.withStore { store with deleteWork := some (d.counted ok) }).continueDelete
            (d.counted ok)).afterStep := by
        rw [execTombstoneEnd, hf]
        dsimp only
        rw [htold, State.endLessonTombstone, show (told.withStore store).store.deleteWork = some d from hd]
        rfl
      refine ⟨fun p more hp => ?_, fun hp => ?_⟩
      · refine hend.trans ?_
        rw [State.continueDelete_cons (hunder _) hp]
        rfl
      · refine hend.trans ?_
        rw [State.continueDelete_nil (hunder _) hp]
        have hgone : (store.endDelete (d.counted ok)).directory = dir.filter fun m => decide (m.id ≠ d.lesson) :=
          Store.endDelete_directory hnodup hl hid hdel
        rw [← hgone]
        rfl
  · intro failed
    refine ⟨?_, fun got => ?_⟩
    · show execRecallReadEnd none s = _
      rw [execRecallReadEnd, hf, hr]
      rfl
    · intro b right
      have hright : recallMatches r got.header = true ↔ right :=
        recallMatches_iff.trans ((and_congr_left' headerSound_iff).trans and_assoc)
      refine ⟨fun hno => ?_, fun hyes => ?_⟩
      · show execRecallReadEnd (some got) s = _
        rw [execRecallReadEnd, hf, hr]
        dsimp only
        rw [if_neg (mt hright.mp hno)]
        rfl
      · show execRecallReadEnd (some got) s = _
        rw [execRecallReadEnd, hf, hr]
        dsimp only
        rw [if_pos (hright.mpr hyes), State.recallDone_eq, Slots.completeLoading_eq, headerHalf_eq, headerHalf_eq,
          headerHalf_eq]
        rfl
  · refine ⟨?_, fun data hdata => ?_⟩
    · show execExportReadEnd none s = _
      rw [execExportReadEnd, hf]
      dsimp only [reply]
      rw [State.endStep, State.recordError_withStore, ← State.recordError_link s .store .readFail cell]
      rfl
    · show execExportReadEnd (some data) s = _
      rw [execExportReadEnd, hf, ← hdata]
      dsimp only
      rw [List.take_length]
      cases adjusted <;> rfl
  · show execTombstoneEnd ok s = _
    unfold execTombstoneEnd
    split
    exacts [absurd ‹_› (hf _ _ _ _), rfl]
  · show execRecallReadEnd got s = _
    unfold execRecallReadEnd
    split
    exacts [absurd ‹_› (hf _), rfl]
  · show execExportReadEnd data s = _
    unfold execExportReadEnd
    split
    exacts [absurd ‹_› (hf _ _ _ _ _), rfl]

end

section
/-! SUPPORT. The header that a save programs, as a mount and a recall read it (R149, R194, R195). -/

namespace Sys2Proof.Machine

variable {e : SaveEntry} {stamp : Word} {title : List Byte} {commit tombstone : Byte}

/-! ### Numbers and titles in bytes -/

theorem lowByte_of_lt {n : Nat} (h : n < 256) : (lowByte n).toNat = n := by
  rw [lowByte, BitVec.toNat_ofNat, Nat.mod_eq_of_lt h]

/-- A number in two bytes is read back (R189). -/
theorem half_le16 {n : Nat} (h : n < 65536) : (half (lowByte n) (lowByte (n / 256))).toNat = n := by
  rw [half_toNat, lowByte, lowByte, BitVec.toNat_ofNat, BitVec.toNat_ofNat]
  omega

/-- A number in four bytes is two of its halves (R189). -/
theorem word_toNat (b0 b1 b2 b3 : Byte) : (word b0 b1 b2 b3).toNat = (half b0 b1).toNat + 65536 * (half b2 b3).toNat := by
  show (half b2 b3 ++ half b0 b1 : BitVec 32).toNat = _
  rw [BitVec.toNat_append, Nat.shiftLeft_eq, Nat.mul_comm, ← Nat.two_pow_add_eq_or_of_lt (half b0 b1).isLt, Nat.add_comm]

/-- A number in four bytes is read back (R189). -/
theorem word_le32 (w : Word) : word (lowByte w.toNat) (lowByte (w.toNat / 256)) (lowByte (w.toNat / 65536))
    (lowByte (w.toNat / 16777216)) = w := by
  have hlt := w.isLt
  apply BitVec.eq_of_toNat_eq
  rw [word_toNat, half_toNat, half_toNat]
  simp only [lowByte, BitVec.toNat_ofNat]
  omega

/-- The bytes of a list's front, read one after another, are that front. -/
theorem map_range_getD {α : Type} (l r : List α) (d : α) : (List.range l.length).map (fun i => (l ++ r).getD i d) = l := by
  refine List.ext_getElem (by simp) fun i _ hi => ?_
  rw [List.getElem_map, List.getElem_range, List.getD_append _ _ _ _ hi, List.getD_eq_getElem _ _ hi]

/-! ### A header and its two marks -/

/-- The header of a page, with its commit mark and its tombstone mark as they read (R194). -/
def markedHeader (e : SaveEntry) (stamp : Word) (title : List Byte) (commit tombstone : Byte) : List Byte :=
  headerBody e stamp title ++ (crcBytes (headerBody e stamp title) ++ [commit, tombstone])

/-- Header bytes 0 to 23 (layout table). -/
def headerFront (e : SaveEntry) (stamp : Word) (title : List Byte) : List Byte :=
  headerMagic ++ [lowByte e.lesson, lowByte e.ordinal, e.source.code, lowByte title.length] ++
    le32 stamp.toNat ++ le32 e.frame.toNat ++ le16 e.focus ++ le16 e.zoom ++ le16 e.cx ++ le16 e.cy

theorem headerBody_eq (ht : title.length ≤ 24) : headerBody e stamp title =
    headerFront e stamp title ++ (title ++ List.replicate (24 - title.length) 0) := by
  rw [headerBody, titleField, List.take_of_length_le ht]
  rfl

theorem headerBody_length (ht : title.length ≤ 24) : (headerBody e stamp title).length = 48 := by
  rw [headerBody_eq ht, List.length_append, List.length_append, List.length_replicate, Nat.add_sub_cancel' ht]
  rfl

/-- Bytes 0 to 23 are those of the front, whatever the title and the marks. -/
theorem markedHeader_front (ht : title.length ≤ 24) {i : Nat} (hi : i < 24) :
    headerByte (markedHeader e stamp title commit tombstone) i = (headerFront e stamp title).getD i 0xFF := by
  rw [headerByte, markedHeader, headerBody_eq ht, List.append_assoc]
  exact List.getD_append _ _ _ _ hi

/-- Bytes 24 on hold the title. -/
theorem markedHeader_title (ht : title.length ≤ 24) (i : Nat) :
    headerByte (markedHeader e stamp title commit tombstone) (24 + i) =
      (title ++ (List.replicate (24 - title.length) 0 ++
        (crcBytes (headerBody e stamp title) ++ [commit, tombstone]))).getD i 0xFF := by
  have hlen : (headerFront e stamp title).length = 24 := rfl
  rw [headerByte, markedHeader]
  generalize crcBytes (headerBody e stamp title) ++ [commit, tombstone] = rest
  rw [headerBody_eq ht, List.append_assoc, List.append_assoc, List.getD_append_right _ _ _ _ (by omega), hlen,
    Nat.add_sub_cancel_left]

/-- Bytes 48 on are the CRC and the marks. -/
theorem markedHeader_end (ht : title.length ≤ 24) (i : Nat) :
    headerByte (markedHeader e stamp title commit tombstone) (48 + i) =
      (crcBytes (headerBody e stamp title) ++ [commit, tombstone]).getD i 0xFF := by
  have hlen := headerBody_length (e := e) (stamp := stamp) ht
  rw [headerByte, markedHeader, List.getD_append_right _ _ _ _ (by omega), hlen, Nat.add_sub_cancel_left]

theorem markedHeader_length (ht : title.length ≤ 24) : (markedHeader e stamp title commit tombstone).length = 52 := by
  rw [markedHeader, List.length_append, headerBody_length ht]
  rfl

/-- A mark programmed changes that mark alone (R150, R155). -/
theorem markedHeader_set (ht : title.length ≤ 24) (mark : Byte) :
    (markedHeader e stamp title commit tombstone).set 50 mark = markedHeader e stamp title mark tombstone ∧
      (markedHeader e stamp title commit tombstone).set 51 mark = markedHeader e stamp title commit mark := by
  have hlen := headerBody_length (e := e) (stamp := stamp) ht
  constructor <;> rw [markedHeader, List.set_append_right _ _ (by omega), hlen] <;> rfl

/-! ### What is read of it -/

theorem markedHeader_sound (ht : title.length ≤ 24) :
    headerSound (markedHeader e stamp title commit tombstone) = true := by
  have hbody : (List.range 48).map (headerByte (markedHeader e stamp title commit tombstone)) = headerBody e stamp title := by
    rw [← headerBody_length (e := e) (stamp := stamp) ht]
    exact map_range_getD _ _ _
  rw [headerSound_iff, hbody, markedHeader_front ht (by decide), markedHeader_front ht (by decide),
    markedHeader_front ht (by decide), markedHeader_front ht (by decide), markedHeader_end ht 0, markedHeader_end ht 1]
  exact ⟨rfl, rfl⟩

theorem markedHeader_lesson (ht : title.length ≤ 24) (h : e.lesson ≤ 64) :
    (headerByte (markedHeader e stamp title commit tombstone) 4).toNat = e.lesson := by
  rw [markedHeader_front ht (by decide)]
  exact lowByte_of_lt (by omega)

theorem markedHeader_ordinal (ht : title.length ≤ 24) (h : e.ordinal ≤ 255) :
    (headerByte (markedHeader e stamp title commit tombstone) 5).toNat = e.ordinal := by
  rw [markedHeader_front ht (by decide)]
  exact lowByte_of_lt (by omega)

theorem markedHeader_passes (ht : title.length ≤ 24) (hl : 1 ≤ e.lesson) (hl' : e.lesson ≤ 64) (ho : 1 ≤ e.ordinal)
    (ho' : e.ordinal ≤ 255) : headerPasses (markedHeader e stamp title commit tombstone) = true := by
  rw [headerPasses_iff, markedHeader_lesson ht hl', markedHeader_ordinal ht ho']
  exact ⟨markedHeader_sound ht, hl, hl', ho⟩

/-- The marks alone decide between USED and DEAD (R137). -/
theorem markedHeader_classify (ht : title.length ≤ 24) (hl : 1 ≤ e.lesson) (hl' : e.lesson ≤ 64) (ho : 1 ≤ e.ordinal)
    (ho' : e.ordinal ≤ 255) : classify (some (markedHeader e stamp title commit tombstone)) =
      (if commit = 0 ∧ tombstone = 0xFF then .used else .dead, none) := by
  have hpasses := markedHeader_passes (stamp := stamp) (commit := commit) (tombstone := tombstone) ht hl hl' ho ho'
  have herased : ¬headerErased (markedHeader e stamp title commit tombstone) = true := fun he => by
    rw [headerPasses_of_erased he] at hpasses
    cases hpasses
  refine Prod.ext ?_ ?_
  · have hmarks := headerPage_iff (h := markedHeader e stamp title commit tombstone)
    rw [markedHeader_end ht 2, markedHeader_end ht 3] at hmarks
    rw [classify_some_state, if_neg herased]
    exact if_congr ((and_iff_right hpasses).trans hmarks) rfl rfl
  · rw [classify_some_error, if_neg fun h => h.2 hpasses]

theorem markedHeader_scanned (ht : title.length ≤ 24) (hl : 1 ≤ e.lesson) (hl' : e.lesson ≤ 64) (ho : 1 ≤ e.ordinal)
    (ho' : e.ordinal ≤ 255) (cell : Nat) : scannedHeader cell (markedHeader e stamp title 0 0xFF) =
      some ⟨cell, e.lesson, e.ordinal, stamp, title, true⟩ := by
  have hstamp : headerWord (markedHeader e stamp title 0 0xFF) 8 = stamp := by
    rw [headerWord, markedHeader_front ht (by decide), markedHeader_front ht (by decide),
      markedHeader_front ht (by decide), markedHeader_front ht (by decide)]
    exact word_le32 stamp
  have htitle : headerTitle (markedHeader e stamp title 0 0xFF) = title := by
    have hlen : (headerByte (markedHeader e stamp title 0 0xFF) 7).toNat = title.length := by
      rw [markedHeader_front ht (by decide)]
      exact lowByte_of_lt (by omega)
    rw [headerTitle, hlen, min_eq_left ht, funext (markedHeader_title ht)]
    exact map_range_getD _ _ _
  have hpage : (headerCommitted (markedHeader e stamp title 0 0xFF) &&
      !headerTombstoned (markedHeader e stamp title 0 0xFF)) = true := by
    rw [headerPage_iff, markedHeader_end ht 2, markedHeader_end ht 3]
    exact ⟨rfl, rfl⟩
  rw [scannedHeader, if_pos (markedHeader_passes ht hl hl' ho ho'), headerLesson, headerOrdinal,
    markedHeader_lesson ht hl', markedHeader_ordinal ht ho', hstamp, htitle, hpage]

/-- A number in two bytes of the front (R189). -/
theorem markedHeader_half (ht : title.length ≤ 24) {i n : Nat} (hi : i + 1 < 24) (hn : n < 65536)
    (hlow : (headerFront e stamp title).getD i 0xFF = lowByte n)
    (hhigh : (headerFront e stamp title).getD (i + 1) 0xFF = lowByte (n / 256)) :
    headerHalf (markedHeader e stamp title commit tombstone) i = n := by
  rw [headerHalf, markedHeader_front ht (Nat.lt_of_succ_lt hi), markedHeader_front ht hi, hlow, hhigh, half_le16 hn]

end Sys2Proof.Machine
end

section
/-! The programmed header found at a mount and at a recall. -/

open Sys2Proof Sys2Proof.Machine

/-- Settles O43: of the header that a program writes, the bytes read are the ones written and the marks decide the rest. -/
theorem programmedHeaderIsFoundAtMount : Obligations.ProgrammedHeaderIsFoundAtMount := by
  intro e stamp title cell mark hl hl' ho ho' ht hz hx hy hmark h committed load
  have hprogram : h = markedHeader e stamp title 0xFF 0xFF := List.append_assoc _ _ _
  have hcommitted : committed = markedHeader e stamp title 0 0xFF := by
    dsimp only [committed]
    rw [hprogram, (markedHeader_set ht 0).1]
  rw [hcommitted, (markedHeader_set ht mark).2, hprogram]
  refine ⟨markedHeader_length ht, ?_, ?_, ?_, markedHeader_scanned ht hl hl' ho ho' cell, ?_, ?_⟩
  · exact (markedHeader_classify ht hl hl' ho ho').trans (by rw [if_neg (by decide)])
  · exact (markedHeader_classify ht hl hl' ho ho').trans (by rw [if_pos ⟨rfl, rfl⟩])
  · exact (markedHeader_classify ht hl hl' ho ho').trans (by rw [if_neg fun h => hmark h.2])
  · rw [markedHeader_half ht (by decide) hz rfl rfl, markedHeader_half ht (by decide) hx rfl rfl,
      markedHeader_half ht (by decide) hy rfl rfl]
  · exact recallMatches_iff.mpr ⟨markedHeader_sound ht, markedHeader_lesson ht hl', markedHeader_ordinal ht ho'⟩

end

section
/-! SUPPORT. No move of a command touches the commands that wait: the queue is the model's own. -/

namespace Sys2Proof.Machine

variable {G : Prop} {s t : State}

theorem Calm.pending (h : Calm G s t) : t.pending = s.pending := by
  cases h with
  | talks h => obtain ⟨l, n, e, rfl, -⟩ := h; rfl
  | _ => rfl

theorem Calms.pending (h : Calms G s t) : t.pending = s.pending := by
  induction h with
  | refl => rfl
  | tail _ h ih => exact h.pending.trans ih

theorem Fines.pending (h : Fines G s t) : t.pending = s.pending := by
  induction h with
  | refl => rfl
  | tail _ h ih =>
    refine Eq.trans ?_ ih
    cases h with
    | calm h => exact h.pending
    | _ => rfl

theorem Act.pending (h : Act G s t) : t.pending = s.pending := by
  cases h with
  | scan h => exact Fines.pending h
  | _ => rfl

theorem State.Talks.pending (h : s.Talks t) : t.pending = s.pending := by obtain ⟨l, n, e, rfl, -⟩ := h; rfl

theorem State.Run.pending (h : State.Run G s t) : t.pending = s.pending := by
  cases h with
  | calm h => exact Calms.pending h
  | acts h ha h' => exact (Calms.pending h').trans (ha.pending.trans h.pending)

end Sys2Proof.Machine
end

section
/-! Every command completes. -/

open Sys2Proof Sys2Proof.Machine

/-- Settles O2: every command is a run of moves, and no run touches the waiting commands. -/
theorem everyCommandCompletes : Obligations.EveryCommandCompletes := by
  intro c s
  obtain ⟨t, ht, hrun⟩ := exec_goes (G := False) (s := s) False.elim c
  exact ⟨t, ht, hrun.pending⟩

end

section
/-! SUPPORT. The fields of a request read back from its bytes, and a payload of a known length (R189, R191). -/

namespace Sys2Proof.Machine

/-! ### Numbers in bytes (R189) -/

theorem half_halfLow_halfHigh (h : Half) : half (halfLow h) (halfHigh h) = h := by
  apply BitVec.eq_of_toNat_eq
  have := h.isLt
  simp only [half_toNat, halfLow, halfHigh, BitVec.extractLsb'_toNat, Nat.shiftRight_eq_div_pow]
  omega

theorem halfBytes_half (lo hi : Byte) : halfBytes (half lo hi) = [lo, hi] := by
  have hlo := lo.isLt
  have hhi := hi.isLt
  have hlow : halfLow (half lo hi) = lo := by
    apply BitVec.eq_of_toNat_eq
    simp only [half_toNat, halfLow, BitVec.extractLsb'_toNat, Nat.shiftRight_eq_div_pow]
    omega
  have hhigh : halfHigh (half lo hi) = hi := by
    apply BitVec.eq_of_toNat_eq
    simp only [half_toNat, halfHigh, BitVec.extractLsb'_toNat, Nat.shiftRight_eq_div_pow]
    omega
  rw [halfBytes, hlow, hhigh]

theorem wordByte_toNat (w : Word) (i : Nat) : (wordByte w i).toNat = w.toNat / 256 ^ i % 256 := by
  rw [wordByte, BitVec.extractLsb'_toNat, Nat.shiftRight_eq_div_pow, Nat.pow_mul]

theorem word_wordByte (w : Word) : word (wordByte w 0) (wordByte w 1) (wordByte w 2) (wordByte w 3) = w := by
  have := w.isLt
  apply BitVec.eq_of_toNat_eq
  simp only [word_toNat, half_toNat, wordByte_toNat]
  omega

theorem wordBytes_word (a b c d : Byte) : wordBytes (word a b c d) = [a, b, c, d] := by
  have ha := a.isLt
  have hb := b.isLt
  have hc := c.isLt
  have hd := d.isLt
  have byte : ∀ {x : Byte} {i : Nat}, (word a b c d).toNat / 256 ^ i % 256 = x.toNat → wordByte (word a b c d) i = x :=
    fun h => BitVec.eq_of_toNat_eq ((wordByte_toNat _ _).trans h)
  have h0 : wordByte (word a b c d) 0 = a := byte (by simp only [word_toNat, half_toNat]; omega)
  have h1 : wordByte (word a b c d) 1 = b := byte (by simp only [word_toNat, half_toNat]; omega)
  have h2 : wordByte (word a b c d) 2 = c := byte (by simp only [word_toNat, half_toNat]; omega)
  have h3 : wordByte (word a b c d) 3 = d := byte (by simp only [word_toNat, half_toNat]; omega)
  rw [wordBytes, h0, h1, h2, h3]

end Sys2Proof.Machine
end

section
/-! SUPPORT. Dispatch's reading of a request against its written form (R167, R189, R191, section 9.8). -/

namespace Sys2Proof.Machine

/-! ### Fields of two and four bytes read back -/

theorem decodeFocusArea_bytes (tag : Byte) (x y w h : Half) :
    decodeFocusArea tag (halfBytes x ++ halfBytes y ++ halfBytes w ++ halfBytes h) =
      .command (.focusAreaSet tag x y w h) := by
  simp [decodeFocusArea, halfBytes, half_halfLow_halfHigh]

theorem decodeViewSet_bytes (tag n : Byte) (z x y r : Half) :
    decodeViewSet tag ([n] ++ halfBytes z ++ halfBytes x ++ halfBytes y ++ halfBytes r) =
      .command (.viewSet tag n z x y r) := by
  simp [decodeViewSet, halfBytes, half_halfLow_halfHigh]

theorem decodePaneSet_bytes (tag n e : Byte) (x y w h : Half) (src hold v p cy cb cr : Byte) :
    decodePaneSet tag ([n, e] ++ halfBytes x ++ halfBytes y ++ halfBytes w ++ halfBytes h ++
        [src, hold, v, p, cy, cb, cr]) =
      .command (.paneSet tag n e x y w h src hold v p cy cb cr) := by
  simp [decodePaneSet, halfBytes, half_halfLow_halfHigh]

theorem decodePageRead_bytes (tag l o : Byte) (f : Word) (n : Half) :
    decodePageRead tag ([l, o] ++ wordBytes f ++ halfBytes n) = .command (.pageRead tag l o f n) := by
  simp [decodePageRead, halfBytes, wordBytes, half_halfLow_halfHigh, word_wordByte]

/-- Dispatch reads back the request that a command is written as. -/
theorem decodeRequest_of_encodeRequest {i : Instr} {r : Request} (hw : i.wf = true) (h : encodeRequest i = some r) :
    decodeRequest r = .command i := by
  cases i with
  | powerOnReset | frameStart | lineArrival | frameEnd | lossTimeout | outputFrameStart | outputFrameEnd
  | intervalExpiry | keySample | interByteTimeout | frameCompletion | transmitterFree | identityReadEnd
  | headerReadEnd | formatEraseEnd | saveEraseEnd | programEnd | commitEnd | reclaimEraseEnd | tombstoneEnd
  | recallReadEnd | exportReadEnd | characterArrival => cases h
  | focusAreaSet tag x y w k =>
    cases h
    exact decodeFocusArea_bytes tag x y w k
  | viewSet tag n z x y r =>
    cases h
    exact decodeViewSet_bytes tag n z x y r
  | viewNudge tag n x y =>
    cases h
    show Dispatched.command (.viewNudge tag n (half (halfLow x) (halfHigh x)) (half (halfLow y) (halfHigh y))) = _
    rw [half_halfLow_halfHigh, half_halfLow_halfHigh]
  | paneSet tag n e x y w k src hold v p cy cb cr =>
    cases h
    exact decodePaneSet_bytes tag n e x y w k src hold v p cy cb cr
  | captureSet tag m k f h r =>
    cases h
    show Dispatched.command (.captureSet tag m k (half (halfLow f) (halfHigh f)) h r) = _
    rw [half_halfLow_halfHigh]
  | pageRead tag l o f n =>
    cases h
    exact decodePageRead_bytes tag l o f n
  | lessonOpen tag title =>
    cases h
    exact if_pos (of_decide_eq_true hw)
  | _ =>
    cases h
    rfl

/-! ### No other bytes are read as a command -/

/-- A command that dispatch finds in a request is one that is written as that request. -/
def Dispatched.Faithful (r : Request) (d : Dispatched) : Prop :=
  ∀ i, d = .command i → encodeRequest i = some r ∧ i.wf = true

section

variable {code tag : Byte} {p : List Byte} {n : Nat} (hc : code.toNat = n)
include hc

/-- A command written with the code, the tag and the payload of a request. -/
theorem Dispatched.Faithful.command {i : Instr}
    (h : encodeRequest i = some ⟨BitVec.ofNat 8 n, tag, p⟩ ∧ i.wf = true) :
    Dispatched.Faithful ⟨code, tag, p⟩ (.command i) := by
  rintro _ ⟨⟩
  rw [← hc, BitVec.ofNat_toNat, BitVec.setWidth_eq] at h
  exact h

omit hc in
theorem Dispatched.Faithful.badLength {r : Request} : Dispatched.Faithful r .badLength := nofun

theorem payload0_faithful {i : Instr} (h : encodeRequest i = some ⟨BitVec.ofNat 8 n, tag, []⟩ ∧ i.wf = true) :
    Dispatched.Faithful ⟨code, tag, p⟩ (payload0 p i) := by
  unfold payload0
  split
  · exact .command hc h
  · exact .badLength

theorem payload1_faithful {f : Byte → Instr}
    (h : ∀ a, encodeRequest (f a) = some ⟨BitVec.ofNat 8 n, tag, [a]⟩ ∧ (f a).wf = true) :
    Dispatched.Faithful ⟨code, tag, p⟩ (payload1 p f) := by
  unfold payload1
  split
  · exact .command hc (h _)
  · exact .badLength

theorem payload2_faithful {f : Byte → Byte → Instr}
    (h : ∀ a b, encodeRequest (f a b) = some ⟨BitVec.ofNat 8 n, tag, [a, b]⟩ ∧ (f a b).wf = true) :
    Dispatched.Faithful ⟨code, tag, p⟩ (payload2 p f) := by
  unfold payload2
  split
  · exact .command hc (h _ _)
  · exact .badLength

theorem payload3_faithful {f : Byte → Byte → Byte → Instr}
    (h : ∀ a b c, encodeRequest (f a b c) = some ⟨BitVec.ofNat 8 n, tag, [a, b, c]⟩ ∧ (f a b c).wf = true) :
    Dispatched.Faithful ⟨code, tag, p⟩ (payload3 p f) := by
  unfold payload3
  split
  · exact .command hc (h _ _ _)
  · exact .badLength

theorem payload4_faithful {f : Byte → Byte → Byte → Byte → Instr}
    (h : ∀ a b c d, encodeRequest (f a b c d) = some ⟨BitVec.ofNat 8 n, tag, [a, b, c, d]⟩ ∧ (f a b c d).wf = true) :
    Dispatched.Faithful ⟨code, tag, p⟩ (payload4 p f) := by
  unfold payload4
  split
  · exact .command hc (h _ _ _ _)
  · exact .badLength

theorem payload5_faithful {f : Byte → Byte → Byte → Byte → Byte → Instr}
    (h : ∀ a b c d e, encodeRequest (f a b c d e) = some ⟨BitVec.ofNat 8 n, tag, [a, b, c, d, e]⟩ ∧
      (f a b c d e).wf = true) : Dispatched.Faithful ⟨code, tag, p⟩ (payload5 p f) := by
  unfold payload5
  split
  · exact .command hc (h _ _ _ _ _)
  · exact .badLength

theorem payload6_faithful {f : Byte → Byte → Byte → Byte → Byte → Byte → Instr}
    (h : ∀ a b c d e g, encodeRequest (f a b c d e g) = some ⟨BitVec.ofNat 8 n, tag, [a, b, c, d, e, g]⟩ ∧
      (f a b c d e g).wf = true) : Dispatched.Faithful ⟨code, tag, p⟩ (payload6 p f) := by
  unfold payload6
  split
  · exact .command hc (h _ _ _ _ _ _)
  · exact .badLength

end

section

variable {code tag : Byte} {p : List Byte}

theorem decodeFocusArea_faithful (hc : code.toNat = 0x1B) :
    Dispatched.Faithful ⟨code, tag, p⟩ (decodeFocusArea tag p) := by
  unfold decodeFocusArea
  split
  · exact .command hc ⟨by simp only [encodeRequest, halfBytes_half]; rfl, rfl⟩
  · exact .badLength

theorem decodeViewSet_faithful (hc : code.toNat = 0x28) :
    Dispatched.Faithful ⟨code, tag, p⟩ (decodeViewSet tag p) := by
  unfold decodeViewSet
  split
  · exact .command hc ⟨by simp only [encodeRequest, halfBytes_half]; rfl, rfl⟩
  · exact .badLength

theorem decodePaneSet_faithful (hc : code.toNat = 0x3A) :
    Dispatched.Faithful ⟨code, tag, p⟩ (decodePaneSet tag p) := by
  unfold decodePaneSet
  split
  · exact .command hc ⟨by simp only [encodeRequest, halfBytes_half]; rfl, rfl⟩
  · exact .badLength

theorem decodePageRead_faithful (hc : code.toNat = 0x62) :
    Dispatched.Faithful ⟨code, tag, p⟩ (decodePageRead tag p) := by
  unfold decodePageRead
  split
  · exact .command hc ⟨by simp only [encodeRequest, halfBytes_half, wordBytes_word]; rfl, rfl⟩
  · exact .badLength

theorem decodeLevels_faithful (hc : code.toNat = 0x70) :
    Dispatched.Faithful ⟨code, tag, p⟩ (decodeLevels tag p) := by
  unfold decodeLevels
  split
  · exact .command hc ⟨rfl, rfl⟩
  · exact .badLength

theorem decodeLessonOpen_faithful (hc : code.toNat = 0x58) :
    Dispatched.Faithful ⟨code, tag, p⟩ (decodeLessonOpen tag p) := by
  unfold decodeLessonOpen
  split
  · rename_i hlength
    exact .command hc ⟨rfl, decide_eq_true hlength⟩
  · exact .badLength

end

/-- What dispatch reads as a command is that command's written form: the rows of section 9.8's index in their order, grouped
by the shape of their payload. -/
theorem decodeRequest_faithful (r : Request) : (decodeRequest r).Faithful r := by
  obtain ⟨code, tag, p⟩ := r
  unfold decodeRequest
  dsimp only
  split
  case h_1 | h_2 | h_4 | h_7 | h_8 | h_9 | h_10 | h_13 | h_20 | h_22 | h_26 | h_27 | h_29 | h_30 | h_31 | h_32 | h_33
    | h_36 | h_44 | h_45 =>
    rename_i hc
    exact payload0_faithful hc ⟨rfl, rfl⟩
  case h_3 | h_6 | h_16 | h_18 | h_19 | h_23 | h_35 | h_37 | h_39 | h_46 =>
    rename_i hc
    exact payload1_faithful hc fun _ => ⟨rfl, rfl⟩
  case h_5 | h_28 | h_38 | h_40 =>
    rename_i hc
    exact payload2_faithful hc fun _ _ => ⟨rfl, rfl⟩
  case h_24 | h_41 =>
    rename_i hc
    exact payload3_faithful hc fun _ _ _ => ⟨rfl, rfl⟩
  case h_17 =>
    rename_i hc
    exact payload4_faithful hc fun _ _ _ _ => ⟨rfl, rfl⟩
  case h_12 =>
    rename_i hc
    exact payload5_faithful hc fun _ _ _ _ _ => ⟨rfl, rfl⟩
  case h_15 =>
    rename_i hc
    exact payload5_faithful hc fun _ _ _ _ _ => ⟨by simp only [encodeRequest, halfBytes_half]; rfl, rfl⟩
  case h_25 =>
    rename_i hc
    exact payload6_faithful hc fun _ _ _ _ _ _ => ⟨by simp only [encodeRequest, halfBytes_half]; rfl, rfl⟩
  case h_11 =>
    rename_i hc
    exact decodeFocusArea_faithful hc
  case h_14 =>
    rename_i hc
    exact decodeViewSet_faithful hc
  case h_21 =>
    rename_i hc
    exact decodePaneSet_faithful hc
  case h_34 =>
    rename_i hc
    exact decodeLessonOpen_faithful hc
  case h_42 =>
    rename_i hc
    exact decodePageRead_faithful hc
  case h_43 =>
    rename_i hc
    exact decodeLevels_faithful hc
  case h_47 => exact nofun

end Sys2Proof.Machine
end

section
/-! Requests and their written form. -/

open Sys2Proof Sys2Proof.Machine

/-- Settles O3, request by request; the other way by the payload's length and its fields. -/
theorem requestCodecRoundTrip : Obligations.RequestCodecRoundTrip :=
  ⟨fun _ _ hw h => decodeRequest_of_encodeRequest hw h, fun i r h => decodeRequest_faithful r i h⟩

end

section
/-! SUPPORT. What a request's step comes to: BUSY or REFUSED with nothing changed, an answer of another status, or a reply
deferred; the link is not the block's to change (R166 to R169). -/

namespace Sys2Proof.Machine

/-- What a block's step on a request taken from an empty hand comes to. -/
inductive State.Takes (s : State) : State × Option Answer → Prop
  | busy : s.Takes (s, some Answer.busy)
  | refused (r : Reason) : s.Takes (s, some (Answer.refused r))
  | done {t : State} {a : Answer} (hl : t.link = s.link)
      (ha : a.status = .ok ∨ a.status = .accepted ∨ a.status = .adjusted) : s.Takes (t, some a)
  | deferred {t : State} (hl : t.link = s.link) : s.Takes (t, none)

/-- The same of a step that answers at once. -/
abbrev State.Answers (s : State) (k : State × Answer) : Prop := s.Takes (k.1, some k.2)

variable {s t : State}

theorem State.Answers.ok {results : List Byte} (h : t.link = s.link := by rfl) : s.Answers (t, Answer.ok results) :=
  .done h (.inl rfl)

theorem State.Answers.accepted {results : List Byte} (h : t.link = s.link := by rfl) :
    s.Answers (t, Answer.accepted results) := .done h (.inr (.inl rfl))

/-- OK or ADJUSTED, by whether anything was brought into range (R168). -/
theorem State.Answers.settled {unchanged : Bool} {results : List Byte} {after : AfterReply}
    (h : t.link = s.link := by rfl) : s.Answers (t, ⟨.ofUnchanged unchanged, results, after⟩) := by
  refine .done h ?_
  cases unchanged
  · exact .inr (.inr rfl)
  · exact .inl rfl

theorem State.Answers.inForce {unchanged : Bool} {results : List Byte} (h : t.link = s.link := by rfl) :
    s.Answers (t, Answer.inForce unchanged results) := .settled h

/-! ### The link answered -/

/-- The link answered tells which answer was formed. -/
theorem Link.answered_inj {l : Link} {r : Request} {status status' : Status} {results results' : List Byte}
    {after after' : AfterReply} (h : l.answered r status results after = l.answered r status' results' after') :
    status = status' ∧ results = results' ∧ after = after' := by
  unfold Link.answered at h
  split at h
  · have h' := congrArg Link.transmitter h
    injection h' with h'
    injection h' with _ _ hs hr ha
    exact ⟨hs, hr, ha⟩
  · have h' := congrArg Link.waitingReply h
    injection h' with h'
    injection h' with _ _ hs hr ha
    exact ⟨hs, hr, ha⟩

/-- A reply deferred does not leave the link answered (R169). -/
theorem State.transmit_link_ne_answered {l : Link} {r : Request} (ht : t.link = { l with hand := some r })
    (hl : l.waitingReply = none) (status : Status) (results : List Byte) (after : AfterReply) :
    t.transmit.link ≠ l.answered r status results after := by
  intro he
  have htransmitter : t.link.transmitter = l.transmitter := by rw [ht]
  have hreply : t.link.waitingReply = none := by rw [ht, ← hl]
  unfold Link.answered at he
  split at he
  · rename_i hidle
    have hsent := congrArg Link.transmitter he
    rw [State.transmit_choice (htransmitter.trans hidle) hreply] at hsent
    split at hsent
    · unfold State.beginNotice at hsent
      dsimp only at hsent
      split at hsent
      · cases hsent
      · cases (htransmitter.trans hidle).symm.trans hsent
    · cases (htransmitter.trans hidle).symm.trans hsent
  · rename_i hbusy
    rw [State.transmit_busy fun e => hbusy (htransmitter.symm.trans e)] at he
    cases hreply.symm.trans (congrArg Link.waitingReply he)

/-- Of a request taken from an empty hand, a reply at once of BUSY or REFUSED says that the link alone has changed (R168). -/
theorem State.Takes.declined {i : Instr} {r : Request} (hi : encodeRequest i = some r) (hs : s.link.Free)
    {step : State → State × Option Answer} (htakes : s.Takes (step s)) {status : Status} {results : List Byte}
    {after : AfterReply} (ht : respondOrDefer i s step = .next t) (hl : t.link = s.link.answered r status results after)
    (hd : status = .busy ∨ status = .refused) : t = { s with link := s.link.answered r status results } := by
  have unchanged : ∀ {a : Answer}, a.after = .nothing → step s = (s, some a) →
      t = { s with link := s.link.answered r status results } := by
    intro a ha hstep
    cases (respondOrDefer_some hi hs.1 hstep).symm.trans ht
    obtain ⟨rfl, rfl, -⟩ := Link.answered_inj hl
    rw [ha]
    rfl
  generalize hk : step s = k at htakes
  cases htakes with
  | busy => exact unchanged rfl hk
  | refused => exact unchanged rfl hk
  | done hu ha =>
    cases (respondOrDefer_some hi hs.1 hk).symm.trans ht
    rw [hu] at hl
    obtain ⟨rfl, -, -⟩ := Link.answered_inj hl
    rcases hd with hd | hd <;> simp [hd] at ha
  | deferred hu =>
    cases (respondOrDefer_none hi hs.1 hk).symm.trans ht
    refine absurd hl (State.transmit_link_ne_answered ?_ hs.2 status results after)
    rw [← hu]
    rfl

/-! ### Requests that do not concern the store -/

variable (s)

theorem freezeStep_answers (which source : Byte) : s.Answers (freezeStep which source s) := by
  unfold freezeStep
  split
  · split
    · exact .ok
    · exact .refused _
  · exact .refused _

theorem unfreezeStep_answers (which : Byte) : s.Answers (unfreezeStep which s) := by
  unfold unfreezeStep
  split
  · exact .ok
  · exact .refused _

theorem intakeEnableStep_answers : s.Answers (intakeEnableStep s) := by
  unfold intakeEnableStep
  split <;> exact .ok

theorem intakeDisableStep_answers : s.Answers (intakeDisableStep s) :=
  .ok (intakeDisableStep_served s).link

theorem onWindow_answers (number : Byte) {k : Fin 4 → State × Answer} (h : ∀ i, s.Answers (k i)) :
    s.Answers (onWindow number s k) := by
  unfold onWindow
  split
  · exact h _
  · exact .refused _

theorem viewSetStep_answers (number : Byte) (zoom cx cy rate : Half) :
    s.Answers (viewSetStep number zoom cx cy rate s) := onWindow_answers s number fun _ => .inForce

theorem viewNudgeStep_answers (number : Byte) (dx dy : Half) : s.Answers (viewNudgeStep number dx dy s) :=
  onWindow_answers s number fun _ => .inForce

theorem viewReadStep_answers (number : Byte) : s.Answers (viewReadStep number s) :=
  onWindow_answers s number fun _ => .ok

theorem profileSetStep_answers (number gain threshold limit : Byte) :
    s.Answers (profileSetStep number gain threshold limit s) := by
  unfold profileSetStep
  split
  · exact .inForce
  · exact .refused _

theorem profileReadStep_answers (number : Byte) : s.Answers (profileReadStep number s) := by
  unfold profileReadStep
  split
  · exact .ok
  · exact .refused _

theorem outputStartStep_answers (mode : Byte) : s.Answers (outputStartStep mode s) := by
  unfold outputStartStep
  split
  · exact .ok s.endScan_link
  · exact .refused _

theorem outputStopStep_answers : s.Answers (outputStopStep s) := by
  unfold outputStopStep
  split
  · exact .ok
  · exact .ok s.endScan_link

theorem paneSetStep_answers (pane enabled : Byte) (x y w h : Half)
    (source hold window profile absentY absentCb absentCr : Byte) :
    s.Answers (paneSetStep pane enabled x y w h source hold window profile absentY absentCb absentCr s) := by
  unfold paneSetStep
  split
  · exact .refused _
  · split
    · exact .refused _
    · split
      · exact .refused _
      · split
        · exact .refused _
        · exact .inForce

theorem paneCommitStep_answers : s.Answers (paneCommitStep s) := by
  unfold paneCommitStep
  split <;> exact .ok

theorem paneReadStep_answers (pane : Byte) : s.Answers (paneReadStep pane s) := by
  unfold paneReadStep
  split
  · exact .ok
  · exact .refused _

theorem captureSetStep_answers (mode mask : Byte) (floor : Half) (holdoff restart : Byte) :
    s.Answers (captureSetStep mode mask floor holdoff restart s) := by
  unfold captureSetStep
  split
  · exact .refused _
  · exact .inForce

theorem captureArmStep_answers : s.Answers (captureArmStep s) := by
  unfold captureArmStep
  split
  · exact .ok
  · exact .refused _

theorem captureNowStep_answers : s.Answers (captureNowStep s) :=
  .ok (s.takeCapture_link .request s.slots.liveFrame)

theorem errorClearStep_answers (record : Nat) : s.Answers (errorClearStep record s) := by
  unfold errorClearStep
  split
  · exact .ok
  · split
    · exact .ok
    · exact .refused _

/-! ### Requests of the lesson store -/

variable {s}

/-- A store request by its own rule in READY, BUSY or refused elsewhere (R134). -/
theorem whenReady_answers {k : State × Answer} (h : s.Answers k) : s.Answers (whenReady s k) := by
  unfold whenReady
  split
  · exact .busy
  · exact .busy
  · exact .refused _
  · exact .refused _
  · exact h

theorem whenReadyDeferring_takes {k : State × Option Answer} (h : s.Takes k) : s.Takes (whenReadyDeferring s k) := by
  unfold whenReadyDeferring
  split
  · exact .busy
  · exact .busy
  · exact .refused _
  · exact .refused _
  · exact h

variable (s)

theorem storeMountStep_answers : s.Answers (storeMountStep s) := by
  unfold storeMountStep
  split
  · exact .busy
  · exact .busy
  · exact .accepted
  · exact .accepted
  · exact .ok

theorem storeFormatStep_answers : s.Answers (storeFormatStep s) := by
  unfold storeFormatStep
  dsimp only
  split
  · exact .busy
  · exact .busy
  · exact .accepted
  · exact .accepted
  · split
    · exact .refused _
    · split
      · exact .refused _
      · split
        · exact .busy
        · exact .accepted

theorem storeUnmountStep_answers : s.Answers (storeUnmountStep s) := by
  refine whenReady_answers ?_
  split
  · exact .busy
  · exact .ok

theorem lessonOpenStep_answers (title : List Byte) : s.Answers (lessonOpenStep title s) := by
  refine whenReady_answers ?_
  split
  · exact .refused _
  · split
    · exact .refused _
    · exact .inForce

theorem lessonResumeStep_answers (id : Nat) : s.Answers (lessonResumeStep id s) := by
  refine whenReady_answers ?_
  split
  · exact .refused _
  · split
    · exact .refused _
    · split
      · exact .refused _
      · exact .ok

theorem lessonCloseStep_answers : s.Answers (lessonCloseStep s) := by
  refine whenReady_answers ?_
  split <;> exact .ok

theorem lessonPagesStep_answers (id first : Nat) : s.Answers (lessonPagesStep id first s) := by
  refine whenReady_answers ?_
  split
  · exact .refused _
  · exact .ok

theorem lessonDeleteStep_answers (id : Nat) : s.Answers (lessonDeleteStep id s) := by
  refine whenReady_answers ?_
  split
  · exact .refused _
  · split
    · exact .refused _
    · split
      · exact .refused _
      · split
        · exact .refused _
        · split
          · exact .busy
          · exact .accepted (State.continueDelete_link _ _)

theorem pageDeleteStep_takes (tag : Byte) (id ordinal : Nat) : s.Takes (pageDeleteStep tag id ordinal s) := by
  refine whenReadyDeferring_takes ?_
  split
  · exact .refused _
  · exact .deferred rfl

theorem pageReadStep_takes (tag : Byte) (id ordinal offset length : Nat) :
    s.Takes (pageReadStep tag id ordinal offset length s) := by
  refine whenReadyDeferring_takes ?_
  split
  · exact .refused _
  · split
    · exact State.Answers.inForce
    · exact .deferred rfl

theorem pageRecallStep_answers (id ordinal : Nat) (restoreView : Bool) :
    s.Answers (pageRecallStep id ordinal restoreView s) := by
  refine whenReady_answers ?_
  split
  · exact .refused _
  · split
    · exact .busy
    · split
      · exact .busy
      · exact .refused _
      · exact .accepted

/-! ### Every request -/

/-- A request command is a request handed to a block whose step takes it (R167). -/
theorem exec_takes {i : Instr} {r : Request} (h : encodeRequest i = some r) (s : State) :
    ∃ step, exec i s = respondOrDefer i s step ∧ s.Takes (step s) := by
  have answers : ∀ {i : Instr} (step : State → State × Answer), exec i s = respond i s step → s.Answers (step s) →
      ∃ step, exec i s = respondOrDefer i s step ∧ s.Takes (step s) := fun _ he ha => ⟨_, he, ha⟩
  have reports : ∀ {i : Instr} (bytes : State → List Byte), (exec i s = respond i s fun t => (t, Answer.ok (bytes t))) →
      ∃ step, exec i s = respondOrDefer i s step ∧ s.Takes (step s) :=
    fun _ he => ⟨_, he, State.Answers.ok⟩
  cases i with
  | powerOnReset | frameStart | lineArrival | frameEnd | lossTimeout | outputFrameStart | outputFrameEnd
  | intervalExpiry | keySample | interByteTimeout | frameCompletion | transmitterFree | identityReadEnd
  | headerReadEnd | formatEraseEnd | saveEraseEnd | programEnd | commitEnd | reclaimEraseEnd | tombstoneEnd
  | recallReadEnd | exportReadEnd | characterArrival => cases h
  | ping => exact reports pingBytes rfl
  | status => exact reports statusBytes rfl
  | slotList => exact reports (fun t => slotListBytes t.slots) rfl
  | watchRead => exact reports (fun t => watchBytes t.watch) rfl
  | captureRead => exact reports (fun t => captureBytes t.capture) rfl
  | storeStatus => exact reports (fun t => storeStatusBytes t.store) rfl
  | noticeLevelsRead => exact reports (fun t => noticeLevelsBytes t.notices) rfl
  | errorRead => exact reports (fun t => errorTableBytes t.errors) rfl
  | restart => exact answers (fun t => (t, ⟨.ok, [], .restart⟩)) rfl (.done rfl (.inl rfl))
  | linkRate _ index => exact answers (fun t => (t, linkRateAnswer index)) rfl .settled
  | freeze _ which source => exact answers _ rfl (freezeStep_answers s which source)
  | unfreeze _ which => exact answers _ rfl (unfreezeStep_answers s which)
  | intakeEnable => exact answers _ rfl (intakeEnableStep_answers s)
  | intakeDisable => exact answers _ rfl (intakeDisableStep_answers s)
  | statsRead => exact answers statsReadStep rfl (.ok)
  | focusAreaSet _ x y w k => exact answers _ rfl (.inForce)
  | watchSet _ e m r l q => exact answers _ rfl (.inForce)
  | viewSet _ w z x y r => exact answers _ rfl (viewSetStep_answers s w z x y r)
  | viewNudge _ w x y => exact answers _ rfl (viewNudgeStep_answers s w x y)
  | viewRead _ w => exact answers _ rfl (viewReadStep_answers s w)
  | profileSet _ p g k l => exact answers _ rfl (profileSetStep_answers s p g k l)
  | profileRead _ p => exact answers _ rfl (profileReadStep_answers s p)
  | outputStart _ m => exact answers _ rfl (outputStartStep_answers s m)
  | outputStop => exact answers _ rfl (outputStopStep_answers s)
  | paneSet _ n e x y w k src hold v p cy cb cr =>
    exact answers _ rfl (paneSetStep_answers s n e x y w k src hold v p cy cb cr)
  | paneCommit => exact answers _ rfl (paneCommitStep_answers s)
  | paneRead _ n => exact answers _ rfl (paneReadStep_answers s n)
  | backgroundSet _ y cb cr => exact answers (backgroundSetStep y cb cr) rfl (.ok)
  | captureSet _ m k f d r => exact answers _ rfl (captureSetStep_answers s m k f d r)
  | captureArm => exact answers _ rfl (captureArmStep_answers s)
  | captureNow => exact answers _ rfl (captureNowStep_answers s)
  | intervalSet _ p q => exact answers (intervalSetStep p q) rfl (.inForce)
  | storeMount => exact answers _ rfl (storeMountStep_answers s)
  | storeFormat => exact answers _ rfl (storeFormatStep_answers s)
  | storeUnmount => exact answers _ rfl (storeUnmountStep_answers s)
  | lessonOpen _ title => exact answers _ rfl (lessonOpenStep_answers s title)
  | lessonResume _ l => exact answers _ rfl (lessonResumeStep_answers s l.toNat)
  | lessonClose => exact answers _ rfl (lessonCloseStep_answers s)
  | lessonList _ f => exact answers (lessonListStep f.toNat) rfl (whenReady_answers (.ok))
  | lessonPages _ l f => exact answers _ rfl (lessonPagesStep_answers s l.toNat f.toNat)
  | lessonDelete _ l => exact answers _ rfl (lessonDeleteStep_answers s l.toNat)
  | pageDelete tag l o => exact ⟨_, rfl, pageDeleteStep_takes s tag l.toNat o.toNat⟩
  | pageRecall _ l o v => exact answers _ rfl (pageRecallStep_answers s l.toNat o.toNat (onOff v))
  | pageRead tag l o f n => exact ⟨_, rfl, pageReadStep_takes s tag l.toNat o.toNat f.toNat n.toNat⟩
  | noticeLevelsSet => exact answers _ rfl (.inForce)
  | errorClear _ n => exact answers _ rfl (errorClearStep_answers s n.toNat)

end Sys2Proof.Machine
end

section
/-! A request that is declined. -/

open Sys2Proof Sys2Proof.Machine

/-- Settles O4: a block's step declines with nothing changed, and a reply deferred is no answer yet. -/
theorem refusedRequestChangesNothing : Obligations.RefusedRequestChangesNothing := by
  intro i r s t status results after hi hs ht hl hd
  obtain ⟨step, hstep, htakes⟩ := exec_takes hi s
  exact htakes.declined hi hs (hstep.symm.trans ht) hl hd

end

section
/-! SUPPORT. A request's dispatch, and what the end of a frame sent leads to (R166, R167, R170, R173, R174). -/

namespace Sys2Proof.Machine

variable {s u : State} {r : Request} {o : Host.Outcome State Fault Refusal}

/-! ### Dispatch (R167) -/

/-- A request that spells a command runs as that command. -/
theorem State.dispatch_command {i : Instr} (h : decodeRequest r = .command i) (s : State) : s.dispatch r = exec i s := by
  simp only [State.dispatch, h]
  exact (exec_eq_runRequest (decodeRequest_faithful r i h).1 s).symm

/-- What a dispatch comes to, by what the request spells. -/
theorem dispatched_cases (h : o = u.dispatch r) :
    (decodeRequest r = .unknown → o = .next { u with link := u.link.answered r .unknownRequest [] }) ∧
    (decodeRequest r = .badLength → o = .next { u with link := u.link.answered r .badLength [] }) ∧
    ∀ i, decodeRequest r = .command i → o = exec i u := by
  subst h
  refine ⟨fun hr => ?_, fun hr => ?_, fun i hr => State.dispatch_command hr u⟩
  · simp only [State.dispatch, hr]
    exact finish_reply u r ⟨.unknownRequest, [], .nothing⟩
  · simp only [State.dispatch, hr]
    exact finish_reply u r ⟨.badLength, [], .nothing⟩

/-! ### The end of a reply (R166) -/

/-- The state with nothing in the hand and nothing in the waiting place. -/
def State.emptied (s : State) : State := s.withLink { s.link with hand := none, waitingPlace := none }

theorem State.depart_none (h : s.link.waitingPlace = none) : s.depart = .next s.emptied.transmit := by
  simp only [State.depart, h]
  rfl

theorem State.depart_some {w : Request} (h : s.link.waitingPlace = some w) : s.depart = s.emptied.dispatch w := by
  simp only [State.depart, h]
  rfl

/-- The state with the transmitter idle. -/
def State.freed (s : State) : State := s.withLink { s.link with transmitter := .idle }

variable {q : Reply}

theorem execTransmitterFree_idle (h : s.link.transmitter = .idle) : execTransmitterFree s = .next s := by
  simp only [execTransmitterFree, h, ignored]

theorem execTransmitterFree_notice {n : NoticeFrame} (h : s.link.transmitter = .notice n) :
    execTransmitterFree s = .next s.freed.transmit := by
  simp only [execTransmitterFree, h]
  rfl

theorem execTransmitterFree_nothing (h : s.link.transmitter = .reply q) (ha : q.after = .nothing) :
    execTransmitterFree s = s.freed.depart := by
  simp only [execTransmitterFree, h, ha]
  rfl

theorem execTransmitterFree_setRate {k : Fin 4} (h : s.link.transmitter = .reply q) (ha : q.after = .setRate k) :
    execTransmitterFree s = (s.freed.switchRate k).depart := by
  simp only [execTransmitterFree, h, ha]
  rfl

theorem execTransmitterFree_restart (h : s.link.transmitter = .reply q) (ha : q.after = .restart) :
    execTransmitterFree s = .next (s.freed.resetBlocks s.link.rateIndex).transmit := by
  simp only [execTransmitterFree, h, ha]
  rfl

/-! ### LINK RATE (R173) -/

/-- The index in force: above 3 it is 3. -/
theorem rateOf_eq (b : Byte) : rateOf b = if h : b.toNat ≤ 3 then ⟨b.toNat, by omega⟩ else 3 := by
  unfold rateOf index4
  split
  · rename_i h
    rw [dif_pos (Nat.le_of_lt_succ h)]
    rfl
  · rename_i h
    rw [dif_neg (by omega)]
    rfl

theorem rateOf_val (b : Byte) : (rateOf b).val = min b.toNat 3 := by
  rw [rateOf_eq]
  split
  · rename_i h
    exact (min_eq_left h).symm
  · rename_i h
    exact (min_eq_right (by omega)).symm

theorem execLinkRate_next (h : s.link.Free) (tag b : Byte) :
    execLinkRate tag b s = .next { s with
      link := s.link.answered ⟨0x03, tag, [b]⟩ (okIf (b.toNat ≤ 3)) [BitVec.ofNat 8 (min b.toNat 3)]
        (.setRate (rateOf b)) } := by
  have hstatus : Status.ofUnchanged (decide (b.toNat ≤ 3)) = okIf (b.toNat ≤ 3) :=
    Status.ofUnchanged_eq decide_eq_true_iff
  rw [← hstatus, ← rateOf_val]
  exact respond_next rfl h (step := fun t => (t, linkRateAnswer b)) rfl rfl

/-- What an error's recording does reads nothing of the link. -/
theorem State.recordError_withLink (s : State) (l : Link) (a : ErrorSource) (b : ErrorKind) (c : Nat) :
    (s.withLink l).recordError a b c = (s.recordError a b c).withLink l := by
  unfold State.recordError
  dsimp only [State.withLink_errors, State.withLink_intake]
  split
  · rfl
  · split
    · split <;> rfl
    · split <;> rfl

/-- The rate change where the index in force changes: a partial frame is lost. -/
theorem State.switchRate_eq (s : State) (k : Fin 4) :
    s.switchRate k =
      if k = s.link.rateIndex then s
      else match s.link.partialFrame with
        | none => s.withLink { s.link with rateIndex := k }
        | some p => (s.withLink { s.link.hunting with rateIndex := k }).recordError .link .linkFraming p.length := by
  unfold State.switchRate
  split
  · rfl
  · cases s.link.partialFrame <;> rfl

theorem State.switchRate_waitingPlace (s : State) (k : Fin 4) :
    (s.switchRate k).link.waitingPlace = s.link.waitingPlace := by
  rw [State.switchRate_eq]
  split
  · rfl
  · split
    · rfl
    · rw [State.recordError_link]
      rfl

/-- The hand may empty before the rate changes. -/
theorem State.emptied_switchRate (s : State) (k : Fin 4) : (s.switchRate k).emptied = s.emptied.switchRate k := by
  rw [State.switchRate_eq, State.switchRate_eq]
  show _ = if k = s.link.rateIndex then _ else match s.link.partialFrame with | none => _ | some p => _
  split
  · rfl
  · cases s.link.partialFrame with
    | none => rfl
    | some p =>
      dsimp only [State.emptied]
      rw [State.recordError_link, ← State.recordError_withLink]
      rfl

/-! ### RESTART (R174) -/

/-- Nothing is to be sent after a reset. -/
theorem State.transmit_resetBlocks (s : State) (rate : Fin 4) : (s.resetBlocks rate).transmit = s.resetBlocks rate := by
  have hchoose : (s.resetBlocks rate).notices.choose = none := show defaultNotices.choose = none by decide
  rw [State.transmit_choice rfl rfl, hchoose]

end Sys2Proof.Machine
end

section
/-! The end of a frame sent. -/

open Sys2Proof Sys2Proof.Machine

/-- Settles O9, by what was being sent and, after a reply, by whether a request waits. -/
theorem transmitterFreeMovesOn : Obligations.TransmitterFreeMovesOn := by
  refine fun s => ⟨execTransmitterFree_idle, fun n => execTransmitterFree_notice, fun r hr ha _ => ?_⟩
  have hfree : exec .transmitterFree s = s.freed.depart := execTransmitterFree_nothing hr ha
  exact ⟨fun hw => hfree.trans (State.depart_none hw), fun w hw => dispatched_cases (hfree.trans (State.depart_some hw))⟩

/-- Settles O10: LINK RATE and RESTART by their answers; the rate change with the hand emptied first, which is the same; the
reset leaves nothing to send. -/
theorem linkRateAndRestartFollowTheirReplies : Obligations.LinkRateAndRestartFollowTheirReplies := by
  refine ⟨fun tag b s h => ?_, fun s r k hr ha _ => ?_, fun tag s h => ?_, fun s r hr ha => ?_⟩
  · exact rateOf_eq b ▸ execLinkRate_next h tag b
  · intro freed hunting switched
    have hswitched : switched = (s.freed.switchRate k).emptied := by
      rw [State.emptied_switchRate, State.switchRate_eq]
      rfl
    have hplace : (s.freed.switchRate k).link.waitingPlace = s.link.waitingPlace := State.switchRate_waitingPlace _ k
    have hfree : exec .transmitterFree s = (s.freed.switchRate k).depart := execTransmitterFree_setRate hr ha
    rw [hswitched]
    exact ⟨fun hw => hfree.trans (State.depart_none (hplace.trans hw)),
      fun w hw => dispatched_cases (hfree.trans (State.depart_some (hplace.trans hw)))⟩
  · exact respond_next rfl h (step := fun t => (t, ⟨.ok, [], .restart⟩)) rfl rfl
  · exact ⟨s.resetBlocks 3, rfl,
      (execTransmitterFree_restart hr ha).trans (congrArg Host.Outcome.next (State.transmit_resetBlocks _ _))⟩

end

section
/-! SUPPORT. The characters of the receive line: idle time, and ten levels at a time (R161). -/

namespace Sys2Proof.Machine

/-- The bits of a number, least significant first, are the number again below the power of two. -/
theorem foldr_testBit (k n : Nat) :
    ((List.range k).map n.testBit).foldr (fun bit m => (if bit then 1 else 0) + 2 * m) 0 = n % 2 ^ k := by
  induction k generalizing n with
  | zero => simp [Nat.mod_one]
  | succ k ih =>
    have hbit : (if n.testBit 0 then 1 else 0) = n % 2 := by
      rw [Nat.testBit_zero]
      rcases Nat.mod_two_eq_zero_or_one n with h | h <;> rw [h] <;> rfl
    have htail : (List.map n.testBit (List.map Nat.succ (List.range k))) = (List.range k).map (n / 2).testBit := by
      rw [List.map_map]
      exact List.map_congr_left fun i _ => Nat.testBit_succ n i
    rw [List.range_succ_eq_map, List.map_cons, List.foldr_cons, hbit, htail, ih, Nat.pow_succ', Nat.mod_mul]

/-- The eight data bits of a character are its byte (R161). -/
theorem dataByte_bits (b : Byte) : dataByte ((List.range 8).map fun i => b.getLsbD i) = b := by
  apply BitVec.eq_of_toNat_eq
  rw [dataByte, BitVec.toNat_ofNat]
  exact (congrArg (· % 2 ^ 8) (foldr_testBit 8 b.toNat)).trans (by have := b.isLt; omega)

/-- Idle time before a character brings nothing (R161). -/
theorem readLine_idles (n : Nat) (rest : List Bool) : readLine [] (List.replicate n true ++ rest) = readLine [] rest := by
  induction n with
  | zero => rfl
  | succ n ih => exact ih

/-- Ten levels that begin low and carry a byte are a good character, or a fault where the stop bit reads low (R161). -/
theorem readLine_byte (b : Byte) (stop : Bool) (rest : List Bool) :
    readLine [] (false :: (List.range 8).map (fun i => b.getLsbD i) ++ stop :: rest) =
      (if stop then .good b else .faulty) :: readLine [] rest := by
  refine (readLine_character (b.getLsbD 0) (b.getLsbD 1) (b.getLsbD 2) (b.getLsbD 3) (b.getLsbD 4) (b.getLsbD 5)
    (b.getLsbD 6) (b.getLsbD 7) stop rest).trans (congrArg (· :: _) ?_)
  refine if_congr Iff.rfl (congrArg Character.good ?_) rfl
  exact dataByte_bits b

/-- A line held low reads as a run of faults (R161). -/
theorem readLine_low (n : Nat) : readLine [] (List.replicate n false) = List.replicate (n / 10) .faulty := by
  induction n using Nat.strong_induction_on with
  | _ n ih =>
    by_cases h : n < 10
    · rw [Nat.div_eq_of_lt h]
      interval_cases n <;> rfl
    · obtain ⟨m, rfl⟩ := Nat.exists_eq_add_of_le (Nat.le_of_not_lt h)
      rw [List.replicate_add, Nat.add_div_left m (by decide)]
      exact congrArg (.faulty :: ·) (ih m (by omega))

end Sys2Proof.Machine
end

section
/-! SUPPORT. The receiver's states as equations, and a frame's completion (R162 to R166). -/

namespace Sys2Proof.Machine

variable {s u : State} {b : Byte} {p : List Byte} {r : Request}

/-! ### A character by the receiver's state (R162, R163) -/

theorem Link.received_of_partial {l : Link} (h : l.partialFrame = some p) : l.received = p := by
  rw [Link.received, h]
  rfl

theorem goodCharacter_hunt (h : s.link.receiver = .hunt) :
    s.goodCharacter b = if b = 0xC3 then .next (s.receiving .head [b]).transmit else .next s := by
  simp only [State.goodCharacter, h]
  rfl

theorem execCharacterArrival_faulty (h : s.link.receiver ≠ .hunt) (hp : s.link.partialFrame = some p) :
    execCharacterArrival .faulty s = .next (s.discardPartial p.length).transmit := by
  unfold execCharacterArrival
  dsimp only
  split
  · exact absurd ‹_› h
  · rw [Link.received_of_partial hp]
    rfl

theorem goodCharacter_head_short (h : s.link.receiver = .head) (hp : s.link.partialFrame = some p) (hl : p.length < 5) :
    s.goodCharacter b = .next (s.receiving .head (p ++ [b])).transmit := by
  simp only [State.goodCharacter, h, Link.received_of_partial hp]
  exact if_pos (by rw [List.length_append, List.length_singleton]; omega)

theorem goodCharacter_head_full (h : s.link.receiver = .head) (hp : s.link.partialFrame = some p) (hl : p.length = 5) :
    s.goodCharacter b = .next (s.checkLength (p ++ [b])).transmit := by
  simp only [State.goodCharacter, h, Link.received_of_partial hp]
  exact if_neg (by rw [List.length_append, List.length_singleton]; omega)

theorem goodCharacter_body (h : s.link.receiver = .body) (hp : s.link.partialFrame = some p) (hl : 6 ≤ p.length) :
    s.goodCharacter b =
      if p.length + 1 < 6 + announced p then .next (s.receiving .body (p ++ [b])).transmit
      else .next (s.receiving .check (p ++ [b])).transmit := by
  simp only [State.goodCharacter, h, Link.received_of_partial hp, announced_append hl, List.length_append,
    List.length_singleton]
  rfl

theorem goodCharacter_check_short (h : s.link.receiver = .check) (hp : s.link.partialFrame = some p) (hl : 6 ≤ p.length)
    (hn : p.length + 1 < 8 + announced p) :
    s.goodCharacter b = .next (s.receiving .check (p ++ [b])).transmit := by
  simp only [State.goodCharacter, h, Link.received_of_partial hp, announced_append hl, List.length_append,
    List.length_singleton]
  exact if_pos hn

theorem goodCharacter_check_last (h : s.link.receiver = .check) (hp : s.link.partialFrame = some p)
    (hn : p.length + 1 = 8 + announced p) : s.goodCharacter b = s.completeFrame (p ++ [b]) := by
  simp only [State.goodCharacter, h, Link.received_of_partial hp, announced_append (show 6 ≤ p.length by omega),
    List.length_append,
    List.length_singleton]
  exact if_neg (by omega)

theorem execFrameCompletion_last (h : s.link.receiver = .check) (hp : s.link.partialFrame = some p)
    (hn : p.length + 1 = 8 + announced p) : execFrameCompletion b s = s.completeFrame (p ++ [b]) := by
  have hlacks : s.link.lacksLastByte = true := by
    simp only [Link.lacksLastByte, h, Link.received_of_partial hp, hn, beq_self_eq_true, Bool.and_self]
  rw [execFrameCompletion, if_pos hlacks, Link.received_of_partial hp]

/-- The length field of a header's six bytes, checked (R163). -/
theorem checkLength_eq (b0 b1 b2 b3 b4 : Byte) : s.checkLength [b0, b1, b2, b3, b4, b] =
    if 1100 < b4.toNat + 256 * b.toNat then s.discardPartial 6
    else if b4.toNat + 256 * b.toNat = 0 then s.receiving .check [b0, b1, b2, b3, b4, b]
    else s.receiving .body [b0, b1, b2, b3, b4, b] := by
  rw [← half_toNat]
  rfl

/-! ### A complete frame (R165, R166) -/

section

variable (hn : p.length + 1 = 8 + announced p) (b : Byte)
include hn

/-- A frame's CRC covers all between the start byte and its own two bytes (R165). -/
theorem frameSound_iff : frameSound (p ++ [b]) = true ↔
    crcBytes ((p.drop 1).take (5 + announced p)) = [p.getD (6 + announced p) 0, b] := by
  have hannounced := announced_append (show 6 ≤ p.length by omega) b
  have hcovered : ((p ++ [b]).drop 1).take (5 + announced p) = (p.drop 1).take (5 + announced p) := by
    rw [List.drop_append_of_le_length (by omega), List.take_append_of_le_length (by rw [List.length_drop]; omega)]
  have hcarried : ((p ++ [b]).drop (6 + announced p)).take 2 = [p.getD (6 + announced p) 0, b] := by
    have hlt : 6 + announced p < p.length := by omega
    rw [List.drop_append_of_le_length hlt.le, List.drop_eq_getElem_cons hlt, List.drop_of_length_le (by omega),
      List.getD_eq_getElem _ _ hlt]
    rfl
  rw [frameSound, hannounced, hcovered, hcarried, beq_iff_eq]

/-- The request that a frame carries (R190). -/
theorem frameRequest_append :
    frameRequest (p ++ [b]) = ⟨p.getD 2 0, p.getD 3 0, (p.drop 6).take (announced p)⟩ := by
  rw [frameRequest, announced_append (show 6 ≤ p.length by omega), List.getD_append _ _ _ _ (show 2 < p.length by omega),
    List.getD_append _ _ _ _ (show 3 < p.length by omega), List.drop_append_of_le_length (show 6 ≤ p.length by omega),
    List.take_append_of_le_length (by rw [List.length_drop]; omega)]

theorem completeFrame_damaged (hcrc : crcBytes ((p.drop 1).take (5 + announced p)) ≠ [p.getD (6 + announced p) 0, b]) :
    s.completeFrame (p ++ [b]) =
      .next ((s.withLink s.link.hunting).recordError .link .linkCrc (p.getD 2 0).toNat).transmit := by
  have hsound : frameSound (p ++ [b]) = false := Bool.eq_false_iff.mpr fun h => hcrc ((frameSound_iff hn b).mp h)
  rw [State.completeFrame, hsound, List.getD_append _ _ _ _ (show 2 < p.length by omega)]
  rfl

variable (hcrc : crcBytes ((p.drop 1).take (5 + announced p)) = [p.getD (6 + announced p) 0, b])
include hcrc

theorem completeFrame_other (ht : p.getD 1 0 ≠ 0x01) :
    s.completeFrame (p ++ [b]) = .next (s.withLink s.link.hunting).transmit := by
  rw [State.completeFrame, (frameSound_iff hn b).mpr hcrc, List.getD_append _ _ _ _ (show 1 < p.length by omega)]
  exact if_pos (bne_iff_ne.mpr ht)

theorem completeFrame_request (ht : p.getD 1 0 = 0x01) :
    s.completeFrame (p ++ [b]) =
      (s.withLink s.link.hunting).place ⟨p.getD 2 0, p.getD 3 0, (p.drop 6).take (announced p)⟩ := by
  rw [State.completeFrame, (frameSound_iff hn b).mpr hcrc, List.getD_append _ _ _ _ (show 1 < p.length by omega), ht,
    frameRequest_append hn b]
  rfl

end

/-! ### The hand and the waiting place (R166) -/

theorem keepWaiting_free (h : s.link.waitingPlace = none) :
    s.keepWaiting r = s.withLink { s.link with waitingPlace := some r } := by
  rw [State.keepWaiting, h]

theorem keepWaiting_full (h : s.link.waitingPlace ≠ none) :
    s.keepWaiting r = s.recordError .link .linkOverrun r.code.toNat := by
  obtain ⟨w, hw⟩ := Option.ne_none_iff_exists'.mp h
  rw [State.keepWaiting, hw]

theorem place_empty (h : s.link.hand = none) : s.place r = s.dispatch r := by rw [State.place, h]

theorem place_full (h : s.link.hand ≠ none) : s.place r = .next (s.keepWaiting r).transmit := by
  obtain ⟨q, hq⟩ := Option.ne_none_iff_exists'.mp h
  rw [State.place, hq]
  rfl

/-- A request command given with the hand full waits or is lost; its block takes no step. -/
theorem exec_full {i : Instr} (hi : encodeRequest i = some r) (h : s.link.hand ≠ none) :
    exec i s = .next (s.keepWaiting r).transmit := by
  obtain ⟨q, hq⟩ := Option.ne_none_iff_exists'.mp h
  obtain ⟨step, hstep, -⟩ := exec_takes hi s
  exact hstep.trans (respondOrDefer_full hi hq step)

/-! ### The frame of a request (R190) -/

/-- No request's payload is longer than a title may be. -/
theorem encodeRequest_payload_length {i : Instr} (hw : i.wf = true) (h : encodeRequest i = some r) :
    r.payload.length ≤ 255 := by
  cases i with
  | powerOnReset | frameStart | lineArrival | frameEnd | lossTimeout | outputFrameStart | outputFrameEnd
  | intervalExpiry | keySample | interByteTimeout | frameCompletion | transmitterFree | identityReadEnd
  | headerReadEnd | formatEraseEnd | saveEraseEnd | programEnd | commitEnd | reclaimEraseEnd | tombstoneEnd
  | recallReadEnd | exportReadEnd | characterArrival => cases h
  | lessonOpen tag title =>
    cases h
    exact of_decide_eq_true hw
  | _ =>
    cases h
    exact Nat.le_of_ble_eq_true rfl

/-- A request's frame but for its last byte announces the payload, bears its CRC and carries the request. -/
theorem requestFrame_front {front : List Byte} (hr : r.payload.length < 65536) (h : requestFrame r = front ++ [b]) :
    front.length + 1 = 8 + announced front ∧
    crcBytes ((front.drop 1).take (5 + announced front)) = [front.getD (6 + announced front) 0, b] ∧
    front.getD 1 0 = 0x01 ∧
    (⟨front.getD 2 0, front.getD 3 0, (front.drop 6).take (announced front)⟩ : Request) = r := by
  obtain ⟨code, tag, payload⟩ := r
  obtain ⟨hi, lo, hcrc⟩ : ∃ hi lo, crcBytes ([0x01, code, tag] ++ le16 payload.length ++ payload) = [hi, lo] := ⟨_, _, rfl⟩
  have hsplit : requestFrame ⟨code, tag, payload⟩ =
      ([0xC3, 0x01, code, tag] ++ le16 payload.length ++ (payload ++ [hi])) ++ [lo] := by
    show _ ++ _ ++ crcBytes _ = _
    rw [hcrc]
    simp
  obtain ⟨rfl, hb⟩ := List.append_inj' (hsplit.symm.trans h) rfl
  obtain rfl : lo = b := List.singleton_inj.mp hb
  have hannounced : announced ([0xC3, 0x01, code, tag] ++ le16 payload.length ++ (payload ++ [hi])) = payload.length :=
    half_le16 hr
  rw [hannounced]
  have hfront : (payload ++ [hi]).take payload.length = payload := List.take_left
  refine ⟨?_, ?_, rfl, ?_⟩
  · simp [le16]
    omega
  · have hcovered : (([0xC3, 0x01, code, tag] ++ le16 payload.length ++ (payload ++ [hi])).drop 1).take
        (5 + payload.length) = [0x01, code, tag] ++ le16 payload.length ++ payload := by
      rw [Nat.add_comm]
      exact congrArg ([0x01, code, tag] ++ le16 payload.length ++ ·) hfront
    have hlast : (payload ++ [hi]).getD payload.length 0 = hi := by simp
    rw [hcovered, hcrc, Nat.add_comm 6]
    exact congrArg ([·, lo]) hlast.symm
  · exact congrArg (Request.mk code tag) hfront

end Sys2Proof.Machine
end

section
/-! The receiver and the frames it completes. -/

open Sys2Proof Sys2Proof.Machine

/-- Settles O7: the line character by character, and the receiver by its state. -/
theorem receiverTakesCharacters : Obligations.ReceiverTakesCharacters := by
  refine ⟨?line, ?receiver⟩
  case line =>
    intro data sent
    refine ⟨fun cs => ?_, fun n => ?_⟩
    · have hread : readLine [] (cs.flatMap sent) = cs.map fun c => if c.2.2 then .good c.2.1 else .faulty := by
        induction cs with
        | nil => rfl
        | cons c cs ih =>
          have hsent : (c :: cs).flatMap sent = List.replicate c.1 true ++
              (false :: (List.range 8).map (fun i => c.2.1.getLsbD i) ++ c.2.2 :: cs.flatMap sent) := by
            simp [sent, data, List.range_succ]
          rw [hsent, readLine_idles, readLine_byte, ih]
          rfl
      rw [lineArrivals, hread, List.map_map]
      rfl
    · rw [lineArrivals, readLine_low, List.map_replicate]
  case receiver =>
    intro s b p receiving discarded
    refine ⟨fun h => ⟨?_, goodCharacter_hunt h⟩, fun h hp => execCharacterArrival_faulty h hp,
      fun h hp hl => goodCharacter_head_short h hp hl, fun b0 b1 b2 b3 b4 h hp he => ?_,
      fun h hp hl => goodCharacter_body h hp hl, fun h hp hl hn => goodCharacter_check_short h hp hl hn,
      fun h hp hn => (goodCharacter_check_last h hp hn).trans (execFrameCompletion_last h hp hn).symm,
      fun hp => ?_, fun hp => ?_⟩
    · show execCharacterArrival .faulty s = _
      simp only [execCharacterArrival, h, ignored]
    · subst he
      refine (goodCharacter_head_full h hp rfl).trans ?_
      show Host.Outcome.next (s.checkLength [b0, b1, b2, b3, b4, b]).transmit = _
      rw [checkLength_eq]
      split
      · rfl
      · split <;> rfl
    · show execInterByteTimeout s = _
      simp only [execInterByteTimeout, hp]
      rfl
    · show execInterByteTimeout s = _
      simp only [execInterByteTimeout, hp, ignored]

/-- Settles O8: the frame by its CRC, its type and the room there is; a request's frame passes both checks. -/
theorem frameCompletionChecks : Obligations.FrameCompletionChecks := by
  refine ⟨?frame, ?request, ?full⟩
  case frame =>
    intro s b p n code tag request u hr hp hn
    have hlast : exec (.frameCompletion b) s = s.completeFrame (p ++ [b]) := execFrameCompletion_last hr hp hn
    refine ⟨fun hcrc => hlast.trans (completeFrame_damaged hn b hcrc), fun hcrc =>
      ⟨fun ht => hlast.trans (completeFrame_other hn b hcrc ht), fun ht => ?_⟩⟩
    have hplace : exec (.frameCompletion b) s = u.place request := hlast.trans (completeFrame_request hn b hcrc ht)
    refine ⟨fun hh hw => ?_, fun hh hw => ?_, fun hs => dispatched_cases (hplace.trans (place_empty hs.1))⟩
    · exact (hplace.trans (place_full hh)).trans (by rw [keepWaiting_free (s := u) hw]; rfl)
    · exact (hplace.trans (place_full hh)).trans (by rw [keepWaiting_full (s := u) hw])
  case request =>
    intro i r s front last hw hi hframe hr hp hs
    have hlength : r.payload.length < 65536 := (encodeRequest_payload_length hw hi).trans_lt (by decide)
    obtain ⟨hn, hcrc, ht, hrequest⟩ := requestFrame_front hlength hframe
    refine (execFrameCompletion_last hr hp hn).trans ?_
    rw [completeFrame_request hn last hcrc ht, hrequest]
    exact (place_empty (s := s.withLink s.link.hunting) hs.1).trans
      (State.dispatch_command (decodeRequest_of_encodeRequest hw hi) _)
  case full =>
    intro i r s hi hh
    refine ⟨fun hw => ?_, fun hw => ?_⟩
    · rw [exec_full hi hh, keepWaiting_free hw]
      rfl
    · rw [exec_full hi hh, keepWaiting_full hw]

end

section
/-! SUPPORT. The bytes of a frame sent and the levels of its characters (R161, R165, R189, R190). -/

namespace Sys2Proof.Machine

/-- The CRC's two bytes, most significant first (R189). -/
theorem crcBytes_eq (l : List Byte) :
    crcBytes l = [BitVec.ofNat 8 ((crc16 l).toNat / 256), BitVec.ofNat 8 (crc16 l).toNat] := by
  have hhigh : halfHigh (crc16 l) = BitVec.ofNat 8 ((crc16 l).toNat / 256) := by
    apply BitVec.eq_of_toNat_eq
    simp only [halfHigh, BitVec.extractLsb'_toNat, Nat.shiftRight_eq_div_pow, BitVec.toNat_ofNat]
  have hlow : halfLow (crc16 l) = BitVec.ofNat 8 (crc16 l).toNat := by
    apply BitVec.eq_of_toNat_eq
    simp only [halfLow, BitVec.extractLsb'_toNat, Nat.shiftRight_eq_div_pow, BitVec.toNat_ofNat, Nat.pow_zero, Nat.div_one]
  rw [crcBytes, hhigh, hlow]

/-- A frame's bytes as R190 lays them out. -/
theorem frameBytes_eq (type code tag : Byte) (payload : List Byte) :
    frameBytes type code tag payload =
      0xC3 :: ([type, code, tag] ++ le16 payload.length ++ payload) ++
        [BitVec.ofNat 8 ((crc16 ([type, code, tag] ++ le16 payload.length ++ payload)).toNat / 256),
          BitVec.ofNat 8 (crc16 ([type, code, tag] ++ le16 payload.length ++ payload)).toNat] := by
  rw [← crcBytes_eq]
  rfl

/-! ### Levels (R161) -/

/-- The ten levels of a character, by their place. -/
theorem characterLevels_getD (b : Byte) {i : Nat} (hi : i < 10) (d : Bool) :
    (characterLevels b).getD i d = if i = 0 then false else if i = 9 then true else b.getLsbD (i - 1) := by
  interval_cases i <;> rfl

/-- Ten levels a byte: the level at a bit time is that of its place in the character of its byte. -/
theorem levels_getD (l : List Byte) (i : Nat) (d : Bool) :
    (l.flatMap characterLevels).getD i d = l[i / 10]?.elim d fun b => (characterLevels b).getD (i % 10) d := by
  induction l generalizing i with
  | nil => simp
  | cons b l ih =>
    rw [List.flatMap_cons]
    by_cases h : i < 10
    · rw [List.getD_append _ _ _ _ h, Nat.div_eq_of_lt h, Nat.mod_eq_of_lt h]
      rfl
    · obtain ⟨j, rfl⟩ := Nat.exists_eq_add_of_le' (Nat.le_of_not_lt h)
      rw [List.getD_append_right _ _ _ _ (Nat.le_add_left 10 j), characterLevels_length, Nat.add_sub_cancel, ih,
        Nat.add_div_right j (by decide), Nat.add_mod_right]
      rfl

/-- The wire's level, ten bit times a byte, and high after them (R161). -/
theorem Link.wireLevel_eq (l : Link) (clock : Nat) :
    l.wireLevel clock = l.transmitter.wire[clock / Config.rateDivisor l.rateIndex / 10]?.elim true fun b =>
      (characterLevels b).getD (clock / Config.rateDivisor l.rateIndex % 10) true := levels_getD _ _ _

end Sys2Proof.Machine
end

section
/-! The transmit wire. -/

open Sys2Proof Sys2Proof.Machine

/-- Settles O15: replies by their status, notices by their kind, and the levels byte by byte. -/
theorem wireBytes : Obligations.WireBytes := by
  unfold Obligations.WireBytes
  intro byte flag num2 num4 framed
  have hframed : ∀ type code tag payload, frameBytes type code tag payload = framed type code tag payload :=
    frameBytes_eq
  refine ⟨rfl, fun r => ?reply, fun n code fields h => ?notice, fun l clock => ?level⟩
  case reply =>
    refine (hframed 0x02 r.code r.tag (r.status.code :: r.results)).trans ?_
    cases r.status <;> rfl
  case notice =>
    have hkind : lowByte (n.payload.kind.val + 1) = code ∧ n.payload.bytes = fields := by
      obtain ⟨count, payload⟩ := n
      cases payload <;> exact ⟨h.1.symm, h.2.symm⟩
    refine (hframed 0x03 _ 0 _).trans ?_
    rw [hkind.1, hkind.2]
    rfl
  case level =>
    intro bit
    have hbit : clock / Config.rateDivisor l.rateIndex = bit := by
      obtain ⟨k, hk⟩ : ∃ k, l.rateIndex = k := ⟨_, rfl⟩
      simp only [bit, hk]
      fin_cases k <;> rfl
    refine ⟨fun b hb => ?_, fun hl => ?_⟩
    · rw [Link.wireLevel_eq, hbit, hb]
      exact characterLevels_getD b (Nat.mod_lt _ (by decide)) true
    · rw [Link.wireLevel_eq, hbit, List.getElem?_eq_none hl]
      rfl

end

section
/-! SUPPORT. The notice unit's choice, the recording of an error and the requests that set levels and clear records, as
equations (R170, R178, R179, R182, R185, R187). -/

namespace Sys2Proof.Machine

variable {s : State}

/-! ### The choice among the eligible kinds (R178, R179) -/

theorem NoticeRecord.eligible_iff (r : NoticeRecord) : r.eligible = true ↔ r.pending = true ∧ 1 ≤ r.level := by
  simp [NoticeRecord.eligible]

/-- Without an eligible kind nothing is chosen. -/
theorem Notices.choose_eq_none {n : Notices} (h : ∀ k, (n.get k).eligible = false) : n.choose = none :=
  List.findSome?_eq_none_iff.mpr fun l _ => Table.lowest_eq_none.mpr fun k => by rw [h k, Bool.false_and]

/-- The levels are searched from 7 down: by rising distance from the highest. -/
theorem Notices.choose_eq_findSome (n : Notices) :
    n.choose = (List.range 7).findSome? fun d => n.lowest fun r => r.eligible && r.level == 7 - d := rfl

/-- An eligible kind that no other eligible kind exceeds in level, nor precedes within its level, is chosen. -/
theorem Notices.choose_eq_some {n : Notices} {k : Fin 14} (hk : (n.get k).eligible = true) (hmax : (n.get k).level ≤ 7)
    (hbest : ∀ j, (n.get j).eligible = true →
      (n.get j).level < (n.get k).level ∨ (n.get j).level = (n.get k).level ∧ k ≤ j) :
    n.choose = some k := by
  have hmin : 1 ≤ (n.get k).level := ((n.get k).eligible_iff.mp hk).2
  have hlevel : 7 - (7 - (n.get k).level) = (n.get k).level := Nat.sub_sub_self hmax
  rw [Notices.choose_eq_findSome]
  refine findSome?_lowest (c := 7 - (n.get k).level) (Table.lowest_eq_of ?chosen fun j hj => ?earlier)
    (fun d hd => Table.lowest_eq_none.mpr fun j => ?higher) List.pairwise_lt_range (List.mem_range.mpr (by omega))
  case chosen => simp [hk, hlevel]
  case earlier =>
    rw [hlevel, Bool.and_eq_false_imp]
    intro he
    rcases hbest j he with hlt | ⟨-, hkj⟩
    · exact beq_eq_false_iff_ne.mpr hlt.ne
    · exact absurd hj (not_lt.mpr hkj)
  case higher =>
    rw [Bool.and_eq_false_imp]
    intro he
    have hle : (n.get j).level ≤ (n.get k).level := (hbest j he).elim le_of_lt fun h => h.1.le
    exact beq_eq_false_iff_ne.mpr (by omega)

/-- The frame of a kind's notice begins, and its record keeps the level alone (R170, R179). -/
theorem State.beginNotice_eq {k : Fin 14} {p : NoticePayload} (hp : (s.notices.get k).payload = some p) :
    s.beginNotice k = { s with
      link := { s.link with transmitter := .notice ⟨(s.notices.get k).count, p⟩ }
      notices := s.notices.set k ⟨(s.notices.get k).level, false, none, 0⟩ } := by
  simp only [State.beginNotice, hp]
  rfl

/-! ### The recording of an error (R185) -/

theorem ErrorRecord.matches_iff (e : ErrorRecord) (src : ErrorSource) (k : ErrorKind) :
    e.matches src k = true ↔ e.source = src ∧ e.kind = k := by
  simp [ErrorRecord.matches]

variable {src : ErrorSource} {k : ErrorKind}

/-- The table's own search for a record of a source and kind. -/
theorem any_matches_iff (l : List ErrorRecord) :
    (l.any fun e => e.matches src k) = true ↔ ∃ e ∈ l, e.source = src ∧ e.kind = k := by
  simp only [List.any_eq_true, ErrorRecord.matches_iff]

/-- Step 1: a repeat is counted in its record. -/
theorem State.recordError_known (h : ∃ e ∈ s.errors.records, e.source = src ∧ e.kind = k) (detail : Nat) :
    s.recordError src k detail = { s with
      errors := ⟨s.errors.records.map fun e =>
        if e.source = src ∧ e.kind = k then { e with count := min (e.count + 1) 255 } else e, s.errors.overflow⟩ } := by
  simp only [State.recordError, if_pos ((any_matches_iff _).mpr h), ErrorRecord.matches_iff]
  rfl

/-- Step 2: a new record is appended while there is room; the first of an empty table is announced. -/
theorem State.recordError_new (h : ¬∃ e ∈ s.errors.records, e.source = src ∧ e.kind = k)
    (hroom : s.errors.records.length < 8) (detail : Nat) :
    s.recordError src k detail =
      let t := s.withErrors
        ⟨s.errors.records ++ [⟨src, k, detail, 1, s.intake.counter⟩], s.errors.overflow⟩
      if s.errors.records = [] then t.raise (.errorPending 1 s.errors.overflow src k) else t := by
  have hcapacity : s.errors.records.length < Config.errorCapacity := hroom
  simp only [State.recordError, if_neg (mt (any_matches_iff _).mp h), if_pos hcapacity, List.isEmpty_iff]
  split
  · rename_i hempty
    rw [hempty]
    rfl
  · rfl

/-- Step 3: in a full table the error is lost; the first loss sets overflow and is announced. -/
theorem State.recordError_full (h : ¬∃ e ∈ s.errors.records, e.source = src ∧ e.kind = k)
    (hfull : 8 ≤ s.errors.records.length) (detail : Nat) :
    s.recordError src k detail =
      if s.errors.overflow then s
      else (s.withErrors ⟨s.errors.records, true⟩).raise (.errorPending s.errors.records.length true src k) := by
  have hcapacity : ¬s.errors.records.length < Config.errorCapacity := not_lt.mpr hfull
  simp only [State.recordError, if_neg (mt (any_matches_iff _).mp h), if_neg hcapacity]

/-! ### The requests (R182, R187) -/

/-- NOTICE LEVELS SET (R182), its levels given as a table. -/
theorem noticeLevelsSet_next {levels : Table Byte 14} {i : Instr} {tag : Byte}
    (hi : encodeRequest i = some ⟨0x70, tag, levels.toList⟩) (h : s.link.Free) :
    respond i s (noticeLevelsSetStep levels) = .next { s with
      notices := s.notices.mapIdx fun k r => { r with level := min (levels.toList.getD k.val 0).toNat 7 }
      link := s.link.answered ⟨0x70, tag, levels.toList⟩ (okIf (∀ l ∈ levels.toList, l.toNat ≤ 7))
        (levels.toList.map fun l => BitVec.ofNat 8 (min l.toNat 7)) } := by
  have hget : ∀ k : Fin 14, levels.toList.getD k.val 0 = levels.get k := fun k =>
    List.getD_eq_getElem _ _ (by rw [levels.length_eq]; exact k.isLt)
  have hstatus : Status.ofUnchanged (levels.toList.all fun b => decide (b.toNat ≤ 7)) =
      okIf (∀ l ∈ levels.toList, l.toNat ≤ 7) := Status.ofUnchanged_eq (by simp)
  simp only [hget, ← hstatus]
  exact respond_next hi h (step := noticeLevelsSetStep levels) rfl rfl

/-- ERROR CLEAR of the value 255 empties the table (R187). -/
theorem execErrorClear_all (h : s.link.Free) (tag : Byte) :
    execErrorClear tag 255 s = .next { s with
      errors := ⟨[], false⟩
      link := s.link.answered ⟨0x73, tag, [255]⟩ .ok [] } :=
  respond_next rfl h (step := errorClearStep 255) rfl rfl

/-- ERROR CLEAR of a record in the table: the records after it move up one place (R187). -/
theorem execErrorClear_one (h : s.link.Free) (tag : Byte) {n : Byte} (hn : n.toNat < 255)
    (hl : n.toNat < s.errors.records.length) :
    execErrorClear tag n s = .next { s with
      errors := ⟨s.errors.records.take n.toNat ++ s.errors.records.drop (n.toNat + 1), s.errors.overflow⟩
      link := s.link.answered ⟨0x73, tag, [n]⟩ .ok [] } := by
  have hstep : errorClearStep n.toNat s = (s.withErrors
      ⟨s.errors.records.take n.toNat ++ s.errors.records.drop (n.toNat + 1), s.errors.overflow⟩, Answer.ok []) := by
    rw [errorClearStep, if_neg hn.ne, if_pos hl, List.eraseIdx_eq_take_drop_succ]
  exact respond_next rfl h hstep rfl

/-- ERROR CLEAR of any other value is refused (R187). -/
theorem execErrorClear_refused (h : s.link.Free) (tag : Byte) {n : Byte} (hn : n.toNat < 255)
    (hl : s.errors.records.length ≤ n.toNat) :
    execErrorClear tag n s = .next { s with link := s.link.answered ⟨0x73, tag, [n]⟩ .refused [19] } := by
  have hstep : errorClearStep n.toNat s = (s, Answer.refused .noSuchRecord) := by
    rw [errorClearStep, if_neg hn.ne, if_neg (not_lt.mpr hl)]
  exact respond_next rfl h hstep rfl

end Sys2Proof.Machine
end

section
/-! Notices and error records. -/

open Sys2Proof Sys2Proof.Machine

/-- Settles O11: the raise writes its kind's record, and no other. -/
theorem raiseCoalesces : Obligations.RaiseCoalesces :=
  fun _ _ => ⟨Table.get_set_same _ _ _, fun _ hj => Table.get_set_other _ _ hj.symm, rfl⟩

/-- Settles O12, by what the transmitter and the waiting reply hold, and then by the notice unit's choice. -/
theorem arbiterSendsReplyThenHighestNotice : Obligations.ArbiterSendsReplyThenHighestNotice := by
  refine fun s => ⟨State.transmit_busy, fun r => State.transmit_reply, fun ht hr => ⟨fun hnone => ?idle, ?notice⟩⟩
  case idle =>
    have hchoose : s.notices.choose = none := Notices.choose_eq_none fun k =>
      Bool.eq_false_iff.mpr fun h => hnone k ((NoticeRecord.eligible_iff _).mp h)
    rw [State.transmit_choice ht hr, hchoose]
  case notice =>
    intro k p r hpending hmin hmax hp hbest
    have hchoose : s.notices.choose = some k :=
      Notices.choose_eq_some ((NoticeRecord.eligible_iff r).mpr ⟨hpending, hmin⟩) hmax fun j hj => by
        obtain ⟨hjp, hjl⟩ := (NoticeRecord.eligible_iff _).mp hj
        exact hbest j hjp hjl
    rw [State.transmit_choice ht hr, hchoose]
    exact State.beginNotice_eq hp

/-- Settles O13, by the three steps of R185. -/
theorem errorRecordingSteps : Obligations.ErrorRecordingSteps := by
  intro s src k detail t known appended
  refine ⟨fun h => State.recordError_known h detail, fun h hroom => ?room, fun h hfull => ?full⟩
  case room =>
    have hnew := State.recordError_new h hroom detail
    exact ⟨fun hne => hnew.trans (if_neg hne), fun he => hnew.trans (if_pos he)⟩
  case full =>
    have hlost := State.recordError_full h hfull detail
    exact ⟨fun ho => hlost.trans (if_pos ho), fun ho => hlost.trans (if_neg (Bool.eq_false_iff.mp ho))⟩

/-- Settles O14: the levels as one table, and ERROR CLEAR by its operand. -/
theorem noticeAndErrorSettings : Obligations.NoticeAndErrorSettings := by
  refine ⟨fun tag l1 l2 l3 l4 l5 l6 l7 l8 l9 l10 l11 l12 l13 l14 s h => ?levels, fun tag n s h => ?clear⟩
  case levels =>
    exact noticeLevelsSet_next (levels := levelTable l1 l2 l3 l4 l5 l6 l7 l8 l9 l10 l11 l12 l13 l14) rfl h
  case clear =>
    refine ⟨?_, execErrorClear_one h tag, execErrorClear_refused h tag⟩
    rintro rfl
    exact execErrorClear_all h tag

end

section
/-! SUPPORT. A step by what waits in the queue: the queue is the model's own (notes/assumptions/1.md). -/

namespace Sys2Proof.Machine

theorem step_of_pending_cons {s : State} {c : Instr} {rest : List Instr} (h : s.pending = c :: rest) :
    step s = exec c (s.withPending rest) := by rw [step, h]

theorem step_of_pending_nil {s : State} (h : s.pending = []) : step s = .next s := by rw [step, h]

end Sys2Proof.Machine
end

section
/-! The command at the front of the queue. -/

open Sys2Proof Sys2Proof.Machine

/-- Settles O1, by the two shapes of the queue. -/
theorem stepRunsFrontCommand : Obligations.StepRunsFrontCommand :=
  ⟨fun _ _ _ => step_of_pending_cons, fun _ => step_of_pending_nil⟩

end
